-- ==== Sys2Proof/Word.lean ====
section
/-! DEFINITION. The words of the hub: 32-bit registers (R413) and bytes (R3). -/

namespace Sys2Proof

/-- A 32-bit register value (R413). -/
abbrev Word := BitVec 32

/-- One byte. -/
abbrev Byte := BitVec 8

end Sys2Proof
end

