-- ==== Sys2Proof/Syntax.lean ====
section
/-! DEFINITION. The commands of the block: one constructor of `Instr` per row of the table of operations and events
(opcode_table.json), with the operands of each. The operand types stand before it. -/

namespace Sys2Proof

/-- An end of the die link (R8). -/
inductive DieEnd where
  | core | power
  deriving DecidableEq, Repr

/-- A die-link packet (R8): its first transfer's fields and its further 16-bit transfers. `parityOk` says whether every
transfer arrived with good parity. -/
structure DlPkt where
  type : BitVec 4
  seq : BitVec 4
  len : BitVec 4
  spec : BitVec 4
  data : List (BitVec 16)
  parityOk : Bool
  deriving DecidableEq, Repr

/-- A VBUS switch or a hoop (chapter Port Power and Hoops). -/
inductive Switch where
  | vbus (p : Fin 48)
  | hoop (k : Fin 12)
  deriving DecidableEq, Repr

/-- What an EVENT packet of the power die carries (R8). -/
inductive PdEvent where
  /-- a trip, with the cause code of R496 -/
  | trip (sw : Switch) (cause : BitVec 4)
  | safeStop
  | heartbeatLost
  /-- a supply outside its window (R604): number, above rather than below -/
  | supply (n : Fin 16) (high : Bool)
  | supplyRecovered (n : Fin 16)
  | holdoffEnd (sw : Switch)
  | safeStopRelease
  /-- a wake event of Rind: WAKE_N rather than SMBus -/
  | wake (waken : Bool)
  deriving DecidableEq, Repr

/-- A shaft record (R39): edge time, angle word, flags, sequence number and decimation. -/
structure ShaftRec where
  edge : BitVec 64
  angle : BitVec 32
  reverse : Bool
  homed : Bool
  index : Bool
  seq : BitVec 8
  decim : BitVec 8
  deriving DecidableEq, Repr

/-- A command packet at the hub that executes it (R382, R385): where it came from and what it says. `origin` and `chan`
are its origin node and channel, `arrival` the channel it reached this hub through, `params` header bytes 8-15 with byte
8 lowest, and `crcOk` whether its CRC-32C checks at the executing block. -/
structure Cmd where
  origin : Fin 32
  chan : BitVec 4
  arrival : Fin 7
  opcode : BitVec 8
  tag : BitVec 8
  gen : BitVec 2
  urgent : Bool
  target : BitVec 16
  params : BitVec 64
  payload : List Byte
  crcOk : Bool
  deriving DecidableEq, Repr

/-- A reply packet (R384): byte 8 is the status, `fields` are bytes 9-15 with byte 9 lowest. -/
structure ReplyPkt where
  origin : Fin 32
  chan : BitVec 4
  opcode : BitVec 8
  tag : BitVec 8
  gen : BitVec 2
  node : Fin 32
  /-- join count of the executing node, as the chain header carries it (R464, R476) -/
  join : Fin 8
  status : BitVec 8
  fields : BitVec 56
  payload : List Byte
  deriving DecidableEq, Repr

/-- Who makes a register access (R411): the arrival channel, and whether it is the processor's own load or store. -/
structure Acc where
  ch : Fin 7
  direct : Bool
  deriving DecidableEq, Repr

/-- The status of a DRAM reply (R249). -/
inductive DramStatus where
  | ok | corrected | poisoned | range | denied | hung | notInit | badRequest
  deriving DecidableEq, Repr

/-- The speed of a USB port (R165). -/
inductive UsbSpeed where
  | low | full | high
  deriving DecidableEq, Repr

/-- How a control transfer of enumeration ends (R138): with its data, or with a STALL. -/
inductive EnumResult where
  | done (data : List Byte)
  | stall
  /-- three transaction errors in a row ended it (R143) -/
  | error
  deriving DecidableEq, Repr

/-- How a USB transaction ends (R142, R143, R153). -/
inductive TxResult where
  | ack
  | nak
  | nyet
  | stall
  /-- IN data with its toggle -/
  | data (toggle : Bool) (bytes : List Byte)
  /-- timeout, CRC or bit-stuff error, or PID check failure; `nyet` of the last complete-split counts as one -/
  | error
  deriving DecidableEq, Repr

/-- A cell presented at a crossbar input (R193); `parityOk` covers the input buffer's parity. -/
structure CellIn where
  dst : BitVec 6
  cls : Fin 4
  first : Bool
  last : Bool
  valid : Fin 64
  poison : Bool
  noDl : Bool
  dl : BitVec 24
  epoch : Fin 2
  group : Fin 16
  mcast : Bool
  mgroup : BitVec 8
  rpt : Bool
  data : List Byte
  deriving DecidableEq, Repr

/-- A packet that a whey tap sees at its point (R221). -/
structure TapPkt where
  src : Fin 57
  dst : Fin 57
  cls : Fin 4
  time : BitVec 64
  poison : Bool
  mcast : Bool
  mgroup : BitVec 8
  noDl : Bool
  dl : BitVec 24
  epoch : Fin 2
  group : Fin 16
  rpt : Bool
  bytes : List Byte
  deriving DecidableEq, Repr

/-- A request packet as far as it has arrived at output 53 (R247): the crossbar input that its cells name, class and deadline
fields, the 16 bytes of the header cell, the data bytes so far, the offset of the first of them whose cell carries poison (R205),
and whether the end mark has arrived. -/
structure DramPk where
  src : Fin 57
  cls : Fin 4
  noDl : Bool
  dl : BitVec 24
  head : List Byte
  data : List Byte
  poison : Option Nat
  whole : Bool
  deriving DecidableEq, Repr

/-- What a DRAM device reports of its temperature (R265): degrees Celsius, and for DDR5 whether MR4 indicates a raised refresh
rate or a temperature above the operating range. -/
structure DevTemp where
  t : Int
  hot : Bool
  beyond : Bool
  deriving DecidableEq, Repr

/-- What ECC finds in a code word that holds no stored poison mark (R266, R267). -/
inductive EccRes where
  | clean
  | correctedBit (pin : Fin 40)
  | correctedPin (pin : Fin 40)
  | uncorrectable
  deriving DecidableEq, Repr

/-- How an attempt of a training sub-step ends (R297, R298): whether it met what its criterion asks beside the widths and
margins given here, its duration and the failing lane, the registers' values that the PHY found, and the widths found in taps or
reference steps: of S5.3 on DDR5 the CS and the CA eye of each device, of S5.5 the preamble window of each lane, of S5.7 the
margin below and above of each device. -/
structure TrainRes where
  ok : Bool
  widths : List Nat
  duration : BitVec 16
  lane : Fin 16
  /-- register values found: address and value -/
  results : List (BitVec 24 × Word)
  /-- µs since the reset ended (R591) -/
  time : BitVec 32
  deriving DecidableEq, Repr

/-- A control transfer of the command function that a reset cuts (R379): stage, bmRequestType and bRequest; stage 0 is none. -/
structure CtrlCut where
  stage : Fin 4
  reqType : BitVec 8
  request : BitVec 8
  deriving DecidableEq, Repr

/-- The features that ClearPortFeature names (R341). -/
inductive PortFeature where
  | enable | suspend | power | cConnection | cEnable | cSuspend | cOverCurrent | cReset
  deriving DecidableEq, Repr

/-- A start-split of the upstream host (R345), with the data of an OUT; a complete-split names its transaction by the same
fields. -/
structure SplitTok where
  /-- logical port -/
  port : Fin 50
  dev : Fin 128
  ep : Fin 16
  isIn : Bool
  /-- periodic (interrupt or isochronous) rather than control or bulk -/
  periodic : Bool
  /-- bytes it moves, for the periodic capacity -/
  bytes : Nat
  data : List Byte
  deriving DecidableEq, Repr

/-- A high-speed packet that the upstream host sends (R350). `csplit` is the complete-split token of a transaction of a TT of this
hub; `bufOk` says that the TT's buffer passes parity as it is read (R23). -/
inductive UpPacket where
  | sof (frame : BitVec 11)
  | token (pid : BitVec 4) (addr : Fin 128) (ep : Fin 16)
  | csplit (x : SplitTok) (bufOk : Bool)
  | data (pid : BitVec 4) (bytes : List Byte)
  | handshake (pid : BitVec 4)
  deriving DecidableEq, Repr

/-- What the host reads of the hub and the command function on endpoint 0 (R335, R337) or, of the hub, on the status-change
endpoint 0x81 (R338); `cmf` names the command function rather than the hub. -/
inductive HubRead where
  | hubDescriptor
  | device (cmf : Bool)
  | configuration (cmf : Bool)
  | bos (cmf : Bool)
  | string (cmf : Bool) (index : Fin 256)
  | changes
  deriving DecidableEq, Repr

/-- A flit of a chain link as it arrives (R458): the fields of its 4 head bytes and its 56-byte body, and whether its CRC
checks. `kind` is 0 IDLE, 1 DATA, 2 CONTROL; `fin` is 0 not last, 1 last, 2 last and poisoned. -/
structure Flit where
  kind : BitVec 2
  pool : BitVec 3
  first : Bool
  fin : BitVec 2
  seq : BitVec 8
  ack : BitVec 8
  crPool : BitVec 3
  crCount : BitVec 5
  crcOk : Bool
  body : List Byte
  deriving DecidableEq, Repr

/-- One chain port in a discovery REPORT (R467): whether it is ACTIVE, the neighbour and its port, and the link delay. -/
structure PortRep where
  active : Bool
  node : Fin 32
  port : Fin 4
  delay : BitVec 16
  deriving DecidableEq, Repr

/-- A discovery REPORT (R467): serial number, node ID and the four ports. -/
structure NodeRep where
  serial : BitVec 64
  node : Fin 32
  ports : List PortRep
  deriving DecidableEq, Repr

/-- What reaches node 0 in steps 3 and 5 of discovery (R467): a REPORT, or a hub's answer to its topology. -/
inductive DiscMsg where
  | report (r : NodeRep)
  | answer (node : Fin 32)
  deriving DecidableEq, Repr

/-- A route of a topology (R487): `port` 4 is the hub itself. -/
structure RouteTo where
  node : Fin 32
  hops : Fin 32
  join : Fin 8
  port : Fin 5
  deriving DecidableEq, Repr

/-- What node 0 sends to one hub in step 5 of discovery (R467): its routes, its tree ports, the topology ID and what
CHN_STAT shows of the topology. -/
structure TopoMsg where
  routes : List RouteTo
  parent : Option (Fin 4)
  children : List (Fin 4)
  topoId : Word
  hubs : Nat
  diameter : Nat
  /-- a hub stayed silent: the result is PARTIAL (R468) -/
  silent : Bool
  deriving DecidableEq, Repr

/-- What a DRAM reply answers: a request of a command (R395), or request `k` of a stream endpoint (R363). -/
inductive DramTo where
  | command (c : Cmd)
  | stream (e : Fin 2) (k : Nat)
  deriving DecidableEq, Repr

/-- How a boot step ends (R582). -/
structure BootRes where
  pass : Bool
  /-- what the step reports by R591; on a failure, what failed: S2 0 system PLL and 1 USB PLL, S4 0 the lowest 16 KiB -/
  detail : BitVec 16
  /-- µs since the reset ended (R591) -/
  time : BitVec 32
  /-- junction temperature that the power die reports (R301) -/
  temp : Int
  deriving DecidableEq, Repr

/-- The commands: one constructor per row of the table of operations and events. -/
inductive Instr where
  /-- DIELINK_PACKET_RX (R9): A die-link packet arrives, is checked for parity and type, and is accepted or discarded with a NAK naming the expected sequence number. -/
  | dielinkPacketRx (e : DieEnd) (pk : DlPkt)
  /-- DIELINK_ACK_RX (R9): An ACK frees the held die-link packets up to the named sequence number. -/
  | dielinkAckRx (e : DieEnd) (seq : BitVec 4)
  /-- DIELINK_NAK_RX (R9): A received NAK makes the sender replay its held packets from the one named. -/
  | dielinkNakRx (e : DieEnd) (seq : BitVec 4)
  /-- DIELINK_RESYNC_DONE (R10): The die link is back in service after RESYNC, held packets are sent again, and a write that lost its completion is answered BUSY. -/
  | dielinkResyncDone
  /-- DIELINK_EVENT_RX (R8): An EVENT packet from the power die delivers a trip, SAFE_STOP_N, supply, holdoff or wake event to the core die. -/
  | dielinkEventRx (ev : PdEvent)
  /-- HEARTBEAT_SEND (R12): Every 250 µs the healthy fault collector sends a HEARTBEAT packet carrying its count, HOOPS_OFF and mon_en bits. -/
  | heartbeatSend
  /-- HEARTBEAT_RX (R548): The power-die monitor receives a HEARTBEAT, checks its count, takes the arm and HOOPS_OFF bits and restarts its 2.0 ms timer. -/
  | heartbeatRx (count : BitVec 16) (spec : BitVec 4)
  /-- HEARTBEAT_LOST (R12): No intact HEARTBEAT for 2.0 ms, so the armed power-die monitor drops every hoop and reports HEARTBEAT_LOST. -/
  | heartbeatLost
  /-- ENCODER_EDGE (R28): An accepted quadrature level change updates the count and angle word, and on a decimated edge forms and processes a shaft record. -/
  | encoderEdge (ch : Fin 2) (a b : Bool) (samples t : Nat)
  /-- INDEX_PULSE (R29): A rising Z edge homes the channel or compares the count with N and corrects it, reporting SHAFT_INDEX on a larger difference. -/
  | indexPulse (ch : Fin 2) (level : Bool) (samples t : Nat)
  /-- SHAFT_RECORD_RX (R39): A shaft record from the master node arrives over the chain and drives the estimator, predictions, freezing and gap detection. -/
  | shaftRecordRx (src : Fin 32) (r : ShaftRec) (t : Nat)
  /-- RECORD_OVERDUE (R34): No record for twice the last interval sets stall_ev and switches live predictions to the stall-bound speed. -/
  | recordOverdue (t : Nat)
  /-- CAM_FIRE_PREDICTED (R40): The predicted chain time of a cam angle arrives and the cam channel performs its action and counts the firing. -/
  | camFirePredicted (n : Fin 32) (t : Nat)
  /-- CAM_PULSE_END (R41): A cam pulse of (width + 1) µs ends and the GPIO returns to its previous level. -/
  | camPulseEnd (n : Fin 32)
  /-- PLAUS_CHECK (R48): Every 1 ms the two estimators' angles, predictions and speeds are compared and SHAFT_PLAUS is raised on an excess. -/
  | plausCheck (t : Nat)
  /-- SOF_LAUNCH (R45): A delegated port launches the SOF of a frame or microframe at its fixed chain-time instant. -/
  | sofLaunch (p : Fin 48) (t : Nat)
  /-- FRAME_TIMER_IN_PHASE (R47): Re-phasing after a chain-time step ends and time_lock returns once every port engine is in phase. -/
  | frameTimerInPhase
  /-- STREAM_DEFINE (R66): The command writes a stream's context registers and moves it to DEFINED or FREE. -/
  | streamDefine (c : Cmd)
  /-- STREAM_ARM (R67): The command checks a stream's entries in both banks, optionally verifies data, and moves it to ARMED with the group's epoch. -/
  | streamArm (c : Cmd)
  /-- STREAM_START (R68): The command starts an armed stream or group at a start pick and registers its first commit point. -/
  | streamStart (c : Cmd)
  /-- STREAM_HALT (R100): The command halts a stream or group NOW or AT_PICK, acting at ingress. -/
  | streamHalt (c : Cmd)
  /-- HALT_ALL (R100): The command halts every stream NOW at ingress and is always answered OK. -/
  | haltAll (c : Cmd)
  /-- STREAM_SWITCH (R96): The command sets a pending switch of a group at a named pick after checking settlement and the shadow banks. -/
  | streamSwitch (c : Cmd)
  /-- TABLE_WRITE (R94): The command writes a table image into both banks, the shadow bank, or is refused TABLE_BUSY. -/
  | tableWrite (c : Cmd)
  /-- TABLE_FLIP (R98): The command changes a group's epoch at each running stream's next commit point and at once for the others. -/
  | tableFlip (c : Cmd)
  /-- GROUP_CANCEL (R99): A write of REN_GRPn_CTRL.cancel withdraws a pending switch if no stream has changed epoch, else sets cancel_late_ev. -/
  | groupCancel (a : Acc) (g : Fin 16)
  /-- GROUP_REVERT (R99): A write of REN_GRPn_CTRL.revert copies bank G over bank ¬G for dirty tables of a settled group. -/
  | groupRevert (a : Acc) (g : Fin 16)
  /-- REN_CTRL_WRITE (R107): A write of REN_CTRL sets engine and test enables, and clearing enable halts every stream NOW. -/
  | renCtrlWrite (a : Acc) (v : Word)
  /-- REN_COMMIT_FROZEN (R69): A stream's commit point freezes, fixing its epoch and bank, changing epoch if a switch is due, queuing its work and registering the next commit point. -/
  | renCommitFrozen (n : Fin 128)
  /-- REN_COMMIT_MISSED (R69): A missed or unlocked commit point halts the stream under HALT or is skipped under SKIP. -/
  | renCommitMissed (n : Fin 128)
  /-- REN_ENGINE_START (R63): A free engine takes the queued commit point with the earliest deadline once the in-flight limit allows and issues its DRAM reads. -/
  | renEngineStart (t : Nat)
  /-- REN_DRAM_DATA (R72): DRAM read data for a commit point arrives and the engine expands rows, applies transforms and the hook map and issues work items. -/
  | renDramData (e : Fin 8) (st : DramStatus) (parityOk : Bool) (count : Nat) (t : Nat)
  /-- RESYNC_COPY_DONE (R93): The resync copy of the active bank into the shadow bank ends, the group settles and switched_ev sets. -/
  | resyncCopyDone (g : Fin 16)
  /-- REN_KAT_RUN (R103): Each interval an idle engine runs its known-answer test and is taken out of service on a mismatch. -/
  | renKatRun (e : Fin 8) (pass : Bool)
  /-- PRESENCE_SAMPLE (R125): Every 1 ms a port in OFF or POWER_HOLD samples D+ and D− and updates presence after three consecutive samples. -/
  | presenceSample (p : Fin 48) (dp dm : Bool)
  /-- PORT_POWER (R128): The command switches a port's VBUS on or off, subject to holdoff, permit and budget. -/
  | portPower (c : Cmd)
  /-- VBUS_POWER_GOOD (R131): The 1 ms clean window after inrush passes and power-good is asserted, moving the port to DISCONNECTED. -/
  | vbusPowerGood (p : Fin 48)
  /-- CONNECT_DETECT (R124): A device connection is detected on a powered port and the port enters CONNECTED. -/
  | connectDetect (p : Fin 48)
  /-- CONNECT_DEBOUNCE_DONE (R124): On a delegated port 100 ms of stable connection pass and the engine drives reset. -/
  | connectDebounceDone (p : Fin 48)
  /-- PORT_RESET_DONE (R128): A port reset ends with the device attached, the speed is recorded and the port is ENABLED. -/
  | portResetDone (p : Fin 48) (speed : UsbSpeed) (attached : Bool)
  /-- DISCONNECT_DETECT (R155): A disconnect empties device entries, drops queued items, closes pipes, sends detach events and may switch VBUS off. -/
  | disconnectDetect (p : Fin 48) (sub : Fin 8)
  /-- PORT_RESET (R144): The command resets a delegated port, closes its pipes, quarantines addresses and enumerates again. -/
  | portReset (c : Cmd)
  /-- PRT_RESET (R144): A write of PRT_CTRL.reset resets and re-enumerates a delegated port. -/
  | prtReset (a : Acc) (p : Fin 48)
  /-- PRT_SUSPEND (R157): A write of PRT_CTRL.suspend stops SOF and puts an enabled delegated port in SUSPENDED. -/
  | prtSuspend (a : Acc) (p : Fin 48)
  /-- PRT_RESUME (R157): A write of PRT_CTRL.resume starts driving resume on a suspended delegated port. -/
  | prtResume (a : Acc) (p : Fin 48)
  /-- PRT_DISABLE (R164): A write of PRT_CTRL.disable disables a delegated port, closing pipes and quarantining addresses. -/
  | prtDisable (a : Acc) (p : Fin 48)
  /-- RESUME_DONE (R124): The 20 ms resume drive ends, SOF restarts and the port returns to ENABLED with the wake recorded. -/
  | resumeDone (p : Fin 48) (sub : Fin 8)
  /-- DEVICE_REMOTE_WAKE (R158): A module's K on a suspended delegated port starts a remote-wake resume or collides with a software resume. -/
  | deviceRemoteWake (p : Fin 48)
  /-- BABBLE (R144): Babble past the end of a frame puts a delegated port in ERROR and halts every pipe. -/
  | babble (p : Fin 48)
  /-- PORT_ROLE (R134): The command changes a port's role, stopping issue and closing pipes or repeating as the table sets out. -/
  | portRole (c : Cmd)
  /-- ROLE_CHANGE_COMPLETE (R134): The transaction on the wire ends, step 2 completes and the role change commits and replies. -/
  | roleChangeComplete (p : Fin 48)
  /-- ENUM_TRANSFER_DONE (R138): An enumeration control transfer completes and the engine proceeds to its next enumeration step. -/
  | enumTransferDone (p : Fin 48) (sub : Fin 8) (r : EnumResult) (errs : Nat)
  /-- ENUM_TRANSFER_TIMEOUT (R138): An enumeration control transfer exceeds 100 ms and the step is retried, the sequence restarted, or enumeration fails. -/
  | enumTransferTimeout (p : Fin 48) (sub : Fin 8) (errs : Nat)
  /-- SLOT_APPLY (R146): A write of PRT_SLOT_CTRL.apply requests a copy of the shadow slot table and sets pending. -/
  | slotApply (a : Acc) (p : Fin 48)
  /-- SLOT_COPY (R146): At the next full-speed frame boundary the shadow slot bank is copied to the active bank and waiting devices become READY. -/
  | slotCopy (p : Fin 48) (t : Nat)
  /-- MICROFRAME_START (R148): At each microframe the engine orders the due slot entries by effective deadline and starts transactions that fit. -/
  | microframeStart (p : Fin 48) (upset : List (Fin 512)) (t : Nat)
  /-- PLAYOUT_ITEM_ARRIVE (R149): A work item reaches a port engine, is checked, queued on its pipe and given its effective deadline and anchor. -/
  | playoutItemArrive (p : Fin 48) (item : List Byte) (parityOk : Bool) (t : Nat)
  /-- TRANSACTION_COMPLETE (R142): A USB transaction ends with handshake, data, NYET, STALL or error, updating toggles, queues, reports and pipe state. -/
  | transactionComplete (p : Fin 48) (pipe : Fin 512) (res : TxResult) (t : Nat)
  /-- PLAYOUT_DEADLINE_PASS (R150): An item's effective deadline passes without acknowledgement and it is discarded with DEADLINE_MISS. -/
  | playoutDeadlinePass (p : Fin 48) (t : Nat)
  /-- QUARANTINE_END (R156): 8 ms after a detached device's last pipe closed, its address leaves quarantine. -/
  | quarantineEnd (p : Fin 48) (addr : Fin 128)
  /-- PORT_KAT_RUN (R160): Every 100 ms a port engine tests its CRC logic and enters ERROR on a mismatch. -/
  | portKatRun (p : Fin 48) (pass : Bool)
  /-- PLAYING_TIMEOUT (R134): 100 ms pass without a class 1 item and PRT_STAT.playing falls. -/
  | playingTimeout (p : Fin 48) (t : Nat)
  /-- XBAR_CELL_ENQUEUE (R196): A cell enters an input buffer and its VOQ, with multicast copies enqueued per the group mask. -/
  | xbarCellEnqueue (input : Fin 57) (cell : CellIn) (groupOk : Bool)
  /-- XBAR_CELL_DELIVER (R195): A matched cell reaches its output, which checks parity and dst and delivers, poisons or discards it. -/
  | xbarCellDeliver (input output : Fin 57) (cls : Fin 4) (parityOk dstOk bufOk : Bool)
  /-- CREDIT_RETURN (R197): An output's block grants a credit of a class or pool to the crossbar. -/
  | creditReturn (output : Fin 57) (pool : Fin 5) (n : Nat)
  /-- PACKET_LOCK_TIMEOUT (R202): A locked output receives no cell for 8 µs, ends the packet with poison and releases the lock. -/
  | packetLockTimeout (output : Fin 57) (cls : Fin 4)
  /-- QUEUE_WORD_WRITE (R213): A producer writes a word into a queue once there is room, updating fill and threshold notice. -/
  | queueWordWrite (q : Fin 56) (w : Word) (last : Bool) (bytes : Fin 4) (bad : BitVec 4)
  /-- QUE_DATA_READ (R216): A read of QUE_Qn_DATA takes the next word and latches its end mark, byte count and parity into DMARK. -/
  | queDataRead (a : Acc) (q : Fin 56)
  /-- QUEUE_STALE (R215): A queue non-empty for stale × 10 µs without a read raises its stale notice. -/
  | queueStale (q : Fin 56)
  /-- REPORT_FORWARD (R218): A port engine sends a whole report packet from its FORWARD queue as class 0 to queue 51 of the target node. -/
  | reportForward (p : Fin 48)
  /-- TAP_OBSERVE (R221): A tap sees a packet of a chosen class, counts it and emits a SAMPLE or RING record or counts a lost copy. -/
  | tapObserve (n : Fin 4) (pk : TapPkt)
  /-- WTP_ENABLE (R232): Setting WTP_Tn_CFG.enable to 1 starts the tap and sets WPTR to 0. -/
  | wtpEnable (a : Acc) (n : Fin 4) (v : Word)
  /-- DRAM_REQUEST_ARRIVE (R622): A DRAM request reaches output 53 and is checked for form, initialisation, range and region, or refused. -/
  | dramRequestArrive (p : DramPk)
  /-- FRONT_ARB_GRANT (R254): With a free scheduler slot, the front arbiter grants one head request by quota, share and deadline rules. -/
  | frontArbGrant (t : Nat)
  /-- QUOTA_WINDOW_END (R255): A quota window ends and masked high-priority requesters are unmasked. -/
  | quotaWindowEnd
  /-- BANK_SCHEDULE_START (R260): The bank scheduler starts a granted request that may start, choosing due, open-row or oldest. -/
  | bankScheduleStart (openRows : List (Nat × Nat)) (ready : List Nat) (t : Nat)
  /-- DRAM_REQUEST_COMPLETE (R249): A request's last access completes, ECC is applied and the reply is sent, releasing the grant. -/
  | dramRequestComplete (slot : Fin 4) (ecc : List EccRes) (track : List (Fin 10 × Bool)) (t : Nat)
  /-- ARB_HANG (R258): The grant-hold watchdog expires, ending the request HUNG and reporting ARB_HANG. -/
  | arbHang (slot : Fin 4) (done : Fin 4)
  /-- REFRESH_DUE (R262): A refresh or RFM falls due for a rank and is issued early, postponed, or takes the rank at a burst boundary. -/
  | refreshDue (rank : Fin 2) (rfm : Bool)
  /-- RETRAIN_ROUND (R314): A periodic write and impedance retraining round of a rank runs in slices after refresh and checks drift. -/
  | retrainRound (rank : Fin 2) (moves : List (Fin 5 × Bool))
  /-- TEMP_ESTIMATE (R265): Every 32 ms the controller estimates DRAM temperature and adjusts refresh rate or reports TEMP_HIGH. -/
  | tempEstimate (junction : Int) (devs : List DevTemp)
  /-- DRAM_ALERT (R271): ALERT_N asserts and the controller waits, precharges and replays its last 16 bursts. -/
  | dramAlert (rank : Fin 2) (burst : Nat)
  /-- PATROL_SCRUB_READ (R272): Patrol scrub reads the next code word, writing back corrections and logging uncorrectable errors. -/
  | patrolScrubRead (ecc : EccRes) (counts : List Word) (track : List (Fin 10 × Bool)) (t : Nat)
  /-- DMC_ECS_NOW (R270): A write of DMC_SCRUB.ecs_now reads the DDR5 ECS counts into DMC_ECSn. -/
  | dmcEcsNow (a : Acc) (counts : List Word)
  /-- MEM_ENGINE_START (R252): Once earlier granted requests complete, the memory engine begins a MEM_FILL or MEM_CRC. -/
  | memEngineStart
  /-- ECC_INIT_DONE (R273): The memory engine finishes zeroing every code word and sets init_done. -/
  | eccInitDone
  /-- TRAINING_SUBSTEP_DONE (R298): A training sub-step ends pass or fail, and S5 proceeds, retries, falls back or fails. -/
  | trainingSubstepDone (r : TrainRes)
  /-- FLASH_OP_DONE (R305): A training cache write or erase in flash ends and flash_busy clears. -/
  | flashOpDone (fw : Bool)
  /-- DPY_INVALIDATE (R306): A write of DPY_CTRL.invalidate erases every cache entry and FULL_FAILED mark. -/
  | dpyInvalidate (a : Acc)
  /-- DPY_MARK_CLEAR (R306): A write of DPY_CTRL.mark_clear erases every FULL_FAILED mark. -/
  | dpyMarkClear (a : Acc)
  /-- HUB_CTRL_WRITE (R332): A write of HUB_CTRL.connect connects or removes the upstream pull-up, checked against the port map. -/
  | hubCtrlWrite (a : Acc) (v : Word)
  /-- VBUS_DET_FALL (R334): VBUS_DET falls, the pull-up is removed and an upstream bus reset takes effect. -/
  | vbusDetFall (cut : CtrlCut)
  /-- VBUS_DET_STABLE (R334): VBUS_DET has been high for 10 ms with connect 1 and the hub connects again. -/
  | vbusDetStable
  /-- UP_BUS_RESET (R367): An upstream bus reset resets the hub and command function, powers off hub-mode ports and applies the playout policy. -/
  | upBusReset (highSpeed : Bool) (cut : CtrlCut)
  /-- GET_HUB_STATUS (R341): The hub returns local power and global over-current status. -/
  | getHubStatus
  /-- CLEAR_HUB_FEATURE (R341): The hub clears C_HUB_LOCAL_POWER or C_HUB_OVER_CURRENT. -/
  | clearHubFeature (overCurrent : Bool)
  /-- GET_PORT_STATUS (R338): The hub returns wPortStatus and wPortChange of a logical port. -/
  | getPortStatus (n : Fin 50)
  /-- SET_PORT_FEATURE_POWER (R342): The host's power-on request for a hub-mode port powers it or is refused silently by holdoff, budget or permit. -/
  | setPortFeaturePower (n : Fin 50)
  /-- SET_PORT_FEATURE_RESET (R341): The host's reset of a logical port drives a 12 ms reset, or resets the command function for logical port 1. -/
  | setPortFeatureReset (n : Fin 50) (cut : CtrlCut)
  /-- SET_PORT_FEATURE_SUSPEND (R354): The host selectively suspends a hub-mode port or the command function. -/
  | setPortFeatureSuspend (n : Fin 50)
  /-- SET_PORT_FEATURE_TEST (R341): The host puts a port into a USB 2.0 test mode if every logical port is idle, else STALL. -/
  | setPortFeatureTest (n : Fin 50) (sel : Fin 6)
  /-- CLEAR_PORT_FEATURE (R341): The host clears PORT_ENABLE, PORT_SUSPEND, PORT_POWER or a change feature of a logical port. -/
  | clearPortFeature (n : Fin 50) (f : PortFeature)
  /-- PORT_INDICATOR_REQUEST (R341): A Set or ClearPortFeature PORT_INDICATOR is answered STALL. -/
  | portIndicatorRequest
  /-- GET_HUB_DESCRIPTOR (R337): The hub returns its descriptor built from the port map. -/
  | getHubDescriptor (what : HubRead)
  /-- UNSUPPORTED_HUB_REQUEST (R341): SetHubDescriptor, GetTTState or StopTT is answered STALL. -/
  | unsupportedHubRequest
  /-- CLEAR_TT_BUFFER (R345): The hub frees the named endpoint's non-periodic TT buffer. -/
  | clearTtBuffer (tt : Nat) (dev : Fin 128) (ep : Fin 16) (isIn : Bool)
  /-- RESET_TT (R345): The hub discards every transaction of the named TT within 10 µs. -/
  | resetTt (tt : Nat)
  /-- SET_ADDRESS_OBSERVED (R351): A SET_ADDRESS to address 0 completes its status stage and the steering table enters the new address against the owner of address 0. -/
  | setAddressObserved (addr : Fin 128)
  /-- SET_CONFIGURATION (R365): SET_CONFIGURATION or SET_INTERFACE resets toggles, discards a partial command and restarts a partly sent reply. -/
  | setConfiguration (hub : Bool) (value : Nat) (iface : Bool)
  /-- CLEAR_FEATURE_ENDPOINT_HALT (R365): Clearing an endpoint halt resets its toggle and recovers its partly moved data. -/
  | clearFeatureEndpointHalt (ep : BitVec 8)
  /-- HS_PACKET_REPEAT (R350): A high-speed packet from the host is repeated to every enabled port or the steered port. -/
  | hsPacketRepeat (pk : UpPacket)
  /-- TT_START_SPLIT (R345): A start-split enters a TT buffer, is answered NAK when full, or is discarded when periodic capacity is exceeded. -/
  | ttStartSplit (x : SplitTok)
  /-- UP_IDLE_SUSPEND (R354): After 3 ms of upstream idle the hub and command function enter suspend. -/
  | upIdleSuspend
  /-- HUB_REMOTE_WAKE (R355): A suspended hub with an enabled wake source drives K for 2 ms after 5 ms of suspend, or abandons it on a host K. -/
  | hubRemoteWake (source : Fin 4) (hostK : Bool)
  /-- HOST_RESUME (R356): The host's resume K resumes the hub, command function and hub-mode ports once, resolving a collision with a remote wake. -/
  | hostResume (during : Bool)
  /-- LPM_TRANSACTION (R358): An LPM token to the hub or command function is answered ACK, NYET or STALL and L1 is entered after ACK. -/
  | lpmTransaction (hub : Bool) (linkState : BitVec 4) (rwake : Bool)
  /-- CMD_OUT_RX (R360): Bytes on endpoint 0x01 are cut into command packets, with framing errors answered BAD_LENGTH or STALL. -/
  | cmdOutRx (bytes : List Byte) (ping : Bool) (t : Nat)
  /-- REPLY_IN_ACK (R361): The last packet of a reply on endpoint 0x81 is acknowledged and the reply leaves queue 48. -/
  | replyInAck
  /-- NOTIFY_READY (R362): A masked notification flag rises and a notification is readied or updated on endpoint 0x82. -/
  | notifyReady
  /-- NOTIFY_IN (R362): The host's IN on endpoint 0x82 takes the waiting notification. -/
  | notifyIn
  /-- STREAM_OUT_PACKET (R363): A bulk OUT packet on endpoint 0x03 is written to the bound DRAM window, or answered NAK or STALL. -/
  | streamOutPacket (bytes : List Byte) (ping : Bool)
  /-- STREAM_IN_PACKET (R363): A bulk IN on endpoint 0x83 returns the next bytes of the bound window. -/
  | streamInPacket (bufOk : Bool)
  /-- GET_CMF_INFO (R364): The vendor request returns chip ID, node, flags, firmware version and limits. -/
  | getCmfInfo
  /-- SUBMIT (R404): The vendor request delivers one channel 0 command packet through the SUBMIT buffer. -/
  | submit (bytes : List Byte)
  /-- CMF_RESYNC (R365): The vendor request resets the toggles of endpoints 0x01 and 0x81 and recovers their partial data. -/
  | cmfResync
  /-- NOP (R393): The command is accepted and answered OK. -/
  | nop (c : Cmd)
  /-- ECHO (R393): The command returns its payload unchanged. -/
  | echo (c : Cmd)
  /-- REG_RD (R411): The command reads one register after the access checks. -/
  | regRd (c : Cmd)
  /-- REG_WR (R411): The command writes one register, with byte enables, after the access checks. -/
  | regWr (c : Cmd)
  /-- REG_RMW (R412): The command reads and masked-writes a register atomically and returns the old value. -/
  | regRmw (c : Cmd)
  /-- REG_WR_KEYED (R422): The command writes a guarded register after its complement key matches. -/
  | regWrKeyed (c : Cmd)
  /-- REG_RD_BLOCK (R412): The command reads consecutive registers, or whole queue packets, up to the first refused word. -/
  | regRdBlock (c : Cmd)
  /-- MEM_RD (R395): The command reads DRAM through 256-byte requests and returns the data. -/
  | memRd (c : Cmd)
  /-- MEM_WR (R395): The command writes DRAM through 256-byte requests. -/
  | memWr (c : Cmd)
  /-- MEM_FILL (R252): The command has the memory engine fill a DRAM range with a pattern. -/
  | memFill (c : Cmd)
  /-- MEM_CRC (R252): The command has the memory engine compute the CRC-32C of a DRAM range. -/
  | memCrc (c : Cmd)
  /-- MEM_STREAM_SET (R396): The command binds or releases a stream endpoint's DRAM window. -/
  | memStreamSet (c : Cmd)
  /-- CMD_DRAM_REPLY (R395): A DRAM reply for a command's request arrives, its status is translated and the next request or final reply follows. -/
  | cmdDramReply (w : DramTo) (st : DramStatus) (data : List Byte)
  /-- MODULE_LIST (R393): The command returns the device tables of a range of ports. -/
  | moduleList (c : Cmd)
  /-- LOCK_ACQUIRE (R426): The command grants a free lock, restarts the owner's timer, or answers BUSY or LOCK_BROKEN. -/
  | lockAcquire (c : Cmd)
  /-- LOCK_RELEASE (R426): The command frees a lock held by the same origin, else BAD_STATE. -/
  | lockRelease (c : Cmd)
  /-- CFG_COMMIT (R432): The command computes and stores a block's Tally reference and marks it committed. -/
  | cfgCommit (c : Cmd)
  /-- FAULT_READ (R393): The command returns FLT_FIRST and FLT_OVF. -/
  | faultRead (c : Cmd)
  /-- FAULT_ACK (R539): The command clears the first-source latch and the group's grace timer if its value matches. -/
  | faultAck (c : Cmd)
  /-- PROOF_TEST (R554): The command starts one of the proof tests of the hoop path, heartbeat, SAFE_STOP_N, ALIVE, chain alert or self-test. -/
  | proofTest (c : Cmd)
  /-- PROOF_TEST_END (R555): A running proof test reaches its end or time limit and its outcome is stored and replied. -/
  | proofTestEnd (outcome : Fin 8) (time : Nat) (hoops : Nat) (engines : List (Fin 8)) (ports : List (Fin 48))
  /-- DOMAIN_SET (R517): The command asks the power manager to take a domain ON, to RETENTION or OFF, with refuser checks and dependencies. -/
  | domainSet (c : Cmd) (wake : BitVec 7)
  /-- DOMAIN_STATUS (R517): The command returns a domain's status word. -/
  | domainStatus (c : Cmd)
  /-- JOURNAL_READ (R593): The command returns journal records counted back from the newest. -/
  | journalRead (c : Cmd)
  /-- FW_WRITE (R396): The command programs bytes into a firmware slot that is not running. -/
  | fwWrite (c : Cmd)
  /-- FW_ACTIVATE (R588): The command authenticates a slot, marks it trial and performs a warm reset. -/
  | fwActivate (c : Cmd)
  /-- ABORT (R399): The command ends a named command before its commit point, or finds nothing to abort. -/
  | abort (c : Cmd)
  /-- CHAIN_DISCOVER (R467): The command makes node 0 run discovery and install a new topology. -/
  | chainDiscover (c : Cmd)
  /-- TIME_STATUS (R393): The command returns chain time, SHF_STAT and the offset from node 0. -/
  | timeStatus (c : Cmd)
  /-- COMMAND_PENDING_TIMEOUT (R391): A command has not reached its commit point 1 ms after reaching its executing block and a PENDING reply is sent. -/
  | commandPendingTimeout (c : Cmd)
  /-- REPLY_AT_ORIGIN (R388): A reply reaches the hub of origin and is delivered freeing its tag, or discarded as stale. -/
  | replyAtOrigin (r : ReplyPkt)
  /-- SMBUS_BLOCK_WRITE (R405): A Block Write appends bytes to the channel 1 command stream, with PEC checked and NACK when full. -/
  | smbusBlockWrite (bytes : List Byte) (pecOk : Bool)
  /-- SMBUS_BLOCK_READ (R405): A Block Read returns the next bytes of reply data from queue 49. -/
  | smbusBlockRead (n : Nat)
  /-- SMBUS_READ_WORD (R405): A Read Word returns waiting replies, outstanding commands and partial-command state. -/
  | smbusReadWord
  /-- SMBUS_SEND_BYTE (R405): A Send Byte discards any partial command and partly read reply. -/
  | smbusSendByte
  /-- SMBUS_TIMEOUT (R407): SMBCLK low for more than 25 ms makes the slave release the bus, empty queue 49 and reset channel 1. -/
  | smbusTimeout
  /-- REG_WRITE (R415): A write to a register without its own row is checked and acts on each field by its type, marking Tally blocks uncommitted. -/
  | regWrite (a : Acc) (addr : BitVec 24) (v : Word) (be : BitVec 4)
  /-- REG_PAIR_LO_READ (R414): A read of the low word of a 64-bit pair latches the high word for that arrival channel. -/
  | regPairLoRead (a : Acc) (addr : BitVec 24)
  /-- KEYED_STORE_TIMEOUT (R422): A held processor keyed store gets no matching complement within 64 cycles and is discarded with KEY_MISMATCH. -/
  | keyedStoreTimeout
  /-- REGMODE_EXPIRY (R419): GLB_REGMODE.expiry seconds after the last SERVICE write, the mode returns to NORMAL. -/
  | regmodeExpiry
  /-- LOCK_HOLD_TIMEOUT (R427): A lock's hold timer reaches LCK_CTRL.hold and the lock is force-released and marked broken. -/
  | lockHoldTimeout (n : Fin 32)
  /-- TALLY_SWEEP (R433): Tally compares committed blocks with their references and raises TALLY_MISMATCH on a difference. -/
  | tallySweep
  /-- TALLY_COMMIT_TIMEOUT (R431): A block stays uncommitted for commit_ms and TALLY_UNCOMMITTED is raised. -/
  | tallyCommitTimeout (idx : Fin 64)
  /-- CHN_CTRL_WRITE (R479): A write of CHN_CTRL enables or disables chain ports, taking links down, and sets auto_disc. -/
  | chnCtrlWrite (a : Acc) (v : Word)
  /-- LINK_TRAINED (R456): 16 intact training sets are received both ways and the chain port enters ACTIVE. -/
  | linkTrained (k : Fin 4) (nbrNode : Fin 32) (nbrPort : Fin 4)
  /-- LINK_LOSS (R457): A link loses lock, flits or replays, discards its buffers, reports CHAIN_DOWN and goes quiet. -/
  | linkLoss (k : Fin 4)
  /-- LINK_QUIET_END (R457): 1 ms of transmitter quiet ends and the port enters TRAIN. -/
  | linkQuietEnd (k : Fin 4)
  /-- FLIT_RX (R459): A flit arrives, its CRC and sequence are checked, and it is accepted or a NAK is sent. -/
  | flitRx (k : Fin 4) (f : Flit) (t : Nat)
  /-- FLIT_NAK_RX (R459): A NAK flit makes the sender replay from the named sequence number. -/
  | flitNakRx (k : Fin 4) (seq : BitVec 8)
  /-- CHAIN_PACKET_RX (R465): A whole chain packet is rebuilt and routed locally, forwarded, broadcast on tree links or discarded. -/
  | chainPacketRx (k : Fin 4) (bufOk : Bool)
  /-- SYNC_SEND (R470): Every 10 µs a parent sends SYNC on each child link. -/
  | syncSend (t : Nat)
  /-- SYNC_RX (R470): A child receives SYNC and slews or steps its chain time toward the parent's. -/
  | syncRx (k : Fin 4) (ts : Nat) (offset : BitVec 16) (t : Nat)
  /-- DELAY_REQ_SEND (R470): Every 1 ms a child sends DELAY_REQ to its parent. -/
  | delayReqSend (t : Nat) (half : Bool)
  /-- DELAY_REQ_RX (R470): A parent receives DELAY_REQ and answers DELAY_RESP at once. -/
  | delayReqRx (k : Fin 4) (t2 t3 : Nat)
  /-- DELAY_RESP_RX (R470): A child receives DELAY_RESP and updates the averaged link delay. -/
  | delayRespRx (k : Fin 4) (t2 t3 t4 : Nat)
  /-- SYNC_AGE_EXPIRY (R472): The last SYNC from the parent is more than 10 ms old and time_lock clears. -/
  | syncAgeExpiry (t : Nat)
  /-- ALERT_RX (R473): A received ALERT performs STOP_PLAYOUT, raises ALERT_RX, forwards on other tree links and acknowledges proof tests. -/
  | alertRx (k : Fin 4) (node : Fin 32) (source : BitVec 8)
  /-- PROOF_ALERT_ACK_RX (R555): A proof-test acknowledgement from another hub reaches the testing hub's fault collector and is counted. -/
  | proofAlertAckRx (node : Fin 32)
  /-- CHAN_RESET_RX (R427): A channel-reset notice arrives and locks owned through that origin channel are broken. -/
  | chanResetRx (k : Fin 4) (node : Fin 32) (chan : Fin 3)
  /-- PROBE_RX (R467): A hub receives a discovery PROBE, records the first arrival port and probes its other ports. -/
  | probeRx (k : Fin 4) (root : BitVec 64) (run : BitVec 8)
  /-- REPORT_RX (R467): Node 0 receives a hub's discovery REPORT. -/
  | reportRx (x : DiscMsg)
  /-- TOPOLOGY_RX (R467): A hub receives its routes, tree ports and join counts and holds them as pending. -/
  | topologyRx (x : Option TopoMsg)
  /-- ACTIVATE_RX (R467): A hub switches to the pending topology, sets disc_ev and handles lost nodes. -/
  | activateRx
  /-- DISCOVERY_TIMEOUT (R467): A discovery wait or answer limit expires and node 0 proceeds, leaving silent hubs out. -/
  | discoveryTimeout
  /-- LINK_DOWN_RX (R474): Node 0 receives LINK_DOWN and, with auto_disc, starts discovery within 100 µs. -/
  | linkDownRx
  /-- ROUTE_TIMEOUT (R475): No topology within 20 ms of losing the last route to node 0 clears every route to other nodes. -/
  | routeTimeout
  /-- HOOP_ON (R624): A write of PDI_HOOPk_CTRL.on starts inrush or is refused for test mode, stop cause, permit or holdoff. -/
  | hoopOn (a : Acc) (k : Fin 12)
  /-- HOOP_OFF (R508): A write of PDI_HOOPk_CTRL.off turns the hoop off without a holdoff. -/
  | hoopOff (a : Acc) (k : Fin 12)
  /-- HOOP_INRUSH_DONE (R492): HOOPk_OUT reaches VIN with the gate enhanced and inrush ends. -/
  | hoopInrushDone (k : Fin 12)
  /-- HOOP_INRUSH_TIMEOUT (R492): Inrush has not ended in time and the hoop trips with cause INRUSH. -/
  | hoopInrushTimeout (k : Fin 12)
  /-- HOOP_POWER_GOOD (R495): A 1 ms clean window after inrush passes and the hoop's power-good is asserted. -/
  | hoopPowerGood (k : Fin 12)
  /-- SWITCH_LIMIT_ENGAGE (R494): A switch reaches its current limit, regulates the current and its fault timer accumulates. -/
  | switchLimitEngage (w : Switch)
  /-- SWITCH_LIMIT_CLEAN (R494): The limiter stays inactive for 1 ms and the switch's fault timer returns to zero. -/
  | switchLimitClean (w : Switch)
  /-- FAULT_TIMER_EXPIRY (R494): A switch's fault timer reaches its set value and the switch trips with cause TIMER. -/
  | faultTimerExpiry (w : Switch)
  /-- VBUS_THERMAL_TRIP (R490): A VBUS switch exceeds its thermal limit and trips at once. -/
  | vbusThermalTrip (p : Fin 48)
  /-- VIN_UV_TRIP (R493): A hoop's VIN stays below 8.0 V for 100 µs and the hoop trips with cause VIN_UV. -/
  | vinUvTrip (k : Fin 12)
  /-- SUPPLY_FAULT (R604): A supply stays outside its window for 10 µs, raising SUPPLY_UV or SUPPLY_OV and tripping VBUS switches or hoops. -/
  | supplyFault (n : Fin 16) (high : Bool)
  /-- SUPPLY_RECOVER (R496): A faulted supply recovers and switches tripped with cause SUPPLY start their holdoff. -/
  | supplyRecover (n : Fin 16)
  /-- HOLDOFF_END (R496): A switch's holdoff runs out and it moves from HOLDOFF to LATCHED. -/
  | holdoffEnd (w : Switch)
  /-- SAFE_STOP_ASSERT (R552): SAFE_STOP_N stays low for 5 µs and the power die turns every hoop off and raises SAFE_STOP. -/
  | safeStopAssert
  /-- SAFE_STOP_RELEASE (R496): SAFE_STOP_N returns high and hoops stopped by it start their holdoff. -/
  | safeStopRelease
  /-- DOMAIN_DRAIN_DONE (R518): A domain entering RETENTION or OFF completes its held work, stops clocks, clamps and saves state or powers off. -/
  | domainDrainDone (d : Fin 19) (ok : Bool)
  /-- DOMAIN_ENTRY_TIMEOUT (R521): Step 2 of a domain entry exceeds its limit and the entry is aborted with TIMEOUT. -/
  | domainEntryTimeout (d : Fin 19)
  /-- DOMAIN_EXIT_DONE (R519): A domain leaving RETENTION or OFF is back ON, with a domain reset after OFF. -/
  | domainExitDone (d : Fin 19) (temp : Int)
  /-- DOMAIN_WAKE_SOURCE (R525): An enabled wake source of a domain in RETENTION or OFF fires and brings it ON, or aborts a pending entry. -/
  | domainWakeSource (d : Fin 19) (src : Fin 8)
  /-- ISLAND_IDLE_ENTRY (R514): An island with no word for 16 cycles gates its clock and enters IDLE. -/
  | islandIdleEntry (d : Fin 15) (i : Fin 4)
  /-- ISLAND_SLEEP_ENTRY (R514): An island idle for sleep_idle × 10 µs stops its clock source and enters SLEEP. -/
  | islandSleepEntry (d : Fin 15) (i : Fin 4)
  /-- ISLAND_WORD_ARRIVE (R16): A word arriving at an IDLE or SLEEP island restarts its clock and is handled. -/
  | islandWordArrive (d : Fin 15) (i : Fin 4)
  /-- VCORE_ASSIST_CHANGE (R515): VDD_CORE crosses 0.76 V or 0.77 V and SRAM assist is enabled or disabled. -/
  | vcoreAssistChange (mv : Nat)
  /-- CORE_WAKE_EVENT (R528): An SMBus address match or WAKE_N low for 10 µs powers the core die and boots, or turns ON the core-wake set. -/
  | coreWakeEvent (waken : Bool)
  /-- FAULT_RAISE (R538): A fault source is raised, latched first or counted as overflow, and escalates at once for class A or starts its grace timer for class B. -/
  | faultRaise (source : BitVec 8) (detail : BitVec 16)
  /-- GRACE_TIMER_EXPIRY (R544): A group's grace timer reaches its grace time and the group escalates. -/
  | graceTimerExpiry (g : Fin 8)
  /-- FLT_HANDLED (R544): A write of FLT_HANDLED cancels the named groups' grace timers without escalation. -/
  | fltHandled (a : Acc) (v : Word)
  /-- FLT_ACK_WRITE (R539): A processor write of FLT_ACK clears the first-source latch if its value matches. -/
  | fltAckWrite (a : Acc) (v : Word)
  /-- FLT_RELEASE (R547): A write of FLT_CTRL.release ends STOP_PLAYOUT, HOOPS_OFF and the ALIVE freeze if all conditions hold. -/
  | fltRelease (a : Acc)
  /-- COLLECTOR_MISMATCH (R549): The two collector copies differ, FLT_SELF is raised and HEARTBEAT_STOP is performed in hardware. -/
  | collectorMismatch
  /-- ALIVE_TOGGLE (R550): Every 500 µs the ALIVE output toggles while enabled and not frozen. -/
  | aliveToggle
  /-- FLT_INJ (R575): A write of FLT_INJ in factory test mode raises the named source. -/
  | fltInj (a : Acc) (v : Word)
  /-- FACTORY_TOKEN (R557): A factory token presented through JTAG after a strapped cold reset enters factory test mode. -/
  | factoryToken (token : List Byte) (inTime : Bool)
  /-- POWER_ON_RESET (R576): VDD_RIND rising or a supply below its reset threshold for 2 µs resets everything and boots from S0. -/
  | powerOnReset (straps : BitVec 4)
  /-- COLD_RESET (R612): RESET_N low for 1 µs resets every register and boots from S0. -/
  | coldReset (straps : BitVec 4) (lowNs : Nat)
  /-- JNL_RESET_WARM (R579): A confirmed write of JNL_RESET with kind warm resets the chip and boots from S1. -/
  | jnlResetWarm (a : Acc) (confirm : BitVec 8)
  /-- JNL_RESET_WARM_RETAIN (R578): A confirmed write of JNL_RESET with kind warm-retain halts streams, puts D4 in RETENTION and resets keeping DRAM. -/
  | jnlResetWarmRetain (a : Acc) (confirm : BitVec 8)
  /-- WATCHDOG_EXPIRY (R580): The processor watchdog expires, raising CPU_WDOG the first time and performing a warm reset the second. -/
  | watchdogExpiry
  /-- WATCHDOG_KICK (R580): A write of JNL_WDOG.kick reloads the watchdog. -/
  | watchdogKick (a : Acc)
  /-- BOOT_STEP_COMPLETE (R582): A boot step ends, its outcome is journalled and the boot proceeds, retries, degrades or enters recovery. -/
  | bootStepComplete (r : BootRes)
  /-- ALERT_N_END (R271): DDR_ALERT_N returns high after an alert, and the controller precharges all banks and replays the commands and write data of its last 16 bursts. -/
  | alertNEnd (rank : Fin 2)
  /-- PROCESSOR_FAULT (R427): A fault of the management processor resets channel 2, orphaning its outstanding commands and breaking the locks it owns with cause 2. -/
  | processorFault
  /-- DEBUG_PORT_ACCESS (R259): The unlocked JTAG debug port takes the DRAM at the next burst boundary as an emergency requester, pausing the grant-hold watchdog and the class 1 bound. -/
  | debugPortAccess (rank : Fin 2) (on : Bool)
  /-- REFRESH_COMPLETE (R262): A rank's refresh or RFM ends after tRFC, any retraining slice runs, and the interrupted request resumes with its next burst while the watchdog resumes counting. -/
  | refreshComplete (rank : Fin 2)
  /-- SET_FEATURE_DEVICE_REMOTE_WAKEUP (R355): The host sets or clears DEVICE_REMOTE_WAKEUP on the hub or the command function, enabling or disabling its remote-wake sources and updating CMF_STAT.rwake_en. -/
  | setFeatureDeviceRemoteWakeup (hub : Bool) (on : Bool)
  /-- SET_ADDRESS (R364): A SET_ADDRESS to the hub or the command function takes effect at its status stage and moves that device from DEFAULT to ADDRESS. -/
  | setAddress (hub : Bool) (addr : Fin 128)
  deriving DecidableEq, Repr

end Sys2Proof
end

