-- ==== Sys2Proof/Config.lean ====
section
/-! DEFINITION. What an implementation or the board fixes and the spec leaves open: constants with no body, so that
nothing can be proved of their values. -/

namespace Sys2Proof.Config

/-- A value the spec leaves open, one for each count of the model's counter `Mach.free`. (DESIGN CHOICE, log 7) -/
opaque freeValue : Nat → BitVec 64

/-- The 64-bit serial number in OTP (R442). (DESIGN CHOICE, log 8) -/
opaque serial : BitVec 64

/-- How far the launch instant that port engine `p` fixes for an SOF lies from the SOF's nominal chain time (R45, R46): port,
nominal chain time. (DESIGN CHOICE, log 7) -/
opaque launchError : Nat → Nat → Nat

/-- Fixed-point rounding of SHF_SPEED and SHF_ACCEL (R56, R57): whether the exact quotient (numerator, denominator) is
rounded up rather than down. (DESIGN CHOICE, log 8) -/
opaque roundUp : Int → Nat → Bool

/-- SHA-256 (R586). (DESIGN CHOICE, log 8) -/
opaque sha256 : List Byte → List Byte

/-- The key hash and the rollback minimum in OTP (R586). (DESIGN CHOICE, log 8) -/
opaque keyHash : List Byte
opaque rollbackMin : Nat

/-- Whether an ECDSA P-256 signature verifies (R586): the signed bytes, the key, the signature. (DESIGN CHOICE, log 8) -/
opaque signatureOk : List Byte → List Byte → List Byte → Bool

/-- Whether a factory token verifies (R557): serial number and token. (DESIGN CHOICE, log 8) -/
opaque tokenOk : BitVec 64 → List Byte → Bool

/-- The capacity that a DMC_CFG word outside the supported configurations gives (R240 supports no others). (DESIGN CHOICE, log 8) -/
opaque capacityOther : Word → Nat

/-- The timings that the boot ROM's tables give (R279, R280): register DMC_TCORE0 or 1, bin and density; and DMC_TREF for a bin,
a density and a refresh mode. (DESIGN CHOICE, log 8) -/
opaque romTiming : Nat → Nat → Nat → Word
opaque romRefresh : Nat → Nat → Nat → Word

end Sys2Proof.Config
end

