-- ==== Sys2Proof/Machine/Sparse.lean ====
section
/-! DEFINITION. Sparse maps in one canonical form (addresses strictly rising, no entry that equals what an unlisted
address reads as), bit fields of register words, and the byte-order helpers (R3: little-endian). -/

namespace Sys2Proof.Machine

/-- A sparse map: what is not listed reads as the default that the reader names. -/
abbrev Sp (α : Type) := List (Nat × α)

/-- The value at a key, or the default. (DESIGN CHOICE, log 2) -/
def spGet {α : Type} (d : α) : Sp α → Nat → α
  | [], _ => d
  | (k, v) :: m, a => if k = a then v else spGet d m a

/-- Drop a key. -/
def spDel {α : Type} : Sp α → Nat → Sp α
  | [], _ => []
  | (k, v) :: m, a => if k = a then spDel m a else (k, v) :: spDel m a

/-- Put a pair before the first greater key. -/
def spIns {α : Type} : Sp α → Nat → α → Sp α
  | [], a, v => [(a, v)]
  | (k, w) :: m, a, v => if a < k then (a, v) :: (k, w) :: m else (k, w) :: spIns m a v

/-- Set a key, keeping the canonical form: a value equal to the default is not listed. -/
def spSet {α : Type} [DecidableEq α] (d : α) (m : Sp α) (a : Nat) (v : α) : Sp α :=
  if v = d then spDel m a else spIns (spDel m a) a v

/-- Keep the keys a test accepts. -/
def spKeep {α : Type} (p : Nat → Bool) : Sp α → Sp α
  | [] => []
  | (k, v) :: m => if p k then (k, v) :: spKeep p m else spKeep p m

/-- Every key is at least `lo` and the keys rise strictly. -/
def spSorted {α : Type} : Nat → Sp α → Bool
  | _, [] => true
  | lo, (k, _) :: m => decide (lo ≤ k) && spSorted (k + 1) m

/-- The canonical form: strictly rising keys, no entry equal to the default of its key. -/
def spWf {α : Type} [DecidableEq α] (d : Nat → α) (m : Sp α) : Bool :=
  spSorted 0 m && m.all (fun e => decide (e.2 ≠ d e.1))

/-- The place of a bit field: its lowest bit and its width. -/
structure Fd where
  lo : Nat
  n : Nat
  deriving DecidableEq, Repr

/-- The access types of R415. -/
inductive FAcc where
  | rw | ro | seq | w1c | cnt | cmd | key
  deriving DecidableEq, Repr

/-- A field of a register row: place and access type. -/
structure RegField where
  lo : Nat
  n : Nat
  acc : FAcc
  deriving DecidableEq, Repr

/-- One row of the register table: the registers at `base + s1 * i + s2 * j` with `i < c1` and `j < c2`. -/
structure RegRow where
  base : Nat
  s1 : Nat
  c1 : Nat
  s2 : Nat
  c2 : Nat
  /-- A CONFIG register (R430). -/
  config : Bool
  /-- The guard group of its KEY, LCK fields (R420). -/
  guard : Option Nat
  reset : Word
  fields : List RegField
  deriving DecidableEq, Repr

/-- A field's value. -/
def getF (w : Word) (f : Fd) : Nat := w.toNat / 2 ^ f.lo % 2 ^ f.n

/-- A word with one field replaced. -/
def setF (w : Word) (f : Fd) (v : Nat) : Word :=
  BitVec.ofNat 32 (w.toNat - getF w f * 2 ^ f.lo + v % 2 ^ f.n * 2 ^ f.lo)

/-- 1 or 0. -/
def b2n (b : Bool) : Nat := if b then 1 else 0

/-- Bit `i` of a number. -/
def bitN (v i : Nat) : Bool := v / 2 ^ i % 2 == 1

/-- A number with bit `i` set to `b`. -/
def setBitN (v i : Nat) (b : Bool) : Nat := v - b2n (bitN v i) * 2 ^ i + b2n b * 2 ^ i

/-- The little-endian bytes of a number (R3). -/
def leBytes : Nat → Nat → List Byte
  | 0, _ => []
  | k + 1, v => BitVec.ofNat 8 v :: leBytes k (v / 256)

/-- The number that little-endian bytes spell (R3). -/
def leNat : List Byte → Nat
  | [] => 0
  | b :: bs => b.toNat + 256 * leNat bs

/-- A slice of a byte list. -/
def slice (bs : List Byte) (off len : Nat) : List Byte := (bs.drop off).take len

/-- The little-endian number in `len` bytes at an offset. -/
def leAt (bs : List Byte) (off len : Nat) : Nat := leNat (slice bs off len)

/-- Two's complement reading of an `n`-bit number. -/
def sext (n v : Nat) : Int := if v % 2 ^ n < 2 ^ (n - 1) then (v % 2 ^ n : Nat) else (v % 2 ^ n : Nat) - (2 ^ n : Nat)

/-- The `n`-bit two's complement of an integer. -/
def twos (n : Nat) (i : Int) : Nat := (i % (2 ^ n : Nat)).toNat

/-- The numbers 0 to n - 1. -/
def upTo (n : Nat) : List Nat := List.range n

/-- Fold a state over a list of numbers. -/
def forEach {σ α : Type} (l : List α) (f : α → σ → σ) (s : σ) : σ := l.foldl (fun s a => f a s) s

end Sys2Proof.Machine
end

