-- ==== Sys2Proof/Machine/RegMap.lean ====
section
/-! DEFINITION. The addresses and the fields of every register of the hub, as the register tables of the spec's chapters
give them (the block bases are R409's). `NAME` is a register's address (a function where the register is indexed),
`NAME_field` the place of one of its fields. -/

namespace Sys2Proof.Machine.Reg

/-! SHF_ registers (02_machine_time.md) -/
/-- R49. -/
def SHF_CTRL : Nat := 0xc0000
def SHF_CTRL_master_node : Fd := ⟨8, 5⟩
def SHF_CTRL_aux_mode : Fd := ⟨6, 2⟩
def SHF_CTRL_source : Fd := ⟨4, 2⟩
def SHF_CTRL_publish : Fd := ⟨3, 1⟩
def SHF_CTRL_enable : Fd := ⟨0, 1⟩
/-- R50. -/
def SHF_STAT : Nat := 0xc0004
def SHF_STAT_seq : Fd := ⟨24, 8⟩
def SHF_STAT_homed : Fd := ⟨19, 1⟩
def SHF_STAT_time_lock : Fd := ⟨18, 1⟩
def SHF_STAT_reverse : Fd := ⟨17, 1⟩
def SHF_STAT_lock : Fd := ⟨16, 1⟩
def SHF_STAT_unlock_ev : Fd := ⟨5, 1⟩
def SHF_STAT_stall_ev : Fd := ⟨4, 1⟩
def SHF_STAT_reverse_ev : Fd := ⟨3, 1⟩
def SHF_STAT_plaus_ev : Fd := ⟨2, 1⟩
def SHF_STAT_index_ev : Fd := ⟨1, 1⟩
def SHF_STAT_enc_ev : Fd := ⟨0, 1⟩
/-- R51. -/
def SHF_ENC0_CFG : Nat := 0xc0010
def SHF_ENC0_CFG_cpr_m1 : Fd := ⟨16, 16⟩
def SHF_ENC0_CFG_filter : Fd := ⟨12, 4⟩
def SHF_ENC0_CFG_decim : Fd := ⟨8, 4⟩
def SHF_ENC0_CFG_z_en : Fd := ⟨7, 1⟩
def SHF_ENC0_CFG_reverse : Fd := ⟨6, 1⟩
/-- R51. -/
def SHF_ENC1_CFG : Nat := 0xc0014
def SHF_ENC1_CFG_cpr_m1 : Fd := ⟨16, 16⟩
def SHF_ENC1_CFG_filter : Fd := ⟨12, 4⟩
def SHF_ENC1_CFG_decim : Fd := ⟨8, 4⟩
def SHF_ENC1_CFG_z_en : Fd := ⟨7, 1⟩
def SHF_ENC1_CFG_reverse : Fd := ⟨6, 1⟩
/-- R52. -/
def SHF_ENC0_ZOFF : Nat := 0xc0018
def SHF_ENC0_ZOFF_zoff : Fd := ⟨0, 16⟩
/-- R52. -/
def SHF_ENC1_ZOFF : Nat := 0xc001c
def SHF_ENC1_ZOFF_zoff : Fd := ⟨0, 16⟩
/-- R53. -/
def SHF_EST : Nat := 0xc0020
def SHF_EST_window : Fd := ⟨16, 8⟩
def SHF_EST_min_speed : Fd := ⟨0, 16⟩
/-- R54. -/
def SHF_PLAUS : Nat := 0xc0024
def SHF_PLAUS_speed_tol : Fd := ⟨16, 8⟩
def SHF_PLAUS_angle_tol : Fd := ⟨0, 16⟩
/-- R55. -/
def SHF_ANGLE : Nat := 0xc0028
def SHF_ANGLE_angle : Fd := ⟨0, 32⟩
/-- R55. -/
def SHF_AUX_ANGLE : Nat := 0xc002c
def SHF_AUX_ANGLE_angle : Fd := ⟨0, 32⟩
/-- R56. -/
def SHF_SPEED : Nat := 0xc0030
def SHF_SPEED_speed : Fd := ⟨0, 32⟩
/-- R57. -/
def SHF_ACCEL : Nat := 0xc0034
def SHF_ACCEL_accel : Fd := ⟨0, 32⟩
/-- R58. -/
def SHF_CTIME_LO : Nat := 0xc0038
def SHF_CTIME_LO_ctime_lo : Fd := ⟨0, 32⟩
/-- R59. -/
def SHF_CTIME_HI : Nat := 0xc003c
def SHF_CTIME_HI_ctime_hi : Fd := ⟨0, 32⟩
/-- R60. -/
def SHF_ENC_ERR : Nat := 0xc0040
def SHF_ENC_ERR_enc1_err : Fd := ⟨16, 16⟩
def SHF_ENC_ERR_enc0_err : Fd := ⟨0, 16⟩
/-- R61. -/
def SHF_CAM_CFG (n : Nat) : Nat := 0xc0100 + 0x8 * n
def SHF_CAM_CFG_angle : Fd := ⟨16, 16⟩
def SHF_CAM_CFG_gpio : Fd := ⟨11, 5⟩
def SHF_CAM_CFG_action : Fd := ⟨8, 3⟩
def SHF_CAM_CFG_count_mode : Fd := ⟨7, 1⟩
def SHF_CAM_CFG_event : Fd := ⟨6, 1⟩
def SHF_CAM_CFG_width : Fd := ⟨0, 6⟩
/-- R62. -/
def SHF_CAM_CNT (n : Nat) : Nat := 0xc0104 + 0x8 * n
def SHF_CAM_CNT_fired : Fd := ⟨0, 32⟩
/-! REN_ registers (03_rennet.md) -/
/-- R107. -/
def REN_CTRL : Nat := 0x80000
def REN_CTRL_engine_en : Fd := ⟨8, 8⟩
def REN_CTRL_kat_en : Fd := ⟨1, 1⟩
def REN_CTRL_enable : Fd := ⟨0, 1⟩
/-- R108. -/
def REN_STAT : Nat := 0x80004
def REN_STAT_seq : Fd := ⟨24, 8⟩
def REN_STAT_engine_fail : Fd := ⟨16, 8⟩
def REN_STAT_stop : Fd := ⟨15, 1⟩
def REN_STAT_format_ev : Fd := ⟨3, 1⟩
def REN_STAT_clamp_ev : Fd := ⟨2, 1⟩
def REN_STAT_drop_ev : Fd := ⟨1, 1⟩
def REN_STAT_kat_ev : Fd := ⟨0, 1⟩
/-- R109. -/
def REN_KAT_CFG : Nat := 0x80008
def REN_KAT_CFG_interval : Fd := ⟨0, 8⟩
/-- R110. -/
def REN_KAT_CNT : Nat := 0x8000c
def REN_KAT_CNT_passed : Fd := ⟨0, 32⟩
/-- R111. -/
def REN_PICK : Nat := 0x80010
def REN_PICK_ext : Fd := ⟨16, 16⟩
def REN_PICK_rev : Fd := ⟨0, 16⟩
/-- R112. -/
def REN_GRP_CTRL (n : Nat) : Nat := 0x80100 + 0x10 * n
def REN_GRP_CTRL_revert : Fd := ⟨1, 1⟩
def REN_GRP_CTRL_cancel : Fd := ⟨0, 1⟩
/-- R113. -/
def REN_GRP_STAT (n : Nat) : Nat := 0x80104 + 0x10 * n
def REN_GRP_STAT_seq : Fd := ⟨24, 8⟩
def REN_GRP_STAT_pending : Fd := ⟨7, 1⟩
def REN_GRP_STAT_settled : Fd := ⟨6, 1⟩
def REN_GRP_STAT_epoch : Fd := ⟨5, 1⟩
def REN_GRP_STAT_dirty : Fd := ⟨4, 1⟩
def REN_GRP_STAT_cancel_late_ev : Fd := ⟨1, 1⟩
def REN_GRP_STAT_switched_ev : Fd := ⟨0, 1⟩
/-- R114. -/
def REN_GRP_SWPICK (n : Nat) : Nat := 0x80108 + 0x10 * n
def REN_GRP_SWPICK_pick : Fd := ⟨0, 32⟩
/-- R115. -/
def REN_GRP_FLIGHT (n : Nat) : Nat := 0x8010c + 0x10 * n
def REN_GRP_FLIGHT_inflight1 : Fd := ⟨16, 12⟩
def REN_GRP_FLIGHT_inflight0 : Fd := ⟨0, 12⟩
/-- R116. -/
def REN_S_CTRL (n : Nat) : Nat := 0x90000 + 0x200 * n
def REN_S_CTRL_group : Fd := ⟨28, 4⟩
def REN_S_CTRL_n_commit_m1 : Fd := ⟨26, 2⟩
def REN_S_CTRL_unlock : Fd := ⟨24, 2⟩
def REN_S_CTRL_step_log2 : Fd := ⟨20, 4⟩
def REN_S_CTRL_kind : Fd := ⟨0, 2⟩
/-- R117. -/
def REN_S_TIMING (n : Nat) : Nat := 0x90004 + 0x200 * n
def REN_S_TIMING_lead : Fd := ⟨16, 16⟩
def REN_S_TIMING_prep : Fd := ⟨0, 16⟩
/-- R118. -/
def REN_S_ANGLE01 (n : Nat) : Nat := 0x90008 + 0x200 * n
def REN_S_ANGLE01_angle_hi : Fd := ⟨16, 16⟩
def REN_S_ANGLE01_angle_lo : Fd := ⟨0, 16⟩
/-- R118. -/
def REN_S_ANGLE23 (n : Nat) : Nat := 0x9000c + 0x200 * n
def REN_S_ANGLE23_angle_hi : Fd := ⟨16, 16⟩
def REN_S_ANGLE23_angle_lo : Fd := ⟨0, 16⟩
/-- R119. -/
def REN_S_STAT (n : Nat) : Nat := 0x90010 + 0x200 * n
def REN_S_STAT_seq : Fd := ⟨24, 8⟩
def REN_S_STAT_state : Fd := ⟨21, 3⟩
def REN_S_STAT_epoch : Fd := ⟨20, 1⟩
def REN_S_STAT_last_drop : Fd := ⟨16, 4⟩
def REN_S_STAT_halt_ev : Fd := ⟨3, 1⟩
def REN_S_STAT_skip_ev : Fd := ⟨2, 1⟩
def REN_S_STAT_clamp_ev : Fd := ⟨1, 1⟩
def REN_S_STAT_drop_ev : Fd := ⟨0, 1⟩
/-- R120. -/
def REN_S_PICK (n : Nat) : Nat := 0x90014 + 0x200 * n
def REN_S_PICK_pick : Fd := ⟨0, 32⟩
/-- R121. -/
def REN_S_ORIGIN (n : Nat) : Nat := 0x90018 + 0x200 * n
def REN_S_ORIGIN_origin : Fd := ⟨0, 32⟩
/-- R122. -/
def REN_S_DROP (n : Nat) : Nat := 0x9001c + 0x200 * n
def REN_S_DROP_count : Fd := ⟨0, 32⟩
/-- R122. -/
def REN_S_SKIP (n : Nat) : Nat := 0x90020 + 0x200 * n
def REN_S_SKIP_count : Fd := ⟨0, 32⟩
/-- R122. -/
def REN_S_CLAMP (n : Nat) : Nat := 0x90024 + 0x200 * n
def REN_S_CLAMP_count : Fd := ⟨0, 32⟩
/-! PRT_ registers (04_downstream_ports.md) -/
/-- R162. -/
def PRT_ROLE (n : Nat) : Nat := 0x40000 + 0x1000 * n
def PRT_ROLE_role : Fd := ⟨0, 2⟩
/-- R163. -/
def PRT_CFG (n : Nat) : Nat := 0x40004 + 0x1000 * n
def PRT_CFG_enum_retries : Fd := ⟨13, 3⟩
def PRT_CFG_max_speed : Fd := ⟨8, 2⟩
def PRT_CFG_hub_tier_en : Fd := ⟨4, 1⟩
def PRT_CFG_kat_en : Fd := ⟨2, 1⟩
def PRT_CFG_rwake_en : Fd := ⟨1, 1⟩
def PRT_CFG_detach_off : Fd := ⟨0, 1⟩
/-- R164. -/
def PRT_CTRL (n : Nat) : Nat := 0x40008 + 0x1000 * n
def PRT_CTRL_resume : Fd := ⟨3, 1⟩
def PRT_CTRL_suspend : Fd := ⟨2, 1⟩
def PRT_CTRL_disable : Fd := ⟨1, 1⟩
def PRT_CTRL_reset : Fd := ⟨0, 1⟩
/-- R165. -/
def PRT_STAT (n : Nat) : Nat := 0x4000c + 0x1000 * n
def PRT_STAT_seq : Fd := ⟨24, 8⟩
def PRT_STAT_state : Fd := ⟨20, 4⟩
def PRT_STAT_speed : Fd := ⟨18, 2⟩
def PRT_STAT_present : Fd := ⟨17, 1⟩
def PRT_STAT_vbus_good : Fd := ⟨16, 1⟩
def PRT_STAT_playing : Fd := ⟨15, 1⟩
def PRT_STAT_hub_tier : Fd := ⟨14, 1⟩
def PRT_STAT_last_drop : Fd := ⟨10, 4⟩
def PRT_STAT_kat_ev : Fd := ⟨8, 1⟩
def PRT_STAT_err_ev : Fd := ⟨7, 1⟩
def PRT_STAT_halt_ev : Fd := ⟨6, 1⟩
def PRT_STAT_drop_ev : Fd := ⟨5, 1⟩
def PRT_STAT_wake_ev : Fd := ⟨4, 1⟩
def PRT_STAT_enum_ev : Fd := ⟨3, 1⟩
def PRT_STAT_hold_ev : Fd := ⟨2, 1⟩
def PRT_STAT_detach_ev : Fd := ⟨1, 1⟩
def PRT_STAT_attach_ev : Fd := ⟨0, 1⟩
/-- R166. -/
def PRT_ENUM (n : Nat) : Nat := 0x40010 + 0x1000 * n
def PRT_ENUM_step : Fd := ⟨16, 8⟩
def PRT_ENUM_result : Fd := ⟨8, 8⟩
def PRT_ENUM_attempts : Fd := ⟨4, 4⟩
def PRT_ENUM_sub : Fd := ⟨0, 3⟩
/-- R167. -/
def PRT_WAKE (n : Nat) : Nat := 0x40014 + 0x1000 * n
def PRT_WAKE_count : Fd := ⟨16, 16⟩
def PRT_WAKE_reason : Fd := ⟨6, 2⟩
def PRT_WAKE_collided : Fd := ⟨5, 1⟩
def PRT_WAKE_sub : Fd := ⟨0, 3⟩
/-- R168. -/
def PRT_SLOT_CTRL (n : Nat) : Nat := 0x40018 + 0x1000 * n
def PRT_SLOT_CTRL_pending : Fd := ⟨8, 1⟩
def PRT_SLOT_CTRL_apply : Fd := ⟨0, 1⟩
/-- R169. -/
def PRT_SOFCOMP (n : Nat) : Nat := 0x4001c + 0x1000 * n
def PRT_SOFCOMP_delay : Fd := ⟨0, 16⟩
/-- R170. -/
def PRT_DROP (n : Nat) : Nat := 0x40020 + 0x1000 * n
def PRT_DROP_count : Fd := ⟨0, 32⟩
/-- R170. -/
def PRT_XERR (n : Nat) : Nat := 0x40024 + 0x1000 * n
def PRT_XERR_count : Fd := ⟨0, 32⟩
/-- R170. -/
def PRT_SLOT_OVR (n : Nat) : Nat := 0x40028 + 0x1000 * n
def PRT_SLOT_OVR_count : Fd := ⟨0, 32⟩
/-- R171. -/
def PRT_DEV (n : Nat) (m : Nat) : Nat := 0x40040 + 0x1000 * n + 0x4 * m
def PRT_DEV_prep : Fd := ⟨16, 16⟩
def PRT_DEV_gen : Fd := ⟨12, 4⟩
def PRT_DEV_speed : Fd := ⟨10, 2⟩
def PRT_DEV_state : Fd := ⟨8, 2⟩
def PRT_DEV_addr : Fd := ⟨0, 7⟩
/-! XBR_ registers (06_crossbar_queues.md) -/
/-- R224. -/
def XBR_CTRL : Nat := 0xd0000
def XBR_CTRL_share : Fd := ⟨8, 8⟩
def XBR_CTRL_ct_en : Fd := ⟨1, 1⟩
/-- R225. -/
def XBR_STAT : Nat := 0xd0004
def XBR_STAT_seq : Fd := ⟨24, 8⟩
def XBR_STAT_lock_to_ev : Fd := ⟨3, 1⟩
def XBR_STAT_poison_ev : Fd := ⟨2, 1⟩
def XBR_STAT_misroute_ev : Fd := ⟨1, 1⟩
def XBR_STAT_parity_ev : Fd := ⟨0, 1⟩
/-- R226. -/
def XBR_PERR_CNT : Nat := 0xd0010
def XBR_PERR_CNT_count : Fd := ⟨0, 32⟩
/-- R226. -/
def XBR_MISR_CNT : Nat := 0xd0014
def XBR_MISR_CNT_count : Fd := ⟨0, 32⟩
/-- R226. -/
def XBR_POISON_CNT : Nat := 0xd0018
def XBR_POISON_CNT_count : Fd := ⟨0, 32⟩
/-- R227. -/
def XBR_LAST_ERR : Nat := 0xd001c
def XBR_LAST_ERR_out_port : Fd := ⟨26, 6⟩
def XBR_LAST_ERR_in_port : Fd := ⟨20, 6⟩
def XBR_LAST_ERR_class : Fd := ⟨18, 2⟩
def XBR_LAST_ERR_kind : Fd := ⟨16, 2⟩
/-- R228. -/
def XBR_IN_OCC (n : Nat) : Nat := 0xd0100 + 0x4 * n
def XBR_IN_OCC_class3 : Fd := ⟨24, 8⟩
def XBR_IN_OCC_class2 : Fd := ⟨16, 8⟩
def XBR_IN_OCC_class1 : Fd := ⟨8, 8⟩
def XBR_IN_OCC_class0 : Fd := ⟨0, 8⟩
/-! WTP_ registers (06_crossbar_queues.md) -/
/-- R229. -/
def WTP_T_CFG (n : Nat) : Nat := 0xd1000 + 0x20 * n
def WTP_T_CFG_enable : Fd := ⟨31, 1⟩
def WTP_T_CFG_dir : Fd := ⟨30, 1⟩
def WTP_T_CFG_port : Fd := ⟨24, 6⟩
def WTP_T_CFG_class_mask : Fd := ⟨20, 4⟩
def WTP_T_CFG_mode : Fd := ⟨18, 2⟩
def WTP_T_CFG_ring_stop : Fd := ⟨17, 1⟩
/-- R230. -/
def WTP_T_RATE (n : Nat) : Nat := 0xd1004 + 0x20 * n
def WTP_T_RATE_n_m1 : Fd := ⟨0, 16⟩
/-- R231. -/
def WTP_T_RBASE (n : Nat) : Nat := 0xd1008 + 0x20 * n
def WTP_T_RBASE_firkin : Fd := ⟨0, 24⟩
/-- R231. -/
def WTP_T_RSIZE (n : Nat) : Nat := 0xd100c + 0x20 * n
def WTP_T_RSIZE_size_m1 : Fd := ⟨0, 20⟩
/-- R232. -/
def WTP_T_WPTR (n : Nat) : Nat := 0xd1010 + 0x20 * n
def WTP_T_WPTR_count : Fd := ⟨0, 32⟩
/-- R232. -/
def WTP_T_LOST (n : Nat) : Nat := 0xd1014 + 0x20 * n
def WTP_T_LOST_count : Fd := ⟨0, 32⟩
/-- R233. -/
def WTP_T_STAT (n : Nat) : Nat := 0xd1018 + 0x20 * n
def WTP_T_STAT_seq : Fd := ⟨24, 8⟩
def WTP_T_STAT_tap_seq : Fd := ⟨8, 16⟩
def WTP_T_STAT_full : Fd := ⟨2, 1⟩
def WTP_T_STAT_full_ev : Fd := ⟨1, 1⟩
def WTP_T_STAT_lost_ev : Fd := ⟨0, 1⟩
/-! QUE_ registers (06_crossbar_queues.md) -/
/-- R234. -/
def QUE_Q_CFG (n : Nat) : Nat := 0xe0000 + 0x20 * n
def QUE_Q_CFG_mode : Fd := ⟨30, 2⟩
def QUE_Q_CFG_fwd_node : Fd := ⟨24, 5⟩
def QUE_Q_CFG_pkt_thresh : Fd := ⟨16, 8⟩
def QUE_Q_CFG_stale : Fd := ⟨0, 14⟩
/-- R235. -/
def QUE_Q_STAT (n : Nat) : Nat := 0xe0004 + 0x20 * n
def QUE_Q_STAT_seq : Fd := ⟨24, 8⟩
def QUE_Q_STAT_full : Fd := ⟨4, 1⟩
def QUE_Q_STAT_notice : Fd := ⟨3, 1⟩
def QUE_Q_STAT_stale_ev : Fd := ⟨2, 1⟩
def QUE_Q_STAT_thresh_ev : Fd := ⟨1, 1⟩
def QUE_Q_STAT_perr_ev : Fd := ⟨0, 1⟩
/-- R236. -/
def QUE_Q_CAP (n : Nat) : Nat := 0xe0008 + 0x20 * n
def QUE_Q_CAP_words : Fd := ⟨0, 16⟩
/-- R237. -/
def QUE_Q_FILL (n : Nat) : Nat := 0xe000c + 0x20 * n
def QUE_Q_FILL_words : Fd := ⟨16, 16⟩
def QUE_Q_FILL_packets : Fd := ⟨0, 16⟩
/-- R238. -/
def QUE_Q_DATA (n : Nat) : Nat := 0xe0010 + 0x20 * n
def QUE_Q_DATA_data : Fd := ⟨0, 32⟩
/-- R239. -/
def QUE_Q_DMARK (n : Nat) : Nat := 0xe0014 + 0x20 * n
def QUE_Q_DMARK_empty : Fd := ⟨31, 1⟩
def QUE_Q_DMARK_end : Fd := ⟨30, 1⟩
def QUE_Q_DMARK_bytes : Fd := ⟨28, 2⟩
def QUE_Q_DMARK_perr : Fd := ⟨27, 1⟩
/-! DMC_ registers (07_dram_controller.md) -/
/-- R277. -/
def DMC_CFG : Nat := 0x100000
def DMC_CFG_bin : Fd := ⟨16, 4⟩
def DMC_CFG_refresh : Fd := ⟨12, 2⟩
def DMC_CFG_density : Fd := ⟨10, 2⟩
def DMC_CFG_org : Fd := ⟨9, 1⟩
def DMC_CFG_ranks_m1 : Fd := ⟨8, 1⟩
def DMC_CFG_gen : Fd := ⟨3, 1⟩
def DMC_CFG_wcrc : Fd := ⟨1, 1⟩
def DMC_CFG_capar : Fd := ⟨0, 1⟩
/-- R278. -/
def DMC_STAT : Nat := 0x100004
def DMC_STAT_seq : Fd := ⟨24, 8⟩
def DMC_STAT_bin_act : Fd := ⟨20, 4⟩
def DMC_STAT_init_done : Fd := ⟨19, 1⟩
def DMC_STAT_selfref : Fd := ⟨18, 1⟩
def DMC_STAT_hot : Fd := ⟨17, 1⟩
def DMC_STAT_alert_ev : Fd := ⟨5, 1⟩
def DMC_STAT_hang_ev : Fd := ⟨4, 1⟩
def DMC_STAT_deny_ev : Fd := ⟨3, 1⟩
def DMC_STAT_ue_ev : Fd := ⟨2, 1⟩
def DMC_STAT_ce_rate_ev : Fd := ⟨1, 1⟩
def DMC_STAT_temp_ev : Fd := ⟨0, 1⟩
/-- R279. -/
def DMC_TCORE0 : Nat := 0x100008
def DMC_TCORE0_t3 : Fd := ⟨24, 8⟩
def DMC_TCORE0_t2 : Fd := ⟨16, 8⟩
def DMC_TCORE0_t1 : Fd := ⟨8, 8⟩
def DMC_TCORE0_t0 : Fd := ⟨0, 8⟩
/-- R279. -/
def DMC_TCORE1 : Nat := 0x10000c
def DMC_TCORE1_t3 : Fd := ⟨24, 8⟩
def DMC_TCORE1_t2 : Fd := ⟨16, 8⟩
def DMC_TCORE1_t1 : Fd := ⟨8, 8⟩
def DMC_TCORE1_t0 : Fd := ⟨0, 8⟩
/-- R280. -/
def DMC_TREF : Nat := 0x100010
def DMC_TREF_trefi : Fd := ⟨16, 16⟩
def DMC_TREF_trfc : Fd := ⟨0, 16⟩
/-- R281. -/
def DMC_ARB : Nat := 0x100014
def DMC_ARB_wdog : Fd := ⟨16, 8⟩
def DMC_ARB_share : Fd := ⟨8, 8⟩
def DMC_ARB_window : Fd := ⟨0, 8⟩
/-- R282. -/
def DMC_QUOTA : Nat := 0x100018
def DMC_QUOTA_chain : Fd := ⟨8, 8⟩
def DMC_QUOTA_proc : Fd := ⟨0, 8⟩
/-- R283. -/
def DMC_SCHED : Nat := 0x10001c
def DMC_SCHED_slack : Fd := ⟨8, 8⟩
def DMC_SCHED_pass_max : Fd := ⟨0, 4⟩
/-- R284. -/
def DMC_SCRUB : Nat := 0x100020
def DMC_SCRUB_enable : Fd := ⟨31, 1⟩
def DMC_SCRUB_ecs_now : Fd := ⟨30, 1⟩
def DMC_SCRUB_period : Fd := ⟨0, 16⟩
/-- R285. -/
def DMC_TEMP : Nat := 0x100024
def DMC_TEMP_src : Fd := ⟨31, 1⟩
def DMC_TEMP_offset : Fd := ⟨16, 8⟩
def DMC_TEMP_temp : Fd := ⟨8, 8⟩
/-- R286. -/
def DMC_ECC_CFG : Nat := 0x100028
def DMC_ECC_CFG_window : Fd := ⟨16, 16⟩
def DMC_ECC_CFG_thresh : Fd := ⟨0, 16⟩
/-- R287. -/
def DMC_CE_CNT : Nat := 0x100030
def DMC_CE_CNT_count : Fd := ⟨0, 32⟩
/-- R287. -/
def DMC_UE_CNT : Nat := 0x100034
def DMC_UE_CNT_count : Fd := ⟨0, 32⟩
/-- R287. -/
def DMC_ALERT_CNT : Nat := 0x100038
def DMC_ALERT_CNT_count : Fd := ⟨0, 32⟩
/-- R287. -/
def DMC_HANG_CNT : Nat := 0x10003c
def DMC_HANG_CNT_count : Fd := ⟨0, 32⟩
/-- R287. -/
def DMC_DENY_CNT : Nat := 0x100040
def DMC_DENY_CNT_count : Fd := ⟨0, 32⟩
/-- R287. -/
def DMC_POISON_CNT : Nat := 0x100044
def DMC_POISON_CNT_count : Fd := ⟨0, 32⟩
/-- R288. -/
def DMC_ECC_LOG_LO : Nat := 0x100050
def DMC_ECC_LOG_LO_addr_lo : Fd := ⟨0, 32⟩
/-- R289. -/
def DMC_ECC_LOG_HI : Nat := 0x100054
def DMC_ECC_LOG_HI_kind : Fd := ⟨28, 4⟩
def DMC_ECC_LOG_HI_requester : Fd := ⟨24, 4⟩
def DMC_ECC_LOG_HI_pin : Fd := ⟨18, 6⟩
def DMC_ECC_LOG_HI_scrub : Fd := ⟨17, 1⟩
def DMC_ECC_LOG_HI_rank : Fd := ⟨16, 1⟩
def DMC_ECC_LOG_HI_addr_hi : Fd := ⟨0, 8⟩
/-- R290. -/
def DMC_HANG_LOG : Nat := 0x100058
def DMC_HANG_LOG_region : Fd := ⟨28, 4⟩
def DMC_HANG_LOG_requester : Fd := ⟨24, 4⟩
def DMC_HANG_LOG_write : Fd := ⟨23, 1⟩
def DMC_HANG_LOG_firkin : Fd := ⟨0, 23⟩
/-- R290. -/
def DMC_DENY_LOG : Nat := 0x10005c
def DMC_DENY_LOG_region : Fd := ⟨28, 4⟩
def DMC_DENY_LOG_requester : Fd := ⟨24, 4⟩
def DMC_DENY_LOG_write : Fd := ⟨23, 1⟩
def DMC_DENY_LOG_firkin : Fd := ⟨0, 23⟩
/-- R291. -/
def DMC_ECS (n : Nat) : Nat := 0x100060 + 0x4 * n
def DMC_ECS_rows : Fd := ⟨16, 16⟩
def DMC_ECS_errors : Fd := ⟨0, 16⟩
/-- R292. -/
def DMC_RGN_BASE (n : Nat) : Nat := 0x100100 + 0x10 * n
def DMC_RGN_BASE_firkin : Fd := ⟨0, 24⟩
/-- R292. -/
def DMC_RGN_SIZE (n : Nat) : Nat := 0x100104 + 0x10 * n
def DMC_RGN_SIZE_size_m1 : Fd := ⟨0, 20⟩
/-- R293. -/
def DMC_RGN_ACC (n : Nat) : Nat := 0x100108 + 0x10 * n
def DMC_RGN_ACC_en : Fd := ⟨31, 1⟩
def DMC_RGN_ACC_wr : Fd := ⟨16, 10⟩
def DMC_RGN_ACC_rd : Fd := ⟨0, 10⟩
/-! DPY_ registers (08_dram_training.md) -/
/-- R317. -/
def DPY_CTRL : Nat := 0x110000
def DPY_CTRL_mark_clear : Fd := ⟨3, 1⟩
def DPY_CTRL_invalidate : Fd := ⟨2, 1⟩
def DPY_CTRL_cache_en : Fd := ⟨1, 1⟩
def DPY_CTRL_retrain_en : Fd := ⟨0, 1⟩
/-- R318. -/
def DPY_STAT : Nat := 0x110004
def DPY_STAT_seq : Fd := ⟨24, 8⟩
def DPY_STAT_step : Fd := ⟨20, 4⟩
def DPY_STAT_band : Fd := ⟨18, 2⟩
def DPY_STAT_source : Fd := ⟨16, 2⟩
def DPY_STAT_falls : Fd := ⟨14, 2⟩
def DPY_STAT_trained : Fd := ⟨13, 1⟩
def DPY_STAT_flash_busy : Fd := ⟨12, 1⟩
def DPY_STAT_fail_ev : Fd := ⟨4, 1⟩
def DPY_STAT_fallback_ev : Fd := ⟨3, 1⟩
def DPY_STAT_cache_ev : Fd := ⟨2, 1⟩
def DPY_STAT_drift_ev : Fd := ⟨1, 1⟩
def DPY_STAT_range_ev : Fd := ⟨0, 1⟩
/-- R319. -/
def DPY_BOARD : Nat := 0x110008
def DPY_BOARD_board_id : Fd := ⟨0, 32⟩
/-- R320. -/
def DPY_RETRAIN : Nat := 0x11000c
def DPY_RETRAIN_limit : Fd := ⟨16, 8⟩
def DPY_RETRAIN_interval : Fd := ⟨0, 16⟩
/-- R321. -/
def DPY_MARGIN : Nat := 0x110010
def DPY_MARGIN_rd_min : Fd := ⟨24, 8⟩
def DPY_MARGIN_wr_min : Fd := ⟨16, 8⟩
def DPY_MARGIN_vref_min : Fd := ⟨8, 8⟩
/-- R322. -/
def DPY_CA (n : Nat) : Nat := 0x110020 + 0x4 * n
def DPY_CA_vrefca : Fd := ⟨16, 8⟩
def DPY_CA_cs_dly : Fd := ⟨8, 8⟩
def DPY_CA_ca_dly : Fd := ⟨0, 8⟩
/-- R323. -/
def DPY_DRIFT (n : Nat) : Nat := 0x110030 + 0x4 * n
def DPY_DRIFT_rounds : Fd := ⟨16, 16⟩
def DPY_DRIFT_wr_drift : Fd := ⟨8, 8⟩
def DPY_DRIFT_rd_drift : Fd := ⟨0, 8⟩
/-- R324. -/
def DPY_STEP (n : Nat) : Nat := 0x110040 + 0x4 * n
def DPY_STEP_lane : Fd := ⟨24, 4⟩
def DPY_STEP_result : Fd := ⟨20, 4⟩
def DPY_STEP_attempts : Fd := ⟨16, 4⟩
def DPY_STEP_duration : Fd := ⟨0, 16⟩
/-- R325. -/
def DPY_SWAP (n : Nat) : Nat := 0x110080 + 0x4 * n
def DPY_SWAP_map : Fd := ⟨0, 24⟩
/-- R326. -/
def DPY_LANE_GATE (n : Nat) : Nat := 0x110100 + 0x10 * n
def DPY_LANE_GATE_pre : Fd := ⟨16, 4⟩
def DPY_LANE_GATE_gate : Fd := ⟨0, 12⟩
/-- R327. -/
def DPY_LANE_RD (n : Nat) : Nat := 0x110104 + 0x10 * n
def DPY_LANE_RD_rd_eye : Fd := ⟨24, 8⟩
def DPY_LANE_RD_rd_vref : Fd := ⟨16, 8⟩
def DPY_LANE_RD_rd_dqs : Fd := ⟨0, 10⟩
/-- R328. -/
def DPY_LANE_WR (n : Nat) : Nat := 0x110108 + 0x10 * n
def DPY_LANE_WR_wr_eye : Fd := ⟨24, 8⟩
def DPY_LANE_WR_wr_dq : Fd := ⟨12, 10⟩
def DPY_LANE_WR_wr_lvl : Fd := ⟨0, 10⟩
/-- R329. -/
def DPY_LANE_VREF (n : Nat) : Nat := 0x11010c + 0x10 * n
def DPY_LANE_VREF_dfe_tap1 : Fd := ⟨24, 8⟩
def DPY_LANE_VREF_dfe_gain : Fd := ⟨16, 8⟩
def DPY_LANE_VREF_vrefdq : Fd := ⟨0, 8⟩
/-- R330. -/
def DPY_BIT (n : Nat) : Nat := 0x110200 + 0x4 * n
def DPY_BIT_rd_dsk : Fd := ⟨8, 8⟩
def DPY_BIT_wr_dsk : Fd := ⟨0, 8⟩
/-! HUB_ registers (09_hub_and_command_function.md) -/
/-- R369. -/
def HUB_CTRL : Nat := 0x20000
def HUB_CTRL_connect : Fd := ⟨0, 1⟩
/-- R370. -/
def HUB_CFG : Nat := 0x20004
def HUB_CFG_pwr2good : Fd := ⟨16, 8⟩
def HUB_CFG_steer_en : Fd := ⟨4, 1⟩
def HUB_CFG_oc_mode : Fd := ⟨0, 1⟩
/-- R371. -/
def HUB_STAT : Nat := 0x20008
def HUB_STAT_seq : Fd := ⟨24, 8⟩
def HUB_STAT_speed : Fd := ⟨22, 2⟩
def HUB_STAT_state : Fd := ⟨19, 3⟩
def HUB_STAT_vbus_det : Fd := ⟨18, 1⟩
def HUB_STAT_pullup : Fd := ⟨17, 1⟩
def HUB_STAT_multi_tt : Fd := ⟨16, 1⟩
def HUB_STAT_vbus_ev : Fd := ⟨5, 1⟩
def HUB_STAT_l1_ev : Fd := ⟨4, 1⟩
def HUB_STAT_wake_ev : Fd := ⟨3, 1⟩
def HUB_STAT_resume_ev : Fd := ⟨2, 1⟩
def HUB_STAT_suspend_ev : Fd := ⟨1, 1⟩
def HUB_STAT_reset_ev : Fd := ⟨0, 1⟩
/-- R372. -/
def HUB_WAKE_REASON : Nat := 0x2000c
def HUB_WAKE_REASON_count : Fd := ⟨16, 16⟩
def HUB_WAKE_REASON_reason : Fd := ⟨6, 2⟩
def HUB_WAKE_REASON_collided : Fd := ⟨5, 1⟩
def HUB_WAKE_REASON_pending : Fd := ⟨4, 1⟩
def HUB_WAKE_REASON_source : Fd := ⟨2, 2⟩
def HUB_WAKE_REASON_l1 : Fd := ⟨1, 1⟩
/-- R373. -/
def HUB_CARVE : Nat := 0x20010
def HUB_CARVE_tt_count : Fd := ⟨16, 8⟩
def HUB_CARVE_stream_bufs : Fd := ⟨0, 8⟩
/-- R374. -/
def HUB_STEER_BCAST : Nat := 0x20014
def HUB_STEER_BCAST_count : Fd := ⟨0, 32⟩
/-- R374. -/
def HUB_PWR_REFUSED : Nat := 0x20018
def HUB_PWR_REFUSED_count : Fd := ⟨0, 32⟩
/-- R374. -/
def HUB_TT_OVR : Nat := 0x2001c
def HUB_TT_OVR_count : Fd := ⟨0, 32⟩
/-- R375. -/
def HUB_PMAP (n : Nat) : Nat := 0x20100 + 0x4 * n
def HUB_PMAP_valid : Fd := ⟨31, 1⟩
def HUB_PMAP_fixed : Fd := ⟨8, 1⟩
def HUB_PMAP_port : Fd := ⟨0, 6⟩
/-! CMF_ registers (09_hub_and_command_function.md) -/
/-- R376. -/
def CMF_STAT : Nat := 0x10000
def CMF_STAT_seq : Fd := ⟨24, 8⟩
def CMF_STAT_state : Fd := ⟨21, 3⟩
def CMF_STAT_rwake_en : Fd := ⟨20, 1⟩
def CMF_STAT_out_halted : Fd := ⟨19, 1⟩
def CMF_STAT_frame_ev : Fd := ⟨4, 1⟩
def CMF_STAT_halt_ev : Fd := ⟨3, 1⟩
def CMF_STAT_stream_ev : Fd := ⟨2, 1⟩
def CMF_STAT_stale_ev : Fd := ⟨1, 1⟩
def CMF_STAT_reset_ev : Fd := ⟨0, 1⟩
/-- R377. -/
def CMF_UP_RESET_POLICY : Nat := 0x10004
def CMF_UP_RESET_POLICY_policy : Fd := ⟨0, 2⟩
/-- R378. -/
def CMF_NOTIFY : Nat := 0x10008
def CMF_NOTIFY_mask : Fd := ⟨0, 7⟩
/-- R379. -/
def CMF_LAST_RESET : Nat := 0x1000c
def CMF_LAST_RESET_request : Fd := ⟨16, 8⟩
def CMF_LAST_RESET_req_type : Fd := ⟨8, 8⟩
def CMF_LAST_RESET_applied : Fd := ⟨4, 1⟩
def CMF_LAST_RESET_stage : Fd := ⟨2, 2⟩
def CMF_LAST_RESET_kind : Fd := ⟨0, 2⟩
/-- R380. -/
def CMF_STALE_CNT : Nat := 0x10010
def CMF_STALE_CNT_count : Fd := ⟨0, 32⟩
/-- R380. -/
def CMF_FRAME_CNT : Nat := 0x10014
def CMF_FRAME_CNT_count : Fd := ⟨0, 32⟩
/-- R381. -/
def CMF_STREAM (n : Nat) : Nat := 0x10020 + 0x4 * n
def CMF_STREAM_bound : Fd := ⟨31, 1⟩
def CMF_STREAM_end : Fd := ⟨30, 1⟩
def CMF_STREAM_position : Fd := ⟨0, 30⟩
/-! GLB_ registers (11_registers.md) -/
/-- R435. -/
def GLB_CHIPID : Nat := 0x0
def GLB_CHIPID_part : Fd := ⟨16, 16⟩
def GLB_CHIPID_rev : Fd := ⟨0, 8⟩
/-- R436. -/
def GLB_REGMODE : Nat := 0x4
def GLB_REGMODE_expiry : Fd := ⟨8, 8⟩
def GLB_REGMODE_mode : Fd := ⟨0, 1⟩
/-- R437. -/
def GLB_NODE : Nat := 0x8
def GLB_NODE_joined : Fd := ⟨31, 1⟩
def GLB_NODE_node : Fd := ⟨0, 5⟩
/-- R438. -/
def GLB_GUARD : Nat := 0xc
def GLB_GUARD_lock : Fd := ⟨0, 7⟩
/-- R439. -/
def GLB_OFFACC : Nat := 0x10
def GLB_OFFACC_writes : Fd := ⟨16, 16⟩
def GLB_OFFACC_reads : Fd := ⟨0, 16⟩
/-- R440. -/
def GLB_OFFLAST : Nat := 0x14
def GLB_OFFLAST_channel : Fd := ⟨28, 4⟩
def GLB_OFFLAST_write : Fd := ⟨27, 1⟩
def GLB_OFFLAST_address : Fd := ⟨0, 24⟩
/-- R441. -/
def GLB_ACCERR : Nat := 0x18
def GLB_ACCERR_width : Fd := ⟨16, 16⟩
def GLB_ACCERR_align : Fd := ⟨0, 16⟩
/-- R441. -/
def GLB_KEYERR : Nat := 0x1c
def GLB_KEYERR_locked : Fd := ⟨16, 16⟩
def GLB_KEYERR_key : Fd := ⟨0, 16⟩
/-- R442. -/
def GLB_SERIAL_LO : Nat := 0x20
def GLB_SERIAL_LO_serial : Fd := ⟨0, 32⟩
/-- R442. -/
def GLB_SERIAL_HI : Nat := 0x24
def GLB_SERIAL_HI_serial : Fd := ⟨0, 32⟩
/-- R443. -/
def GLB_GPIO_DIR : Nat := 0x40
def GLB_GPIO_DIR_out : Fd := ⟨0, 24⟩
/-- R444. -/
def GLB_GPIO_OUT : Nat := 0x44
def GLB_GPIO_OUT_level : Fd := ⟨0, 24⟩
/-- R445. -/
def GLB_GPIO_IN : Nat := 0x48
def GLB_GPIO_IN_level : Fd := ⟨0, 24⟩
/-! LCK_ registers (11_registers.md) -/
/-- R446. -/
def LCK_CTRL : Nat := 0x170000
def LCK_CTRL_hold : Fd := ⟨0, 16⟩
/-- R447. -/
def LCK_BROKEN_CNT : Nat := 0x170004
def LCK_BROKEN_CNT_count : Fd := ⟨0, 32⟩
/-- R448. -/
def LCK_LOCK (n : Nat) : Nat := 0x170100 + 0x4 * n
def LCK_LOCK_state : Fd := ⟨30, 2⟩
def LCK_LOCK_broken : Fd := ⟨29, 1⟩
def LCK_LOCK_node : Fd := ⟨24, 5⟩
def LCK_LOCK_origin : Fd := ⟨20, 4⟩
def LCK_LOCK_arrival : Fd := ⟨16, 4⟩
def LCK_LOCK_tag : Fd := ⟨8, 8⟩
def LCK_LOCK_gen : Fd := ⟨6, 2⟩
def LCK_LOCK_cause : Fd := ⟨0, 3⟩
/-! TLY_ registers (11_registers.md) -/
/-- R449. -/
def TLY_CTRL : Nat := 0x160000
def TLY_CTRL_commit_ms : Fd := ⟨0, 16⟩
/-- R450. -/
def TLY_STAT : Nat := 0x160004
def TLY_STAT_seq : Fd := ⟨24, 8⟩
def TLY_STAT_mis_block : Fd := ⟨16, 6⟩
def TLY_STAT_unc_block : Fd := ⟨8, 6⟩
def TLY_STAT_uncommitted_ev : Fd := ⟨1, 1⟩
def TLY_STAT_mismatch_ev : Fd := ⟨0, 1⟩
/-- R451. -/
def TLY_SWEEP : Nat := 0x160008
def TLY_SWEEP_count : Fd := ⟨0, 32⟩
/-- R452. -/
def TLY_UNCOM_LO : Nat := 0x160010
def TLY_UNCOM_LO_mask : Fd := ⟨0, 32⟩
/-- R452. -/
def TLY_UNCOM_HI : Nat := 0x160014
def TLY_UNCOM_HI_mask : Fd := ⟨0, 32⟩
/-- R453. -/
def TLY_REF (n : Nat) : Nat := 0x160100 + 0x4 * n
def TLY_REF_ref : Fd := ⟨0, 32⟩
/-! CHN_ registers (12_chain_joined_systems.md) -/
/-- R479. -/
def CHN_CTRL : Nat := 0x120000
def CHN_CTRL_port_en : Fd := ⟨4, 4⟩
def CHN_CTRL_auto_disc : Fd := ⟨1, 1⟩
/-- R480. -/
def CHN_STAT : Nat := 0x120004
def CHN_STAT_seq : Fd := ⟨24, 8⟩
def CHN_STAT_hubs : Fd := ⟨18, 6⟩
def CHN_STAT_diameter : Fd := ⟨13, 5⟩
def CHN_STAT_has_parent : Fd := ⟨12, 1⟩
def CHN_STAT_parent_port : Fd := ⟨10, 2⟩
def CHN_STAT_lost_ev : Fd := ⟨5, 1⟩
def CHN_STAT_dup_ev : Fd := ⟨4, 1⟩
def CHN_STAT_disc_ev : Fd := ⟨3, 1⟩
def CHN_STAT_crc_rate_ev : Fd := ⟨2, 1⟩
def CHN_STAT_down_ev : Fd := ⟨1, 1⟩
def CHN_STAT_up_ev : Fd := ⟨0, 1⟩
/-- R481. -/
def CHN_TOPO : Nat := 0x120008
def CHN_TOPO_topo_id : Fd := ⟨0, 32⟩
/-- R482. -/
def CHN_DISC : Nat := 0x12000c
def CHN_DISC_result : Fd := ⟨16, 8⟩
def CHN_DISC_runs : Fd := ⟨0, 16⟩
/-- R483. -/
def CHN_TIME : Nat := 0x120010
def CHN_TIME_offset : Fd := ⟨16, 16⟩
def CHN_TIME_age : Fd := ⟨0, 16⟩
/-- R484. -/
def CHN_CRC_CFG : Nat := 0x120014
def CHN_CRC_CFG_thresh : Fd := ⟨0, 16⟩
/-- R485. -/
def CHN_P_STAT (n : Nat) : Nat := 0x120100 + 0x20 * n
def CHN_P_STAT_state : Fd := ⟨29, 3⟩
def CHN_P_STAT_nbr_node : Fd := ⟨24, 5⟩
def CHN_P_STAT_nbr_port : Fd := ⟨22, 2⟩
def CHN_P_STAT_tree : Fd := ⟨21, 1⟩
def CHN_P_STAT_child : Fd := ⟨20, 1⟩
def CHN_P_STAT_delay : Fd := ⟨0, 16⟩
/-- R486. -/
def CHN_P_CRC (n : Nat) : Nat := 0x120104 + 0x20 * n
def CHN_P_CRC_count : Fd := ⟨0, 32⟩
/-- R486. -/
def CHN_P_REPLAY (n : Nat) : Nat := 0x120108 + 0x20 * n
def CHN_P_REPLAY_count : Fd := ⟨0, 32⟩
/-- R486. -/
def CHN_P_DOWN (n : Nat) : Nat := 0x12010c + 0x20 * n
def CHN_P_DOWN_count : Fd := ⟨0, 32⟩
/-- R486. -/
def CHN_P_DROP (n : Nat) : Nat := 0x120110 + 0x20 * n
def CHN_P_DROP_count : Fd := ⟨0, 32⟩
/-- R487. -/
def CHN_ROUTE (n : Nat) : Nat := 0x120200 + 0x4 * n
def CHN_ROUTE_valid : Fd := ⟨31, 1⟩
def CHN_ROUTE_join : Fd := ⟨13, 3⟩
def CHN_ROUTE_hops : Fd := ⟨8, 5⟩
def CHN_ROUTE_port : Fd := ⟨0, 3⟩
/-! PDI_ registers (13_port_power_hoops.md) -/
/-- R502. -/
def PDI_PWR_CFG : Nat := 0x150000
def PDI_PWR_CFG_vbus_holdoff : Fd := ⟨16, 8⟩
def PDI_PWR_CFG_vbus_budget : Fd := ⟨0, 8⟩
/-- R503. -/
def PDI_PWR_STAT : Nat := 0x150004
def PDI_PWR_STAT_seq : Fd := ⟨24, 8⟩
def PDI_PWR_STAT_safe_stop : Fd := ⟨23, 1⟩
def PDI_PWR_STAT_hb_lost : Fd := ⟨22, 1⟩
def PDI_PWR_STAT_hoops_off : Fd := ⟨21, 1⟩
def PDI_PWR_STAT_vbus_sum : Fd := ⟨8, 10⟩
def PDI_PWR_STAT_budget_ev : Fd := ⟨3, 1⟩
def PDI_PWR_STAT_hb_ev : Fd := ⟨2, 1⟩
def PDI_PWR_STAT_safe_stop_ev : Fd := ⟨1, 1⟩
/-- R504. -/
def PDI_VBUS_CFG (n : Nat) : Nat := 0x150100 + 0x10 * n
def PDI_VBUS_CFG_permit : Fd := ⟨31, 1⟩
def PDI_VBUS_CFG_ftimer : Fd := ⟨8, 6⟩
def PDI_VBUS_CFG_limit : Fd := ⟨0, 4⟩
/-- R505. -/
def PDI_VBUS_STAT (n : Nat) : Nat := 0x150104 + 0x10 * n
def PDI_VBUS_STAT_seq : Fd := ⟨24, 8⟩
def PDI_VBUS_STAT_state : Fd := ⟨21, 3⟩
def PDI_VBUS_STAT_pgood : Fd := ⟨20, 1⟩
def PDI_VBUS_STAT_limiting : Fd := ⟨19, 1⟩
def PDI_VBUS_STAT_cause : Fd := ⟨12, 4⟩
def PDI_VBUS_STAT_refused_ev : Fd := ⟨1, 1⟩
def PDI_VBUS_STAT_trip_ev : Fd := ⟨0, 1⟩
/-- R506. -/
def PDI_VBUS_CNT (n : Nat) : Nat := 0x150108 + 0x10 * n
def PDI_VBUS_CNT_trips : Fd := ⟨16, 16⟩
def PDI_VBUS_CNT_refused : Fd := ⟨0, 16⟩
/-- R507. -/
def PDI_HOOP_CFG (n : Nat) : Nat := 0x150400 + 0x10 * n
def PDI_HOOP_CFG_permit : Fd := ⟨31, 1⟩
def PDI_HOOP_CFG_holdoff : Fd := ⟨16, 8⟩
def PDI_HOOP_CFG_ftimer : Fd := ⟨8, 6⟩
def PDI_HOOP_CFG_slope : Fd := ⟨4, 3⟩
def PDI_HOOP_CFG_ilim : Fd := ⟨0, 3⟩
/-- R508. -/
def PDI_HOOP_CTRL (n : Nat) : Nat := 0x150404 + 0x10 * n
def PDI_HOOP_CTRL_on : Fd := ⟨1, 1⟩
def PDI_HOOP_CTRL_off : Fd := ⟨0, 1⟩
/-- R509. -/
def PDI_HOOP_STAT (n : Nat) : Nat := 0x150408 + 0x10 * n
def PDI_HOOP_STAT_seq : Fd := ⟨24, 8⟩
def PDI_HOOP_STAT_state : Fd := ⟨21, 3⟩
def PDI_HOOP_STAT_pgood : Fd := ⟨20, 1⟩
def PDI_HOOP_STAT_limiting : Fd := ⟨19, 1⟩
def PDI_HOOP_STAT_cause : Fd := ⟨12, 4⟩
def PDI_HOOP_STAT_refused_ev : Fd := ⟨1, 1⟩
def PDI_HOOP_STAT_trip_ev : Fd := ⟨0, 1⟩
/-- R510. -/
def PDI_HOOP_CNT (n : Nat) : Nat := 0x15040c + 0x10 * n
def PDI_HOOP_CNT_trips : Fd := ⟨16, 16⟩
def PDI_HOOP_CNT_refused : Fd := ⟨0, 16⟩
/-! PWR_ registers (14_power_domains.md) -/
/-- R530. -/
def PWR_CORE_WAKE : Nat := 0x140000
def PWR_CORE_WAKE_smbus : Fd := ⟨31, 1⟩
def PWR_CORE_WAKE_waken : Fd := ⟨30, 1⟩
def PWR_CORE_WAKE_set : Fd := ⟨0, 15⟩
/-- R531. -/
def PWR_VCORE : Nat := 0x140004
def PWR_VCORE_assist : Fd := ⟨16, 1⟩
def PWR_VCORE_mv : Fd := ⟨0, 16⟩
/-- R532. -/
def PWR_REFUSE_LOG : Nat := 0x140008
def PWR_REFUSE_LOG_domain : Fd := ⟨24, 8⟩
def PWR_REFUSE_LOG_requested : Fd := ⟨22, 2⟩
def PWR_REFUSE_LOG_aborted : Fd := ⟨21, 1⟩
def PWR_REFUSE_LOG_channel : Fd := ⟨16, 4⟩
def PWR_REFUSE_LOG_refuser : Fd := ⟨8, 8⟩
/-- R533. -/
def PWR_D_CFG (n : Nat) : Nat := 0x140100 + 0x10 * n
def PWR_D_CFG_sleep_idle : Fd := ⟨16, 8⟩
def PWR_D_CFG_wake : Fd := ⟨0, 7⟩
/-- R534. -/
def PWR_D_STAT (n : Nat) : Nat := 0x140104 + 0x10 * n
def PWR_D_STAT_seq : Fd := ⟨24, 8⟩
def PWR_D_STAT_state : Fd := ⟨22, 2⟩
def PWR_D_STAT_trans : Fd := ⟨20, 2⟩
def PWR_D_STAT_island : Fd := ⟨17, 3⟩
def PWR_D_STAT_last_refuser : Fd := ⟨8, 8⟩
def PWR_D_STAT_wake_ev : Fd := ⟨2, 1⟩
def PWR_D_STAT_abort_ev : Fd := ⟨1, 1⟩
def PWR_D_STAT_refuse_ev : Fd := ⟨0, 1⟩
/-- R534. -/
def PWR_P_STAT (n : Nat) : Nat := 0x140200 + 0x10 * n
def PWR_P_STAT_seq : Fd := ⟨24, 8⟩
def PWR_P_STAT_state : Fd := ⟨22, 2⟩
def PWR_P_STAT_trans : Fd := ⟨20, 2⟩
def PWR_P_STAT_island : Fd := ⟨17, 3⟩
def PWR_P_STAT_last_refuser : Fd := ⟨8, 8⟩
def PWR_P_STAT_wake_ev : Fd := ⟨2, 1⟩
def PWR_P_STAT_abort_ev : Fd := ⟨1, 1⟩
def PWR_P_STAT_refuse_ev : Fd := ⟨0, 1⟩
/-- R535. -/
def PWR_D_CNT (n : Nat) : Nat := 0x140108 + 0x10 * n
def PWR_D_CNT_entries : Fd := ⟨16, 16⟩
def PWR_D_CNT_refusals : Fd := ⟨0, 16⟩
/-- R535. -/
def PWR_P_CNT (n : Nat) : Nat := 0x140208 + 0x10 * n
def PWR_P_CNT_entries : Fd := ⟨16, 16⟩
def PWR_P_CNT_refusals : Fd := ⟨0, 16⟩
/-- R536. -/
def PWR_REFCNT (n : Nat) : Nat := 0x140300 + 0x4 * n
def PWR_REFCNT_count : Fd := ⟨0, 32⟩
/-! FLT_ registers (15_faults_safety.md) -/
/-- R560. -/
def FLT_CTRL : Nat := 0x130000
def FLT_CTRL_release : Fd := ⟨0, 1⟩
/-- R561. -/
def FLT_STAT : Nat := 0x130004
def FLT_STAT_seq : Fd := ⟨24, 8⟩
def FLT_STAT_stop_playout : Fd := ⟨23, 1⟩
def FLT_STAT_hoops_off : Fd := ⟨22, 1⟩
def FLT_STAT_hb_stop : Fd := ⟨21, 1⟩
def FLT_STAT_alive_frozen : Fd := ⟨20, 1⟩
def FLT_STAT_factory : Fd := ⟨19, 1⟩
def FLT_STAT_esc_ev : Fd := ⟨2, 1⟩
def FLT_STAT_alert_ev : Fd := ⟨1, 1⟩
def FLT_STAT_first_ev : Fd := ⟨0, 1⟩
/-- R562. -/
def FLT_FIRST : Nat := 0x130008
def FLT_FIRST_valid : Fd := ⟨31, 1⟩
def FLT_FIRST_group : Fd := ⟨28, 3⟩
def FLT_FIRST_class : Fd := ⟨24, 4⟩
def FLT_FIRST_source : Fd := ⟨16, 8⟩
def FLT_FIRST_detail : Fd := ⟨0, 16⟩
/-- R563. -/
def FLT_OVF : Nat := 0x13000c
def FLT_OVF_ovf : Fd := ⟨31, 1⟩
def FLT_OVF_last : Fd := ⟨16, 8⟩
def FLT_OVF_count : Fd := ⟨0, 16⟩
/-- R564. -/
def FLT_ACK : Nat := 0x130010
def FLT_ACK_value : Fd := ⟨0, 32⟩
/-- R565. -/
def FLT_TIME_LO : Nat := 0x130018
def FLT_TIME_LO_time : Fd := ⟨0, 32⟩
/-- R565. -/
def FLT_TIME_HI : Nat := 0x13001c
def FLT_TIME_HI_time : Fd := ⟨0, 32⟩
/-- R566. -/
def FLT_PEND : Nat := 0x130020
def FLT_PEND_escalated : Fd := ⟨8, 8⟩
def FLT_PEND_running : Fd := ⟨0, 8⟩
/-- R567. -/
def FLT_HANDLED : Nat := 0x130024
def FLT_HANDLED_group : Fd := ⟨0, 8⟩
/-- R568. -/
def FLT_ALERT : Nat := 0x130028
def FLT_ALERT_node : Fd := ⟨8, 5⟩
def FLT_ALERT_source : Fd := ⟨0, 8⟩
/-- R569. -/
def FLT_HB_CFG : Nat := 0x13002c
def FLT_HB_CFG_alive_en : Fd := ⟨1, 1⟩
def FLT_HB_CFG_mon_en : Fd := ⟨0, 1⟩
/-- R570. -/
def FLT_ESC_CNT : Nat := 0x130030
def FLT_ESC_CNT_count : Fd := ⟨0, 32⟩
/-- R571. -/
def FLT_RAISED (n : Nat) : Nat := 0x130040 + 0x4 * n
def FLT_RAISED_raised : Fd := ⟨0, 32⟩
/-- R572. -/
def FLT_GRP_CFG (n : Nat) : Nat := 0x130100 + 0x4 * n
def FLT_GRP_CFG_grace : Fd := ⟨8, 6⟩
def FLT_GRP_CFG_chain_alert : Fd := ⟨3, 1⟩
def FLT_GRP_CFG_hb_stop : Fd := ⟨2, 1⟩
def FLT_GRP_CFG_hoops_off : Fd := ⟨1, 1⟩
def FLT_GRP_CFG_stop_playout : Fd := ⟨0, 1⟩
/-- R573. -/
def FLT_PROOF_CFG : Nat := 0x130200
def FLT_PROOF_CFG_decay : Fd := ⟨16, 8⟩
def FLT_PROOF_CFG_hoops : Fd := ⟨0, 12⟩
/-- R574. -/
def FLT_PROOF_LAST : Nat := 0x130204
def FLT_PROOF_LAST_outcome : Fd := ⟨24, 8⟩
def FLT_PROOF_LAST_time : Fd := ⟨12, 12⟩
def FLT_PROOF_LAST_hoops : Fd := ⟨0, 12⟩
/-- R575. -/
def FLT_INJ : Nat := 0x130300
def FLT_INJ_source : Fd := ⟨16, 8⟩
def FLT_INJ_detail : Fd := ⟨0, 16⟩
/-! JNL_ registers (16_reset_boot.md) -/
/-- R595. -/
def JNL_STAT : Nat := 0x180000
def JNL_STAT_seq : Fd := ⟨24, 8⟩
def JNL_STAT_last_step : Fd := ⟨16, 8⟩
def JNL_STAT_cause : Fd := ⟨12, 4⟩
def JNL_STAT_slot : Fd := ⟨11, 1⟩
def JNL_STAT_trial : Fd := ⟨10, 1⟩
def JNL_STAT_recovery : Fd := ⟨9, 1⟩
def JNL_STAT_retained : Fd := ⟨8, 1⟩
def JNL_STAT_incomplete : Fd := ⟨6, 2⟩
def JNL_STAT_trial_fail_ev : Fd := ⟨2, 1⟩
def JNL_STAT_alt_ev : Fd := ⟨1, 1⟩
def JNL_STAT_fail_ev : Fd := ⟨0, 1⟩
/-- R596. -/
def JNL_RESET : Nat := 0x180004
def JNL_RESET_confirm : Fd := ⟨8, 8⟩
def JNL_RESET_kind : Fd := ⟨0, 2⟩
/-- R597. -/
def JNL_WDOG : Nat := 0x180008
def JNL_WDOG_enable : Fd := ⟨31, 1⟩
def JNL_WDOG_kick : Fd := ⟨30, 1⟩
def JNL_WDOG_period : Fd := ⟨0, 16⟩
/-- R598. -/
def JNL_BOOTCNT : Nat := 0x18000c
def JNL_BOOTCNT_boot : Fd := ⟨0, 32⟩
/-- R599. -/
def JNL_SLOT (n : Nat) : Nat := 0x180010 + 0x4 * n
def JNL_SLOT_state : Fd := ⟨29, 3⟩
def JNL_SLOT_result : Fd := ⟨16, 8⟩
def JNL_SLOT_fw_version : Fd := ⟨0, 16⟩
/-- R600. -/
def JNL_RAM : Nat := 0x180018
def JNL_RAM_unflushed : Fd := ⟨16, 16⟩
def JNL_RAM_held : Fd := ⟨0, 16⟩

end Sys2Proof.Machine.Reg
end

