-- ==== Sys2Proof/Machine/RegTable.lean ====
section
/-! DEFINITION. The register table: for every register of the hub its place in the register space, the access type and
the cold-reset value of each of its fields (the register tables of the chapters, R409, R415), whether Tally checks it
(R430) and which guard group it belongs to (R420). -/

namespace Sys2Proof.Machine

/-- The registers of block SHF_ (02_machine_time.md). -/
def regRowsShf : List RegRow :=
  [⟨0xc0000, 0x1000000, 1, 4, 1, true, none, 0x0#32, [⟨8, 5, .rw⟩, ⟨6, 2, .rw⟩, ⟨4, 2, .rw⟩, ⟨3, 1, .rw⟩, ⟨0, 1, .rw⟩]⟩,
   ⟨0xc0004, 0x1000000, 1, 4, 1, false, none, 0x0#32, [⟨24, 8, .ro⟩, ⟨19, 1, .ro⟩, ⟨18, 1, .ro⟩, ⟨17, 1, .ro⟩, ⟨16, 1, .ro⟩, ⟨5, 1, .seq⟩, ⟨4, 1, .seq⟩, ⟨3, 1, .seq⟩, ⟨2, 1, .seq⟩, ⟨1, 1, .seq⟩, ⟨0, 1, .seq⟩]⟩,
   ⟨0xc0010, 0x1000000, 1, 4, 1, true, none, 0xfff3000#32, [⟨16, 16, .rw⟩, ⟨12, 4, .rw⟩, ⟨8, 4, .rw⟩, ⟨7, 1, .rw⟩, ⟨6, 1, .rw⟩]⟩,
   ⟨0xc0014, 0x1000000, 1, 4, 1, true, none, 0xfff3000#32, [⟨16, 16, .rw⟩, ⟨12, 4, .rw⟩, ⟨8, 4, .rw⟩, ⟨7, 1, .rw⟩, ⟨6, 1, .rw⟩]⟩,
   ⟨0xc0018, 0x1000000, 1, 4, 1, true, none, 0x0#32, [⟨0, 16, .rw⟩]⟩,
   ⟨0xc001c, 0x1000000, 1, 4, 1, true, none, 0x0#32, [⟨0, 16, .rw⟩]⟩,
   ⟨0xc0020, 0x1000000, 1, 4, 1, true, none, 0x200040#32, [⟨16, 8, .rw⟩, ⟨0, 16, .rw⟩]⟩,
   ⟨0xc0024, 0x1000000, 1, 4, 1, true, none, 0x100100#32, [⟨16, 8, .rw⟩, ⟨0, 16, .rw⟩]⟩,
   ⟨0xc0028, 0x1000000, 1, 4, 1, false, none, 0x0#32, [⟨0, 32, .ro⟩]⟩,
   ⟨0xc002c, 0x1000000, 1, 4, 1, false, none, 0x0#32, [⟨0, 32, .ro⟩]⟩,
   ⟨0xc0030, 0x1000000, 1, 4, 1, false, none, 0x0#32, [⟨0, 32, .ro⟩]⟩,
   ⟨0xc0034, 0x1000000, 1, 4, 1, false, none, 0x0#32, [⟨0, 32, .ro⟩]⟩]
  ++ [⟨0xc0038, 0x1000000, 1, 4, 1, false, none, 0x0#32, [⟨0, 32, .ro⟩]⟩,
   ⟨0xc003c, 0x1000000, 1, 4, 1, false, none, 0x0#32, [⟨0, 32, .ro⟩]⟩,
   ⟨0xc0040, 0x1000000, 1, 4, 1, false, none, 0x0#32, [⟨16, 16, .cnt⟩, ⟨0, 16, .cnt⟩]⟩,
   ⟨0xc0100, 0x8, 32, 4, 1, true, none, 0x0#32, [⟨16, 16, .rw⟩, ⟨11, 5, .rw⟩, ⟨8, 3, .rw⟩, ⟨7, 1, .rw⟩, ⟨6, 1, .rw⟩, ⟨0, 6, .rw⟩]⟩,
   ⟨0xc0104, 0x8, 32, 4, 1, false, none, 0x0#32, [⟨0, 32, .cnt⟩]⟩]

/-- The registers of block REN_ (03_rennet.md). -/
def regRowsRen : List RegRow :=
  [⟨0x80000, 0x1000000, 1, 4, 1, true, none, 0xff02#32, [⟨8, 8, .rw⟩, ⟨1, 1, .rw⟩, ⟨0, 1, .rw⟩]⟩,
   ⟨0x80004, 0x1000000, 1, 4, 1, false, none, 0x0#32, [⟨24, 8, .ro⟩, ⟨16, 8, .ro⟩, ⟨15, 1, .ro⟩, ⟨3, 1, .seq⟩, ⟨2, 1, .seq⟩, ⟨1, 1, .seq⟩, ⟨0, 1, .seq⟩]⟩,
   ⟨0x80008, 0x1000000, 1, 4, 1, true, none, 0x64#32, [⟨0, 8, .rw⟩]⟩,
   ⟨0x8000c, 0x1000000, 1, 4, 1, false, none, 0x0#32, [⟨0, 32, .cnt⟩]⟩,
   ⟨0x80010, 0x1000000, 1, 4, 1, false, none, 0x0#32, [⟨16, 16, .cnt⟩, ⟨0, 16, .ro⟩]⟩,
   ⟨0x80100, 0x10, 16, 4, 1, false, none, 0x0#32, [⟨1, 1, .cmd⟩, ⟨0, 1, .cmd⟩]⟩,
   ⟨0x80104, 0x10, 16, 4, 1, false, none, 0x40#32, [⟨24, 8, .ro⟩, ⟨7, 1, .ro⟩, ⟨6, 1, .ro⟩, ⟨5, 1, .ro⟩, ⟨4, 1, .ro⟩, ⟨1, 1, .seq⟩, ⟨0, 1, .seq⟩]⟩,
   ⟨0x80108, 0x10, 16, 4, 1, false, none, 0x0#32, [⟨0, 32, .ro⟩]⟩,
   ⟨0x8010c, 0x10, 16, 4, 1, false, none, 0x0#32, [⟨16, 12, .ro⟩, ⟨0, 12, .ro⟩]⟩,
   ⟨0x90000, 0x200, 128, 4, 1, true, none, 0x800000#32, [⟨28, 4, .rw⟩, ⟨26, 2, .rw⟩, ⟨24, 2, .rw⟩, ⟨20, 4, .rw⟩, ⟨0, 2, .rw⟩]⟩,
   ⟨0x90004, 0x200, 128, 4, 1, true, none, 0x12c00c8#32, [⟨16, 16, .rw⟩, ⟨0, 16, .rw⟩]⟩,
   ⟨0x90008, 0x200, 128, 4, 1, true, none, 0x0#32, [⟨16, 16, .rw⟩, ⟨0, 16, .rw⟩]⟩]
  ++ [⟨0x9000c, 0x200, 128, 4, 1, true, none, 0x0#32, [⟨16, 16, .rw⟩, ⟨0, 16, .rw⟩]⟩,
   ⟨0x90010, 0x200, 128, 4, 1, false, none, 0x0#32, [⟨24, 8, .ro⟩, ⟨21, 3, .ro⟩, ⟨20, 1, .ro⟩, ⟨16, 4, .ro⟩, ⟨3, 1, .seq⟩, ⟨2, 1, .seq⟩, ⟨1, 1, .seq⟩, ⟨0, 1, .seq⟩]⟩,
   ⟨0x90014, 0x200, 128, 4, 1, false, none, 0x0#32, [⟨0, 32, .ro⟩]⟩,
   ⟨0x90018, 0x200, 128, 4, 1, false, none, 0x0#32, [⟨0, 32, .ro⟩]⟩,
   ⟨0x9001c, 0x200, 128, 4, 1, false, none, 0x0#32, [⟨0, 32, .cnt⟩]⟩,
   ⟨0x90020, 0x200, 128, 4, 1, false, none, 0x0#32, [⟨0, 32, .cnt⟩]⟩,
   ⟨0x90024, 0x200, 128, 4, 1, false, none, 0x0#32, [⟨0, 32, .cnt⟩]⟩]

/-- The registers of block PRT_ (04_downstream_ports.md). -/
def regRowsPrt : List RegRow :=
  [⟨0x40000, 0x1000, 48, 4, 1, true, some 4, 0x0#32, [⟨0, 2, .key⟩]⟩,
   ⟨0x40004, 0x1000, 48, 4, 1, true, none, 0x6015#32, [⟨13, 3, .rw⟩, ⟨8, 2, .rw⟩, ⟨4, 1, .rw⟩, ⟨2, 1, .rw⟩, ⟨1, 1, .rw⟩, ⟨0, 1, .rw⟩]⟩,
   ⟨0x40008, 0x1000, 48, 4, 1, false, none, 0x0#32, [⟨3, 1, .cmd⟩, ⟨2, 1, .cmd⟩, ⟨1, 1, .cmd⟩, ⟨0, 1, .cmd⟩]⟩,
   ⟨0x4000c, 0x1000, 48, 4, 1, false, none, 0x0#32, [⟨24, 8, .ro⟩, ⟨20, 4, .ro⟩, ⟨18, 2, .ro⟩, ⟨17, 1, .ro⟩, ⟨16, 1, .ro⟩, ⟨15, 1, .ro⟩, ⟨14, 1, .ro⟩, ⟨10, 4, .ro⟩, ⟨8, 1, .seq⟩, ⟨7, 1, .seq⟩, ⟨6, 1, .seq⟩, ⟨5, 1, .seq⟩, ⟨4, 1, .seq⟩, ⟨3, 1, .seq⟩, ⟨2, 1, .seq⟩, ⟨1, 1, .seq⟩, ⟨0, 1, .seq⟩]⟩,
   ⟨0x40010, 0x1000, 48, 4, 1, false, none, 0x0#32, [⟨16, 8, .ro⟩, ⟨8, 8, .ro⟩, ⟨4, 4, .ro⟩, ⟨0, 3, .ro⟩]⟩,
   ⟨0x40014, 0x1000, 48, 4, 1, false, none, 0x0#32, [⟨16, 16, .cnt⟩, ⟨6, 2, .ro⟩, ⟨5, 1, .ro⟩, ⟨0, 3, .ro⟩]⟩,
   ⟨0x40018, 0x1000, 48, 4, 1, false, none, 0x0#32, [⟨8, 1, .ro⟩, ⟨0, 1, .cmd⟩]⟩,
   ⟨0x4001c, 0x1000, 48, 4, 1, true, none, 0x0#32, [⟨0, 16, .rw⟩]⟩,
   ⟨0x40020, 0x1000, 48, 4, 1, false, none, 0x0#32, [⟨0, 32, .cnt⟩]⟩,
   ⟨0x40024, 0x1000, 48, 4, 1, false, none, 0x0#32, [⟨0, 32, .cnt⟩]⟩,
   ⟨0x40028, 0x1000, 48, 4, 1, false, none, 0x0#32, [⟨0, 32, .cnt⟩]⟩,
   ⟨0x40040, 0x1000, 48, 4, 8, false, none, 0x0#32, [⟨16, 16, .ro⟩, ⟨12, 4, .ro⟩, ⟨10, 2, .ro⟩, ⟨8, 2, .ro⟩, ⟨0, 7, .ro⟩]⟩]

/-- The registers of block XBR_ (06_crossbar_queues.md). -/
def regRowsXbr : List RegRow :=
  [⟨0xd0000, 0x1000000, 1, 4, 1, true, none, 0x1002#32, [⟨8, 8, .rw⟩, ⟨1, 1, .rw⟩]⟩,
   ⟨0xd0004, 0x1000000, 1, 4, 1, false, none, 0x0#32, [⟨24, 8, .ro⟩, ⟨3, 1, .seq⟩, ⟨2, 1, .seq⟩, ⟨1, 1, .seq⟩, ⟨0, 1, .seq⟩]⟩,
   ⟨0xd0010, 0x1000000, 1, 4, 1, false, none, 0x0#32, [⟨0, 32, .cnt⟩]⟩,
   ⟨0xd0014, 0x1000000, 1, 4, 1, false, none, 0x0#32, [⟨0, 32, .cnt⟩]⟩,
   ⟨0xd0018, 0x1000000, 1, 4, 1, false, none, 0x0#32, [⟨0, 32, .cnt⟩]⟩,
   ⟨0xd001c, 0x1000000, 1, 4, 1, false, none, 0x0#32, [⟨26, 6, .ro⟩, ⟨20, 6, .ro⟩, ⟨18, 2, .ro⟩, ⟨16, 2, .ro⟩]⟩,
   ⟨0xd0100, 0x4, 57, 4, 1, false, none, 0x0#32, [⟨24, 8, .ro⟩, ⟨16, 8, .ro⟩, ⟨8, 8, .ro⟩, ⟨0, 8, .ro⟩]⟩,
   ⟨0xd1000, 0x20, 4, 4, 1, true, none, 0x0#32, [⟨31, 1, .rw⟩, ⟨30, 1, .rw⟩, ⟨24, 6, .rw⟩, ⟨20, 4, .rw⟩, ⟨18, 2, .rw⟩, ⟨17, 1, .rw⟩]⟩,
   ⟨0xd1004, 0x20, 4, 4, 1, true, none, 0x0#32, [⟨0, 16, .rw⟩]⟩,
   ⟨0xd1008, 0x20, 4, 4, 1, true, none, 0x0#32, [⟨0, 24, .rw⟩]⟩,
   ⟨0xd100c, 0x20, 4, 4, 1, true, none, 0x0#32, [⟨0, 20, .rw⟩]⟩,
   ⟨0xd1010, 0x20, 4, 4, 1, false, none, 0x0#32, [⟨0, 32, .cnt⟩]⟩]
  ++ [⟨0xd1014, 0x20, 4, 4, 1, false, none, 0x0#32, [⟨0, 32, .cnt⟩]⟩,
   ⟨0xd1018, 0x20, 4, 4, 1, false, none, 0x0#32, [⟨24, 8, .ro⟩, ⟨8, 16, .ro⟩, ⟨2, 1, .ro⟩, ⟨1, 1, .seq⟩, ⟨0, 1, .seq⟩]⟩]

/-- The registers of block QUE_ (06_crossbar_queues.md). -/
def regRowsQue : List RegRow :=
  [⟨0xe0000, 0x20, 48, 4, 1, true, none, 0x40010064#32, [⟨30, 2, .rw⟩, ⟨24, 5, .rw⟩, ⟨16, 8, .rw⟩, ⟨0, 14, .rw⟩]⟩,
   ⟨0xe0600, 0x20, 8, 4, 1, true, none, 0x10064#32, [⟨30, 2, .rw⟩, ⟨24, 5, .rw⟩, ⟨16, 8, .rw⟩, ⟨0, 14, .rw⟩]⟩,
   ⟨0xe0004, 0x20, 56, 4, 1, false, none, 0x0#32, [⟨24, 8, .ro⟩, ⟨4, 1, .ro⟩, ⟨3, 1, .ro⟩, ⟨2, 1, .seq⟩, ⟨1, 1, .seq⟩, ⟨0, 1, .seq⟩]⟩,
   ⟨0xe0008, 0x20, 48, 4, 1, false, none, 0x200#32, [⟨0, 16, .ro⟩]⟩,
   ⟨0xe0608, 0x20, 1, 4, 1, false, none, 0x800#32, [⟨0, 16, .ro⟩]⟩,
   ⟨0xe0628, 0x20, 2, 4, 1, false, none, 0x200#32, [⟨0, 16, .ro⟩]⟩,
   ⟨0xe0668, 0x20, 1, 4, 1, false, none, 0x1000#32, [⟨0, 16, .ro⟩]⟩,
   ⟨0xe0688, 0x20, 4, 4, 1, false, none, 0x2000#32, [⟨0, 16, .ro⟩]⟩,
   ⟨0xe000c, 0x20, 56, 4, 1, false, none, 0x0#32, [⟨16, 16, .ro⟩, ⟨0, 16, .ro⟩]⟩,
   ⟨0xe0010, 0x20, 56, 4, 1, false, none, 0x0#32, [⟨0, 32, .ro⟩]⟩,
   ⟨0xe0014, 0x20, 56, 4, 1, false, none, 0x80000000#32, [⟨31, 1, .ro⟩, ⟨30, 1, .ro⟩, ⟨28, 2, .ro⟩, ⟨27, 1, .ro⟩]⟩]

/-- The registers of block DMC_ (07_dram_controller.md). -/
def regRowsDmc : List RegRow :=
  [⟨0x100000, 0x1000000, 1, 4, 1, true, some 3, 0x1403#32, [⟨16, 4, .key⟩, ⟨12, 2, .key⟩, ⟨10, 2, .key⟩, ⟨9, 1, .key⟩, ⟨8, 1, .key⟩, ⟨3, 1, .key⟩, ⟨1, 1, .key⟩, ⟨0, 1, .key⟩]⟩,
   ⟨0x100004, 0x1000000, 1, 4, 1, false, none, 0x0#32, [⟨24, 8, .ro⟩, ⟨20, 4, .ro⟩, ⟨19, 1, .ro⟩, ⟨18, 1, .ro⟩, ⟨17, 1, .ro⟩, ⟨5, 1, .seq⟩, ⟨4, 1, .seq⟩, ⟨3, 1, .seq⟩, ⟨2, 1, .seq⟩, ⟨1, 1, .seq⟩, ⟨0, 1, .seq⟩]⟩,
   ⟨0x100008, 0x1000000, 1, 4, 1, true, some 3, 0x0#32, [⟨24, 8, .key⟩, ⟨16, 8, .key⟩, ⟨8, 8, .key⟩, ⟨0, 8, .key⟩]⟩,
   ⟨0x10000c, 0x1000000, 1, 4, 1, true, some 3, 0x0#32, [⟨24, 8, .key⟩, ⟨16, 8, .key⟩, ⟨8, 8, .key⟩, ⟨0, 8, .key⟩]⟩,
   ⟨0x100010, 0x1000000, 1, 4, 1, true, some 3, 0x0#32, [⟨16, 16, .key⟩, ⟨0, 16, .key⟩]⟩,
   ⟨0x100014, 0x1000000, 1, 4, 1, true, none, 0x41014#32, [⟨16, 8, .rw⟩, ⟨8, 8, .rw⟩, ⟨0, 8, .rw⟩]⟩,
   ⟨0x100018, 0x1000000, 1, 4, 1, true, none, 0x202#32, [⟨8, 8, .rw⟩, ⟨0, 8, .rw⟩]⟩,
   ⟨0x10001c, 0x1000000, 1, 4, 1, true, none, 0x402#32, [⟨8, 8, .rw⟩, ⟨0, 4, .rw⟩]⟩,
   ⟨0x100020, 0x1000000, 1, 4, 1, true, none, 0x80000018#32, [⟨31, 1, .rw⟩, ⟨30, 1, .cmd⟩, ⟨0, 16, .rw⟩]⟩,
   ⟨0x100024, 0x1000000, 1, 4, 1, true, none, 0x50000#32, [⟨31, 1, .rw⟩, ⟨16, 8, .rw⟩, ⟨8, 8, .ro⟩]⟩,
   ⟨0x100028, 0x1000000, 1, 4, 1, true, none, 0x3e80010#32, [⟨16, 16, .rw⟩, ⟨0, 16, .rw⟩]⟩,
   ⟨0x100030, 0x1000000, 1, 4, 1, false, none, 0x0#32, [⟨0, 32, .cnt⟩]⟩]
  ++ [⟨0x100034, 0x1000000, 1, 4, 1, false, none, 0x0#32, [⟨0, 32, .cnt⟩]⟩,
   ⟨0x100038, 0x1000000, 1, 4, 1, false, none, 0x0#32, [⟨0, 32, .cnt⟩]⟩,
   ⟨0x10003c, 0x1000000, 1, 4, 1, false, none, 0x0#32, [⟨0, 32, .cnt⟩]⟩,
   ⟨0x100040, 0x1000000, 1, 4, 1, false, none, 0x0#32, [⟨0, 32, .cnt⟩]⟩,
   ⟨0x100044, 0x1000000, 1, 4, 1, false, none, 0x0#32, [⟨0, 32, .cnt⟩]⟩,
   ⟨0x100050, 0x1000000, 1, 4, 1, false, none, 0x0#32, [⟨0, 32, .ro⟩]⟩,
   ⟨0x100054, 0x1000000, 1, 4, 1, false, none, 0x0#32, [⟨28, 4, .ro⟩, ⟨24, 4, .ro⟩, ⟨18, 6, .ro⟩, ⟨17, 1, .ro⟩, ⟨16, 1, .ro⟩, ⟨0, 8, .ro⟩]⟩,
   ⟨0x100058, 0x1000000, 1, 4, 1, false, none, 0x0#32, [⟨28, 4, .ro⟩, ⟨24, 4, .ro⟩, ⟨23, 1, .ro⟩, ⟨0, 23, .ro⟩]⟩,
   ⟨0x10005c, 0x1000000, 1, 4, 1, false, none, 0x0#32, [⟨28, 4, .ro⟩, ⟨24, 4, .ro⟩, ⟨23, 1, .ro⟩, ⟨0, 23, .ro⟩]⟩,
   ⟨0x100060, 0x4, 10, 4, 1, false, none, 0x0#32, [⟨16, 16, .ro⟩, ⟨0, 16, .ro⟩]⟩,
   ⟨0x100100, 0x10, 16, 4, 1, true, none, 0x0#32, [⟨0, 24, .rw⟩]⟩,
   ⟨0x100104, 0x10, 1, 4, 1, true, none, 0x7ffff#32, [⟨0, 20, .rw⟩]⟩]
  ++ [⟨0x100114, 0x10, 15, 4, 1, true, none, 0x0#32, [⟨0, 20, .rw⟩]⟩,
   ⟨0x100108, 0x10, 1, 4, 1, true, none, 0x83ff03ff#32, [⟨31, 1, .rw⟩, ⟨16, 10, .rw⟩, ⟨0, 10, .rw⟩]⟩,
   ⟨0x100118, 0x10, 15, 4, 1, true, none, 0x0#32, [⟨31, 1, .rw⟩, ⟨16, 10, .rw⟩, ⟨0, 10, .rw⟩]⟩]

/-- The registers of block DPY_ (08_dram_training.md). -/
def regRowsDpy : List RegRow :=
  [⟨0x110000, 0x1000000, 1, 4, 1, true, none, 0x3#32, [⟨3, 1, .cmd⟩, ⟨2, 1, .cmd⟩, ⟨1, 1, .rw⟩, ⟨0, 1, .rw⟩]⟩,
   ⟨0x110004, 0x1000000, 1, 4, 1, false, none, 0x0#32, [⟨24, 8, .ro⟩, ⟨20, 4, .ro⟩, ⟨18, 2, .ro⟩, ⟨16, 2, .ro⟩, ⟨14, 2, .ro⟩, ⟨13, 1, .ro⟩, ⟨12, 1, .ro⟩, ⟨4, 1, .seq⟩, ⟨3, 1, .seq⟩, ⟨2, 1, .seq⟩, ⟨1, 1, .seq⟩, ⟨0, 1, .seq⟩]⟩,
   ⟨0x110008, 0x1000000, 1, 4, 1, false, none, 0x0#32, [⟨0, 32, .ro⟩]⟩,
   ⟨0x11000c, 0x1000000, 1, 4, 1, true, none, 0x200064#32, [⟨16, 8, .rw⟩, ⟨0, 16, .rw⟩]⟩,
   ⟨0x110010, 0x1000000, 1, 4, 1, true, none, 0x14140600#32, [⟨24, 8, .rw⟩, ⟨16, 8, .rw⟩, ⟨8, 8, .rw⟩]⟩,
   ⟨0x110020, 0x4, 2, 4, 1, false, none, 0x0#32, [⟨16, 8, .ro⟩, ⟨8, 8, .ro⟩, ⟨0, 8, .ro⟩]⟩,
   ⟨0x110030, 0x4, 2, 4, 1, false, none, 0x0#32, [⟨16, 16, .cnt⟩, ⟨8, 8, .ro⟩, ⟨0, 8, .ro⟩]⟩,
   ⟨0x110044, 0x4, 9, 4, 1, false, none, 0xf000000#32, [⟨24, 4, .ro⟩, ⟨20, 4, .ro⟩, ⟨16, 4, .ro⟩, ⟨0, 16, .ro⟩]⟩,
   ⟨0x110080, 0x4, 5, 4, 1, true, none, 0xfac688#32, [⟨0, 24, .rw⟩]⟩,
   ⟨0x110100, 0x10, 10, 4, 1, false, none, 0x0#32, [⟨16, 4, .ro⟩, ⟨0, 12, .ro⟩]⟩,
   ⟨0x110104, 0x10, 10, 4, 1, false, none, 0x0#32, [⟨24, 8, .ro⟩, ⟨16, 8, .ro⟩, ⟨0, 10, .ro⟩]⟩,
   ⟨0x110108, 0x10, 10, 4, 1, false, none, 0x0#32, [⟨24, 8, .ro⟩, ⟨12, 10, .ro⟩, ⟨0, 10, .ro⟩]⟩]
  ++ [⟨0x11010c, 0x10, 10, 4, 1, false, none, 0x0#32, [⟨24, 8, .ro⟩, ⟨16, 8, .ro⟩, ⟨0, 8, .ro⟩]⟩,
   ⟨0x110200, 0x4, 80, 4, 1, false, none, 0x0#32, [⟨8, 8, .ro⟩, ⟨0, 8, .ro⟩]⟩]

/-- The registers of block HUB_ (09_hub_and_command_function.md). -/
def regRowsHub : List RegRow :=
  [⟨0x20000, 0x1000000, 1, 4, 1, false, none, 0x0#32, [⟨0, 1, .rw⟩]⟩,
   ⟨0x20004, 0x1000000, 1, 4, 1, true, none, 0x50011#32, [⟨16, 8, .rw⟩, ⟨4, 1, .rw⟩, ⟨0, 1, .rw⟩]⟩,
   ⟨0x20008, 0x1000000, 1, 4, 1, false, none, 0x0#32, [⟨24, 8, .ro⟩, ⟨22, 2, .ro⟩, ⟨19, 3, .ro⟩, ⟨18, 1, .ro⟩, ⟨17, 1, .ro⟩, ⟨16, 1, .ro⟩, ⟨5, 1, .seq⟩, ⟨4, 1, .seq⟩, ⟨3, 1, .seq⟩, ⟨2, 1, .seq⟩, ⟨1, 1, .seq⟩, ⟨0, 1, .seq⟩]⟩,
   ⟨0x2000c, 0x1000000, 1, 4, 1, false, none, 0x0#32, [⟨16, 16, .cnt⟩, ⟨6, 2, .ro⟩, ⟨5, 1, .ro⟩, ⟨4, 1, .ro⟩, ⟨2, 2, .ro⟩, ⟨1, 1, .ro⟩]⟩,
   ⟨0x20010, 0x1000000, 1, 4, 1, false, none, 0x0#32, [⟨16, 8, .ro⟩, ⟨0, 8, .ro⟩]⟩,
   ⟨0x20014, 0x1000000, 1, 4, 1, false, none, 0x0#32, [⟨0, 32, .cnt⟩]⟩,
   ⟨0x20018, 0x1000000, 1, 4, 1, false, none, 0x0#32, [⟨0, 32, .cnt⟩]⟩,
   ⟨0x2001c, 0x1000000, 1, 4, 1, false, none, 0x0#32, [⟨0, 32, .cnt⟩]⟩,
   ⟨0x20100, 0x4, 48, 4, 1, true, none, 0x0#32, [⟨31, 1, .rw⟩, ⟨8, 1, .rw⟩, ⟨0, 6, .rw⟩]⟩]

/-- The registers of block CMF_ (09_hub_and_command_function.md). -/
def regRowsCmf : List RegRow :=
  [⟨0x10000, 0x1000000, 1, 4, 1, false, none, 0x0#32, [⟨24, 8, .ro⟩, ⟨21, 3, .ro⟩, ⟨20, 1, .ro⟩, ⟨19, 1, .ro⟩, ⟨4, 1, .seq⟩, ⟨3, 1, .seq⟩, ⟨2, 1, .seq⟩, ⟨1, 1, .seq⟩, ⟨0, 1, .seq⟩]⟩,
   ⟨0x10004, 0x1000000, 1, 4, 1, true, some 6, 0x1#32, [⟨0, 2, .key⟩]⟩,
   ⟨0x10008, 0x1000000, 1, 4, 1, true, none, 0x7f#32, [⟨0, 7, .rw⟩]⟩,
   ⟨0x1000c, 0x1000000, 1, 4, 1, false, none, 0x0#32, [⟨16, 8, .ro⟩, ⟨8, 8, .ro⟩, ⟨4, 1, .ro⟩, ⟨2, 2, .ro⟩, ⟨0, 2, .ro⟩]⟩,
   ⟨0x10010, 0x1000000, 1, 4, 1, false, none, 0x0#32, [⟨0, 32, .cnt⟩]⟩,
   ⟨0x10014, 0x1000000, 1, 4, 1, false, none, 0x0#32, [⟨0, 32, .cnt⟩]⟩,
   ⟨0x10020, 0x4, 2, 4, 1, false, none, 0x0#32, [⟨31, 1, .ro⟩, ⟨30, 1, .ro⟩, ⟨0, 30, .ro⟩]⟩]

/-- The registers of block GLB_ (11_registers.md). -/
def regRowsGlb : List RegRow :=
  [⟨0x0, 0x1000000, 1, 4, 1, false, none, 0x484000a1#32, [⟨16, 16, .ro⟩, ⟨0, 8, .ro⟩]⟩,
   ⟨0x4, 0x1000000, 1, 4, 1, false, none, 0x3c00#32, [⟨8, 8, .rw⟩, ⟨0, 1, .rw⟩]⟩,
   ⟨0x8, 0x1000000, 1, 4, 1, true, some 5, 0x0#32, [⟨31, 1, .ro⟩, ⟨0, 5, .key⟩]⟩,
   ⟨0xc, 0x1000000, 1, 4, 1, false, none, 0x0#32, [⟨0, 7, .rw⟩]⟩,
   ⟨0x10, 0x1000000, 1, 4, 1, false, none, 0x0#32, [⟨16, 16, .cnt⟩, ⟨0, 16, .cnt⟩]⟩,
   ⟨0x14, 0x1000000, 1, 4, 1, false, none, 0x0#32, [⟨28, 4, .ro⟩, ⟨27, 1, .ro⟩, ⟨0, 24, .ro⟩]⟩,
   ⟨0x18, 0x1000000, 1, 4, 1, false, none, 0x0#32, [⟨16, 16, .cnt⟩, ⟨0, 16, .cnt⟩]⟩,
   ⟨0x1c, 0x1000000, 1, 4, 1, false, none, 0x0#32, [⟨16, 16, .cnt⟩, ⟨0, 16, .cnt⟩]⟩,
   ⟨0x20, 0x1000000, 1, 4, 1, false, none, 0x0#32, [⟨0, 32, .ro⟩]⟩,
   ⟨0x24, 0x1000000, 1, 4, 1, false, none, 0x0#32, [⟨0, 32, .ro⟩]⟩,
   ⟨0x40, 0x1000000, 1, 4, 1, true, none, 0x0#32, [⟨0, 24, .rw⟩]⟩,
   ⟨0x44, 0x1000000, 1, 4, 1, false, none, 0x0#32, [⟨0, 24, .rw⟩]⟩]
  ++ [⟨0x48, 0x1000000, 1, 4, 1, false, none, 0x0#32, [⟨0, 24, .ro⟩]⟩]

/-- The registers of block LCK_ (11_registers.md). -/
def regRowsLck : List RegRow :=
  [⟨0x170000, 0x1000000, 1, 4, 1, true, none, 0x3e8#32, [⟨0, 16, .rw⟩]⟩,
   ⟨0x170004, 0x1000000, 1, 4, 1, false, none, 0x0#32, [⟨0, 32, .cnt⟩]⟩,
   ⟨0x170100, 0x4, 32, 4, 1, false, none, 0x20000005#32, [⟨30, 2, .ro⟩, ⟨29, 1, .ro⟩, ⟨24, 5, .ro⟩, ⟨20, 4, .ro⟩, ⟨16, 4, .ro⟩, ⟨8, 8, .ro⟩, ⟨6, 2, .ro⟩, ⟨0, 3, .ro⟩]⟩]

/-- The registers of block TLY_ (11_registers.md). -/
def regRowsTly : List RegRow :=
  [⟨0x160000, 0x1000000, 1, 4, 1, true, none, 0x64#32, [⟨0, 16, .rw⟩]⟩,
   ⟨0x160004, 0x1000000, 1, 4, 1, false, none, 0x0#32, [⟨24, 8, .ro⟩, ⟨16, 6, .ro⟩, ⟨8, 6, .ro⟩, ⟨1, 1, .seq⟩, ⟨0, 1, .seq⟩]⟩,
   ⟨0x160008, 0x1000000, 1, 4, 1, false, none, 0x0#32, [⟨0, 32, .cnt⟩]⟩,
   ⟨0x160010, 0x1000000, 1, 4, 1, false, none, 0xffffffff#32, [⟨0, 32, .ro⟩]⟩,
   ⟨0x160014, 0x1000000, 1, 4, 1, false, none, 0xffffffff#32, [⟨0, 32, .ro⟩]⟩,
   ⟨0x160100, 0x4, 64, 4, 1, false, none, 0x0#32, [⟨0, 32, .ro⟩]⟩]

/-- The registers of block CHN_ (12_chain_joined_systems.md). -/
def regRowsChn : List RegRow :=
  [⟨0x120000, 0x1000000, 1, 4, 1, true, none, 0xf2#32, [⟨4, 4, .rw⟩, ⟨1, 1, .rw⟩]⟩,
   ⟨0x120004, 0x1000000, 1, 4, 1, false, none, 0x40000#32, [⟨24, 8, .ro⟩, ⟨18, 6, .ro⟩, ⟨13, 5, .ro⟩, ⟨12, 1, .ro⟩, ⟨10, 2, .ro⟩, ⟨5, 1, .seq⟩, ⟨4, 1, .seq⟩, ⟨3, 1, .seq⟩, ⟨2, 1, .seq⟩, ⟨1, 1, .seq⟩, ⟨0, 1, .seq⟩]⟩,
   ⟨0x120008, 0x1000000, 1, 4, 1, false, none, 0x0#32, [⟨0, 32, .ro⟩]⟩,
   ⟨0x12000c, 0x1000000, 1, 4, 1, false, none, 0x0#32, [⟨16, 8, .ro⟩, ⟨0, 16, .cnt⟩]⟩,
   ⟨0x120010, 0x1000000, 1, 4, 1, false, none, 0x0#32, [⟨16, 16, .ro⟩, ⟨0, 16, .ro⟩]⟩,
   ⟨0x120014, 0x1000000, 1, 4, 1, true, none, 0x10#32, [⟨0, 16, .rw⟩]⟩,
   ⟨0x120100, 0x20, 4, 4, 1, false, none, 0x0#32, [⟨29, 3, .ro⟩, ⟨24, 5, .ro⟩, ⟨22, 2, .ro⟩, ⟨21, 1, .ro⟩, ⟨20, 1, .ro⟩, ⟨0, 16, .ro⟩]⟩,
   ⟨0x120104, 0x20, 4, 4, 1, false, none, 0x0#32, [⟨0, 32, .cnt⟩]⟩,
   ⟨0x120108, 0x20, 4, 4, 1, false, none, 0x0#32, [⟨0, 32, .cnt⟩]⟩,
   ⟨0x12010c, 0x20, 4, 4, 1, false, none, 0x0#32, [⟨0, 32, .cnt⟩]⟩,
   ⟨0x120110, 0x20, 4, 4, 1, false, none, 0x0#32, [⟨0, 32, .cnt⟩]⟩,
   ⟨0x120200, 0x4, 32, 4, 1, false, none, 0x0#32, [⟨31, 1, .ro⟩, ⟨13, 3, .ro⟩, ⟨8, 5, .ro⟩, ⟨0, 3, .ro⟩]⟩]

/-- The registers of block PDI_ (13_port_power_hoops.md). -/
def regRowsPdi : List RegRow :=
  [⟨0x150000, 0x1000000, 1, 4, 1, true, some 0, 0x190078#32, [⟨16, 8, .key⟩, ⟨0, 8, .key⟩]⟩,
   ⟨0x150004, 0x1000000, 1, 4, 1, false, none, 0x0#32, [⟨24, 8, .ro⟩, ⟨23, 1, .ro⟩, ⟨22, 1, .ro⟩, ⟨21, 1, .ro⟩, ⟨8, 10, .ro⟩, ⟨3, 1, .seq⟩, ⟨2, 1, .seq⟩, ⟨1, 1, .seq⟩]⟩,
   ⟨0x150100, 0x10, 48, 4, 1, true, some 0, 0x903#32, [⟨31, 1, .key⟩, ⟨8, 6, .key⟩, ⟨0, 4, .key⟩]⟩,
   ⟨0x150104, 0x10, 48, 4, 1, false, none, 0x0#32, [⟨24, 8, .ro⟩, ⟨21, 3, .ro⟩, ⟨20, 1, .ro⟩, ⟨19, 1, .ro⟩, ⟨12, 4, .ro⟩, ⟨1, 1, .seq⟩, ⟨0, 1, .seq⟩]⟩,
   ⟨0x150108, 0x10, 48, 4, 1, false, none, 0x0#32, [⟨16, 16, .cnt⟩, ⟨0, 16, .cnt⟩]⟩,
   ⟨0x150400, 0x10, 12, 4, 1, true, some 0, 0x190923#32, [⟨31, 1, .key⟩, ⟨16, 8, .key⟩, ⟨8, 6, .key⟩, ⟨4, 3, .key⟩, ⟨0, 3, .key⟩]⟩,
   ⟨0x150404, 0x10, 12, 4, 1, false, none, 0x0#32, [⟨1, 1, .cmd⟩, ⟨0, 1, .cmd⟩]⟩,
   ⟨0x150408, 0x10, 12, 4, 1, false, none, 0x0#32, [⟨24, 8, .ro⟩, ⟨21, 3, .ro⟩, ⟨20, 1, .ro⟩, ⟨19, 1, .ro⟩, ⟨12, 4, .ro⟩, ⟨1, 1, .seq⟩, ⟨0, 1, .seq⟩]⟩,
   ⟨0x15040c, 0x10, 12, 4, 1, false, none, 0x0#32, [⟨16, 16, .cnt⟩, ⟨0, 16, .cnt⟩]⟩]

/-- The registers of block PWR_ (14_power_domains.md). -/
def regRowsPwr : List RegRow :=
  [⟨0x140000, 0x1000000, 1, 4, 1, true, none, 0xc000400b#32, [⟨31, 1, .rw⟩, ⟨30, 1, .rw⟩, ⟨0, 15, .rw⟩]⟩,
   ⟨0x140004, 0x1000000, 1, 4, 1, false, none, 0x0#32, [⟨16, 1, .ro⟩, ⟨0, 16, .ro⟩]⟩,
   ⟨0x140008, 0x1000000, 1, 4, 1, false, none, 0x0#32, [⟨24, 8, .ro⟩, ⟨22, 2, .ro⟩, ⟨21, 1, .ro⟩, ⟨16, 4, .ro⟩, ⟨8, 8, .ro⟩]⟩,
   ⟨0x140100, 0x10, 15, 4, 1, true, none, 0xa0000#32, [⟨16, 8, .rw⟩, ⟨0, 7, .rw⟩]⟩,
   ⟨0x140104, 0x10, 15, 4, 1, false, none, 0x0#32, [⟨24, 8, .ro⟩, ⟨22, 2, .ro⟩, ⟨20, 2, .ro⟩, ⟨17, 3, .ro⟩, ⟨8, 8, .ro⟩, ⟨2, 1, .seq⟩, ⟨1, 1, .seq⟩, ⟨0, 1, .seq⟩]⟩,
   ⟨0x140200, 0x10, 4, 4, 1, false, none, 0x0#32, [⟨24, 8, .ro⟩, ⟨22, 2, .ro⟩, ⟨20, 2, .ro⟩, ⟨17, 3, .ro⟩, ⟨8, 8, .ro⟩, ⟨2, 1, .seq⟩, ⟨1, 1, .seq⟩, ⟨0, 1, .seq⟩]⟩,
   ⟨0x140108, 0x10, 15, 4, 1, false, none, 0x0#32, [⟨16, 16, .cnt⟩, ⟨0, 16, .cnt⟩]⟩,
   ⟨0x140208, 0x10, 4, 4, 1, false, none, 0x0#32, [⟨16, 16, .cnt⟩, ⟨0, 16, .cnt⟩]⟩,
   ⟨0x140304, 0x4, 17, 4, 1, false, none, 0x0#32, [⟨0, 32, .cnt⟩]⟩]

/-- The registers of block FLT_ (15_faults_safety.md). -/
def regRowsFlt : List RegRow :=
  [⟨0x130000, 0x1000000, 1, 4, 1, false, none, 0x0#32, [⟨0, 1, .cmd⟩]⟩,
   ⟨0x130004, 0x1000000, 1, 4, 1, false, none, 0x0#32, [⟨24, 8, .ro⟩, ⟨23, 1, .ro⟩, ⟨22, 1, .ro⟩, ⟨21, 1, .ro⟩, ⟨20, 1, .ro⟩, ⟨19, 1, .ro⟩, ⟨2, 1, .seq⟩, ⟨1, 1, .seq⟩, ⟨0, 1, .seq⟩]⟩,
   ⟨0x130008, 0x1000000, 1, 4, 1, false, none, 0x0#32, [⟨31, 1, .ro⟩, ⟨28, 3, .ro⟩, ⟨24, 4, .ro⟩, ⟨16, 8, .ro⟩, ⟨0, 16, .ro⟩]⟩,
   ⟨0x13000c, 0x1000000, 1, 4, 1, false, none, 0x0#32, [⟨31, 1, .ro⟩, ⟨16, 8, .ro⟩, ⟨0, 16, .ro⟩]⟩,
   ⟨0x130010, 0x1000000, 1, 4, 1, false, none, 0x0#32, [⟨0, 32, .cmd⟩]⟩,
   ⟨0x130018, 0x1000000, 1, 4, 1, false, none, 0x0#32, [⟨0, 32, .ro⟩]⟩,
   ⟨0x13001c, 0x1000000, 1, 4, 1, false, none, 0x0#32, [⟨0, 32, .ro⟩]⟩,
   ⟨0x130020, 0x1000000, 1, 4, 1, false, none, 0x0#32, [⟨8, 8, .ro⟩, ⟨0, 8, .ro⟩]⟩,
   ⟨0x130024, 0x1000000, 1, 4, 1, false, none, 0x0#32, [⟨0, 8, .cmd⟩]⟩,
   ⟨0x130028, 0x1000000, 1, 4, 1, false, none, 0x0#32, [⟨8, 5, .ro⟩, ⟨0, 8, .ro⟩]⟩,
   ⟨0x13002c, 0x1000000, 1, 4, 1, true, some 2, 0x3#32, [⟨1, 1, .key⟩, ⟨0, 1, .key⟩]⟩,
   ⟨0x130030, 0x1000000, 1, 4, 1, false, none, 0x0#32, [⟨0, 32, .cnt⟩]⟩]
  ++ [⟨0x130040, 0x4, 4, 4, 1, false, none, 0x0#32, [⟨0, 32, .ro⟩]⟩,
   ⟨0x130100, 0x4, 1, 4, 1, true, some 1, 0x509#32, [⟨8, 6, .key⟩, ⟨3, 1, .key⟩, ⟨2, 1, .key⟩, ⟨1, 1, .key⟩, ⟨0, 1, .key⟩]⟩,
   ⟨0x130104, 0x4, 1, 4, 1, true, some 1, 0x50b#32, [⟨8, 6, .key⟩, ⟨3, 1, .key⟩, ⟨2, 1, .key⟩, ⟨1, 1, .key⟩, ⟨0, 1, .key⟩]⟩,
   ⟨0x130108, 0x4, 4, 4, 1, true, some 1, 0x509#32, [⟨8, 6, .key⟩, ⟨3, 1, .key⟩, ⟨2, 1, .key⟩, ⟨1, 1, .key⟩, ⟨0, 1, .key⟩]⟩,
   ⟨0x130118, 0x4, 1, 4, 1, true, some 1, 0x501#32, [⟨8, 6, .key⟩, ⟨3, 1, .key⟩, ⟨2, 1, .key⟩, ⟨1, 1, .key⟩, ⟨0, 1, .key⟩]⟩,
   ⟨0x13011c, 0x4, 1, 4, 1, true, some 1, 0x500#32, [⟨8, 6, .key⟩, ⟨3, 1, .key⟩, ⟨2, 1, .key⟩, ⟨1, 1, .key⟩, ⟨0, 1, .key⟩]⟩,
   ⟨0x130200, 0x1000000, 1, 4, 1, true, none, 0x320000#32, [⟨16, 8, .rw⟩, ⟨0, 12, .rw⟩]⟩,
   ⟨0x130204, 0x1000000, 1, 4, 1, false, none, 0x0#32, [⟨24, 8, .ro⟩, ⟨12, 12, .ro⟩, ⟨0, 12, .ro⟩]⟩,
   ⟨0x130300, 0x1000000, 1, 4, 1, false, none, 0x0#32, [⟨16, 8, .cmd⟩, ⟨0, 16, .cmd⟩]⟩]

/-- The registers of block JNL_ (16_reset_boot.md). -/
def regRowsJnl : List RegRow :=
  [⟨0x180000, 0x1000000, 1, 4, 1, false, none, 0x0#32, [⟨24, 8, .ro⟩, ⟨16, 8, .ro⟩, ⟨12, 4, .ro⟩, ⟨11, 1, .ro⟩, ⟨10, 1, .ro⟩, ⟨9, 1, .ro⟩, ⟨8, 1, .ro⟩, ⟨6, 2, .ro⟩, ⟨2, 1, .seq⟩, ⟨1, 1, .seq⟩, ⟨0, 1, .seq⟩]⟩,
   ⟨0x180004, 0x1000000, 1, 4, 1, false, none, 0x0#32, [⟨8, 8, .cmd⟩, ⟨0, 2, .cmd⟩]⟩,
   ⟨0x180008, 0x1000000, 1, 4, 1, true, none, 0x800007d0#32, [⟨31, 1, .rw⟩, ⟨30, 1, .cmd⟩, ⟨0, 16, .rw⟩]⟩,
   ⟨0x18000c, 0x1000000, 1, 4, 1, false, none, 0x0#32, [⟨0, 32, .ro⟩]⟩,
   ⟨0x180010, 0x4, 2, 4, 1, false, none, 0x0#32, [⟨29, 3, .ro⟩, ⟨16, 8, .ro⟩, ⟨0, 16, .ro⟩]⟩,
   ⟨0x180018, 0x1000000, 1, 4, 1, false, none, 0x0#32, [⟨16, 16, .ro⟩, ⟨0, 16, .ro⟩]⟩]

end Sys2Proof.Machine
end

