-- ==== Sys2Proof/Machine/State.lean ====
section
/-! DEFINITION. The state of the hub as plain data: every register, FIFO, buffer, counter and mode the spec gives it, the
reasons a step can stop, and the state after a power-on reset. A register that has an address lives in the sparse map
`regs` under it, with the cold-reset value of the register table as what is not listed; what is not a register has a
field here. A default value written with a field is its value at reset. -/

namespace Sys2Proof.Machine

/-- A step that stops with a fault. -/
inductive Fault where
  /-- Raised where a command acts on a field that holds an encoding the spec calls reserved and gives no effect for
  (R5: it must not be written); the register's address. Safe: the model stops where the part does something unstated. -/
  | reservedEncoding (addr : Nat)
  deriving DecidableEq, Repr

/-- A command that the model refuses. -/
inductive Refusal where
  /-- Raised by the dispatch for a command that has no meaning yet; safe, nothing can be proved of it. -/
  | notModelled (mnemonic : String)
  deriving DecidableEq, Repr

/-- An observable output of the block: what it puts on a pin, a bus, a link or a cable. `kind` names it, `args` and
`bytes` carry its numbers and its data as the docstring of the kind says. -/
inductive OutKind where
  /-- die-link packet sent: from (0 core, 1 power), type, seq, length in transfers, packet-specific bits; bytes: data -/
  | dieLink
  /-- die-link packet accepted and passed on: at (0 core, 1 power), type; bytes: data -/
  | dieDeliver
  /-- command reply: origin node, origin channel, opcode, tag, generation, executing node, status, bytes 9-15; bytes: payload -/
  | reply
  /-- a reply taken by its consumer at the origin: channel, tag, generation, status -/
  | delivered
  /-- chain packet sent: chain port, kind, then the kind's numbers; bytes: data -/
  | chainTx
  /-- a flit sent, for the first time or again: chain port, pool (6 for CONTROL, 7 for IDLE); bytes: its 64 bytes (R458) -/
  | flitTx
  /-- event placed in queue 51 (R366): kind, handle, generation, detail -/
  | event
  /-- a USB packet or transfer started on a downstream port: port, what, then numbers; bytes: data. What 0: a control
  transfer: address, address and port of the external hub whose translator serves it or 0 0; bytes: SETUP data. 1-4: OUT, IN,
  start-split, complete-split: address, endpoint, toggle, and for a split the hub's address and port. What 16: a repeated packet
  is ended with a CRC16 forced bad (R205) -/
  | portTx
  /-- a bus signal on a downstream port: port, 0 reset, 1 resume, 2 suspend, 3 none, 4 test mode, 5 SOF -/
  | portBus
  /-- an answer to the upstream host: kind (0 data, 1 ACK, 2 NAK, 3 STALL, 4 NYET, 5 a packet ended with a CRC16
  forced bad, R205, 6 ERR of a complete-split, R345), endpoint; bytes: data -/
  | upstream
  /-- a signal on the upstream bus: 0 remote-wake K, 1 pull-up on, 2 pull-up off -/
  | upBus
  /-- GPIO level: number, level -/
  | gpio
  /-- ALIVE level -/
  | alive
  /-- gate of a hoop or VBUS output: 0 VBUS / 1 hoop, number, level -/
  | switchOut
  /-- a notice to the management processor: source (0 cam channel, 1 queue), number -/
  | notice
  /-- a shaft record sent on the chain (R39); bytes: the 16-byte record -/
  | shaftRec
  /-- a commit time published on the time bus: target (stream, or 0x100 + cam), revolution, T -/
  | timeBus
  /-- SMBus slave: 0 ACK, 1 NACK, 2 data; bytes: data -/
  | smbus
  /-- a DRAM request issued to port 53: requester, op, address, length, deadline or 0, tag -/
  | dramReq
  /-- a DRAM reply formed at input 53: requester, class, status, tag, address, length, context, deadline or 2^24; bytes: data -/
  | dramReply
  /-- a DRAM device action: 0 refresh, 1 RFM, 3 precharge, 5 ZQ calibration: rank. 2 a burst replayed: rank, write, address;
  bytes: data. 6 read, 7 write: address, then rank, bank group, bank, row, column and byte lane (R242). 8 mode registers of the
  device of a lane written: lane (5 × rank + lane), settings in the layout of DPY_LANEn_VREF. 9 DDR_RESET_N: level. 10 S5.9's
  pattern written and read: rank, first byte of the top 2 MiB -/
  | dramDev
  /-- a crossbar cell that a block forms and presents: input, 64-bit tag (R193); bytes: data -/
  | cell
  /-- a cell delivered: output, input, class, poison, last, 64-bit tag (R193); bytes: data -/
  | cellOut
  /-- a register access answered to the processor or the port: channel, status, data -/
  | regAns
  /-- a work item issued by Rennet (R74): output port, group, epoch; bytes: the item -/
  | item
  /-- a chip reset carried out: kind -/
  | reset
  /-- JTAG answer -/
  | jtag
  deriving DecidableEq, Repr

structure Out where
  kind : OutKind
  args : List Nat := []
  bytes : List Byte := []
  deriving DecidableEq, Repr

/-- One direction of the die link, at its sender and its receiver (R8-R10). -/
structure DlDir where
  /-- sequence number of the next new packet -/
  txSeq : Nat := 0
  /-- sequence number the receiver expects -/
  rxExp : Nat := 0
  /-- sent and not acknowledged, oldest first (at most 15) -/
  held : List DlPkt := []
  /-- waiting for the window, next first -/
  waiting : List DlPkt := []
  /-- replays in a row that began with the same packet -/
  replays : Nat := 0
  /-- sequence number the last replay began with -/
  replaySeq : Option Nat := none
  /-- packets that are sent again after a reset of the link although the receiver had accepted them (R10) -/
  dup : Nat := 0
  deriving DecidableEq, Repr

/-- Who made an access to PDI_ whose packets are on the die link: an access of the processor or by address, a command, or
nobody any more, once a reset of the link has answered it BUSY (R10). -/
inductive PdiWho where
  | own (a : Acc)
  | cmd (c : Cmd)
  | gone
  deriving DecidableEq, Repr

/-- One access that a REG_REQ carries (R8): address, the value of a write, and whether a key came with it and matched. -/
structure PdiAct where
  addr : Nat
  write : Option Word := none
  keyed : Option Bool := none
  deriving DecidableEq, Repr

/-- Accesses to PDI_ that cross a die link which carries something already (R8, R10, R11). -/
structure PdiReq where
  who : PdiWho
  /-- accesses whose REG_REQ has not reached the power die -/
  reqs : List PdiAct
  /-- status and data of those done whose REG_RSP has not reached the core die -/
  done : List (Nat × Word) := []
  /-- status and data received -/
  got : List (Nat × Word) := []
  /-- a write is among them -/
  writes : Bool
  deriving DecidableEq, Repr

/-- The die link (R8-R13). -/
structure DieLink where
  /-- core to power -/
  down : DlDir := {}
  /-- power to core -/
  up : DlDir := {}
  /-- in service -/
  inService : Bool := true
  /-- EVENT packets of the power die not yet taken by the core (R8) -/
  events : List PdEvent := []
  /-- accesses to PDI_ that wait for the link, oldest first -/
  reqs : List PdiReq := []
  deriving DecidableEq, Repr

/-- One encoder channel (R25-R30). -/
structure Enc where
  a : Bool := false
  b : Bool := false
  z : Bool := false
  /-- c, the count since the last index pulse, 0 to N - 1 -/
  count : Nat := 0
  /-- revolution count, unwrapped -/
  rev : Int := 0
  homed : Bool := false
  /-- counting backwards -/
  back : Bool := false
  /-- counts since the last decimated edge -/
  dec : Nat := 0
  /-- index seen since the last record -/
  indexAt : Bool := false
  deriving DecidableEq, Repr

/-- A shaft record as the estimator keeps it (R32): edge time and unwrapped angle word. -/
structure ShRec where
  t : Nat
  ang : Int
  deriving DecidableEq, Repr

/-- A commit point of a stream that froze (R69). -/
structure CommitPt where
  stream : Nat
  group : Nat
  pick : Nat
  /-- number within the pick (R65) -/
  idx : Nat
  time : Nat
  /-- D, 24-bit stamp (R70) -/
  dl : Nat
  epoch : Nat
  /-- destination count of the bank it reads (R76) -/
  dest : Nat
  /-- the stream's row origin at the freezing (R82, R97) -/
  base : Nat
  deriving DecidableEq, Repr

/-- A target of the shaft unit whose commit time froze or that was missed, on the time bus (R36). -/
structure BusMsg where
  /-- stream 0-127 -/
  stream : Nat
  /-- pick number and commit index of the commit point -/
  pick : Nat
  idx : Nat
  /-- the commit point as its freezing fixed it (R69), or none for a missed target -/
  cp : Option CommitPt
  deriving DecidableEq, Repr

/-- The shaft unit (R25-R48). -/
structure Shf where
  enc : Sp Enc := []
  /-- record history of the master, newest first -/
  hist : List ShRec := []
  /-- record history of the second channel, for plausibility (R48) -/
  hist2 : List ShRec := []
  /-- records since enable, the last reversal and the last unlock (R35) -/
  since : Nat := 0
  /-- sequence number of the next record sent (R39) -/
  seq : Nat := 0
  /-- sequence number expected of the master's next record -/
  nextSeq : Option Nat := none
  overdue : Bool := false
  /-- homed flag of the latest record (R39) -/
  recHomed : Bool := false
  /-- master position, unwrapped angle units -/
  pos : Int := 0
  /-- revolutions in which a cam channel has fired (R40): channel, unwrapped revolution -/
  camFired : List (Nat × Int) := []
  /-- cam channel -> 2 * its GPIO + the level to return to + 1 while its pulse runs (R41) -/
  camPulse : Sp Nat := []
  /-- commit times published and targets missed, not yet taken by Rennet -/
  bus : List BusMsg := []
  /-- a port engine is still re-phasing after a step of chain time (R47) -/
  phasing : Bool := false
  /-- chain time is synchronised: a SYNC within 10 ms, or a hub that needs none (R38, R472) -/
  synced : Bool := true
  deriving DecidableEq, Repr

/-- A stream engine (R63). -/
structure Engine where
  work : Option CommitPt := none
  /-- reads of the commit point whose data have arrived, after the header's or the point array's -/
  stage : Nat := 0
  /-- items of the commit point already issued -/
  issued : Nat := 0
  /-- the known-answer test must run before the next commit point (R103) -/
  katDue : Bool := false
  deriving DecidableEq, Repr

/-- A stream's history beside its registers (R66, R89-R91). -/
structure Stream where
  outPrev : Int := 0
  dPrev : Int := 0
  clampRun : Nat := 0
  /-- the first commit point since STREAM_START has not been produced yet (R90) -/
  fresh : Bool := false
  /-- a commit point has frozen since STREAM_START (R96) -/
  anyFrozen : Bool := false
  /-- registered commit point: pick and number within it -/
  reg : Option (Nat × Nat) := none
  /-- AT_PICK halt pending once the pick in progress has completed; whether it sets halt_ev -/
  haltAt : Option Bool := none
  /-- destination-set size per bank (R76) -/
  dest0 : Nat := 0
  dest1 : Nat := 0
  deriving DecidableEq, Repr

/-- A switch group (R92-R99). -/
structure Group where
  /-- a TABLE_FLIP rather than a STREAM_SWITCH is pending -/
  flip : Bool := false
  /-- streams that have changed epoch in the pending change -/
  changed : List Nat := []
  /-- an epoch change has ended and the group has not settled yet -/
  draining : Bool := false
  /-- the resync copy is running (R93) -/
  copying : Bool := false
  /-- table IDs written while the change was prepared (R94) -/
  dirty : List Nat := []
  deriving DecidableEq, Repr

/-- Rennet (R63-R104). -/
structure Ren where
  str : Sp Stream := []
  grp : Sp Group := []
  eng : Sp Engine := []
  /-- frozen commit points waiting for an engine, oldest first -/
  queue : List CommitPt := []
  deriving DecidableEq, Repr

/-- A work item held by a port engine (R149). -/
structure Item where
  /-- the bytes of the work item as Rennet built it (R74) -/
  bytes : List Byte
  /-- effective deadline stamp -/
  eff : Nat
  /-- pipe context -/
  pipe : Nat
  /-- the anchor computed as it arrived (R46, R149) -/
  anchor : List Byte := []
  /-- an upset in its buffer: its parity fails as it is read (R23, R152) -/
  upset : Bool := false
  deriving DecidableEq, Repr

/-- A transaction in progress on a port: its pipe, the item's bytes when it is a playout transaction, and for a split the
complete-splits left and the microframe of the next one (R153). -/
structure UsbTx where
  pipe : Nat
  item : Option (List Byte) := none
  cs : Nat := 0
  csAt : Nat := 0
  deriving DecidableEq, Repr

/-- An enumeration in progress (R138). -/
structure EnumRun where
  sub : Nat
  /-- step code, 1-10 -/
  step : Nat := 1
  /-- failed tries of the step -/
  tries : Nat := 0
  attempt : Nat := 1
  addr : Nat := 0
  /-- speed code of R165 -/
  speed : Nat := 0
  isHub : Bool := false
  /-- of the device descriptor: a hub with a translator per port, and the number of configurations -/
  multiTt : Bool := false
  nConf : Nat := 0
  /-- of the configuration descriptor: its full length, 0 until its first bytes are read; its value; the number of the
  module's interface -/
  cfgLen : Nat := 0
  cfgVal : Nat := 0
  ifNum : Nat := 0
  /-- maximum packet size of endpoint 0 -/
  mps0 : Nat := 8
  /-- its endpoints: address, maximum packet size and bInterval, OUT then IN -/
  outEp : Nat := 0
  outMps : Nat := 0
  inEp : Nat := 0
  inMps : Nat := 0
  inIval : Nat := 0
  /-- bmAttributes allows remote wakeup -/
  wake : Bool := false
  /-- pipe contexts allocated -/
  pipes : List Nat := []
  /-- module class descriptor and GET_MODULE_INFO reply -/
  desc : List Byte := []
  info : List Byte := []
  /-- its slot entries are in the shadow bank and apply is requested -/
  applied : Bool := false
  deriving DecidableEq, Repr

/-- What a control transfer of a port engine is for: the step of the enumeration of a sub-address (R138), the descriptor of the
external hub (R153), a request that sets or clears something of it (R136), the status of one of its ports (R136), or
CLEAR_FEATURE ENDPOINT_HALT for a pipe (R143). -/
inductive CtlFor where
  | enum (sub : Nat)
  | hubDesc
  | hubSet
  | hubStatus (n : Nat)
  | clearHalt (pipe : Nat)
  deriving DecidableEq, Repr

/-- A control transfer that waits or is on the cable (R148): the device whose endpoint 0 it uses, by sub-address and by the
address it has now, and its SETUP data. -/
structure Ctl where
  sub : Nat
  addr : Nat
  setup : List Byte
  what : CtlFor
  started : Bool := false
  deriving DecidableEq, Repr

/-- A port engine beside its registers (R123-R170). -/
structure Port where
  /-- presence samples in a row: present, absent -/
  presRun : Nat := 0
  absRun : Nat := 0
  enum : Option EnumRun := none
  /-- sub-addresses that wait for their enumeration, in order of connect (R136) -/
  waitEnum : List Nat := []
  lastAddr : Nat := 0
  /-- addresses assigned to attached devices, with their sub-address -/
  inUse : List (Nat × Nat) := []
  /-- quarantined addresses (R156) -/
  quar : List Nat := []
  items : List Item := []
  /-- the transaction on the wire, and split transactions that a translator holds (R153) -/
  tx : Option UsbTx := none
  splits : List UsbTx := []
  /-- consecutive errors per pipe (R143) -/
  errs : Sp Nat := []
  /-- slot entries still to be served in the microframe, in order, and its number (R148) -/
  todo : List Nat := []
  mf : Nat := 0
  /-- entries of the microframe found not to fit, which are carried (R148) -/
  late : List Nat := []
  /-- control transfers, in order of request, and the sub-address served last (R148) -/
  ctl : List Ctl := []
  rrCtl : Nat := 7
  /-- of the external hub: translator think time in full-speed bit times, and whether each port has its own (R153) -/
  ttThink : Nat := 0
  ttMulti : Bool := false
  /-- ns of the frame that each translator's full-speed bus is taken for: 0 the single one, else the port's (R148, R153) -/
  ttUsed : Sp Nat := []
  /-- a module drove K while the port's domain was in RETENTION (R159) -/
  kWake : Bool := false
  /-- role change accepted and not yet at its commit point: new role and the command -/
  roleChange : Option (Nat × Option Cmd) := none
  /-- reason of the resume drive in progress: 1 software, 2 remote (R158) -/
  resume : Nat := 0
  /-- a module's K met a software resume already driving (R158) -/
  collided : Bool := false
  /-- a failed known-answer test holds the port in ERROR (R160) -/
  katHold : Bool := false
  /-- chain time of the last class 1 item (R134) -/
  lastItem : Nat := 0
  /-- how far the frame timer is from chain time's grid, in ns: 0 in phase (R47) -/
  phase : Int := 0
  /-- the next SOF: its nominal chain time and the launch instant fixed for it (R45) -/
  sofAt : Option (Nat × Int) := none
  /-- hub-mode: C_PORT change bits (R338) -/
  change : Nat := 0
  /-- hub-mode: the host's recorded power request (R340) -/
  powerReq : Bool := false
  overCurrent : Bool := false
  /-- test selector of a port in a test mode (R341), 0 none -/
  testMode : Nat := 0
  deriving DecidableEq, Repr

/-- A crossbar cell (R193). -/
structure XCell where
  dst : Nat
  src : Nat
  cls : Nat
  first : Bool
  last : Bool
  valid : Nat
  poison : Bool := false
  noDl : Bool := true
  dl : Nat := 0
  epoch : Nat := 0
  group : Nat := 0
  mcast : Bool := false
  mgroup : Nat := 0
  rpt : Bool := false
  data : List Byte := []
  /-- the buffer place the cell holds; copies of one multicast cell share it (R206) -/
  uid : Nat := 0
  /-- the place is in the shared pool (R196) -/
  shared : Bool := false
  deriving DecidableEq, Repr

/-- A packet lock (R202): the input it names, and the group and epoch of the packet (R210). -/
structure XLock where
  inp : Nat
  group : Nat
  epoch : Nat
  /-- a cell of the packet was found bad: the rest is poisoned (R205) -/
  bad : Bool := false
  /-- what has been delivered of a packet that leaves by a chain port or into a capture queue -/
  acc : List Byte := []
  /-- a cell of the packet was misrouted and its rest is discarded (R195): the lock waits for its timeout -/
  gone : Bool := false
  deriving DecidableEq, Repr

/-- A packet of which cells have entered an input and the last has not (R194, R206). -/
structure OpenPk where
  head : CellIn
  cells : Nat := 1
  /-- the outputs its first cell named -/
  outs : List Nat := []
  deriving DecidableEq, Repr

/-- The crossbar (R193-R210). -/
structure Xbar where
  /-- virtual output queues: key (input * 64 + output) * 4 + class, head first -/
  voq : Sp (List XCell) := []
  /-- packet locks: key output * 4 + class -/
  lock : Sp (Option XLock) := []
  /-- virtual output queues that discard what still arrives of a packet, up to its end mark -/
  discard : List Nat := []
  /-- the packet that is still arriving: key input * 4 + class -/
  openPk : Sp (Option OpenPk) := []
  /-- cells that the block at an input presents and that have no room yet (R208): key input * 4 + class -/
  feed : Sp (List CellIn) := []
  /-- credits: key output * 5 + pool (0 commands and replies, 1 reports, 2-4 classes 1-3) -/
  credit : Sp Nat := []
  /-- refused cell times in a row of a class 2 or 3 request: key output * 4 + class (R201) -/
  refused : Sp Nat := []
  /-- round-robin pointers: key 0-63 outputs, 64-127 inputs -/
  rr : Sp Nat := []
  /-- matched pairs of the cell time whose cell has not moved yet: input, output, class -/
  matched : List (Nat × Nat × Nat) := []
  nextUid : Nat := 1
  deriving DecidableEq, Repr

/-- A queue word (R213). -/
structure QWord where
  data : Word
  last : Bool
  /-- valid bytes, 1-4 -/
  bytes : Nat
  /-- its bytes whose parity bit does not match (R213) -/
  bad : BitVec 4 := 0
  deriving DecidableEq, Repr

/-- Every byte of a queue word passes parity. -/
def QWord.parityOk (w : QWord) : Bool := w.bad == 0

/-- A queue (R212-R219). -/
structure Que where
  words : List QWord := []
  /-- a word of the packet at the head failed parity -/
  bad : Bool := false
  /-- whether the stale and threshold conditions hold (R215) -/
  staleOn : Bool := false
  threshOn : Bool := false
  /-- the packet at the head has been read in part -/
  part : Bool := false
  /-- words promised to packets that output 48 has begun, oldest first (R213) -/
  owed : List Nat := []
  deriving DecidableEq, Repr

/-- A whey tap (R220-R223). -/
structure Tap where
  /-- packets of a chosen class seen since enable -/
  seen : Nat := 0
  /-- cells of copies that wait for input 56 (R220) -/
  buf : List CellIn := []
  deriving DecidableEq, Repr

/-- A VBUS switch or hoop beside its registers (R494, R496). -/
structure Sw where
  /-- the holdoff runs -/
  holdoff : Bool := false
  /-- its length in units of 10 ms: of a hoop fixed at the latch-off, of a VBUS switch at its start (R496, R502) -/
  holdLen : Nat := 0
  /-- the fault timer has accumulated since its last return to zero -/
  timing : Bool := false
  /-- inrush is over and the clean window runs -/
  window : Bool := false
  deriving DecidableEq, Repr

/-- The power die beside its registers. -/
structure Pdie where
  /-- key 0-47 VBUS switches, 48-59 hoops -/
  sw : Sp Sw := []
  /-- junction temperature last reported to the core die, °C (R301) -/
  temp : Int := 0
  /-- supplies outside their window (R604) -/
  badSupply : List Nat := []
  /-- the heartbeat monitor is armed (R551) -/
  armed : Bool := false
  /-- count of the last HEARTBEAT received (R548) -/
  lastCount : Option Nat := none
  deriving DecidableEq, Repr

/-- A proof test in progress (R554). -/
structure Proof where
  test : Nat
  cmd : Option Cmd
  /-- nodes that acknowledged (test 0x05) -/
  acks : List Nat := []
  /-- HEARTBEAT turns withheld (test 0x02) -/
  held : Nat := 0
  deriving DecidableEq, Repr

/-- The fault collector beside its registers (R537-R551). -/
structure Flt where
  /-- runs from the end of boot step S1 (R538) -/
  on : Bool := false
  /-- HEARTBEAT and ALIVE run from S10 -/
  hbOn : Bool := false
  /-- group -> source that started its grace timer (R541) -/
  graceSrc : Sp Nat := []
  hbCount : Nat := 0
  alive : Bool := false
  proof : Option Proof := none
  /-- causes present before the collector runs, raised at its start (R538): source, detail -/
  early : List (Nat × Nat) := []
  /-- STRAP[3:2] read 0b11 at the last cold reset (R557) -/
  strapFactory : Bool := false
  deriving DecidableEq, Repr

/-- A command outstanding at this hub as its origin (R387). -/
structure Outst where
  chan : Nat
  tag : Nat
  gen : Nat
  opcode : Nat
  urgent : Bool
  /-- nodes whose final reply is awaited, each with its join count at acceptance (R389, R476) -/
  awaits : List (Nat × Nat)
  deriving DecidableEq, Repr

/-- A command in execution at this hub beyond the step that took it up (R391, R395, R398). -/
structure Run where
  cmd : Cmd
  /-- the next DRAM request or access, or bytes done -/
  next : Nat := 0
  /-- a DRAM reply said CORRECTED -/
  corrected : Bool := false
  /-- bytes read so far (MEM_RD) -/
  data : List Byte := []
  pendingSent : Bool := false
  committed : Bool := false
  deriving DecidableEq, Repr

/-- The command paths (R382-R408). -/
structure Cmds where
  out : List Outst := []
  /-- accepted for execution at this hub and not yet executed, oldest first -/
  acc : List Cmd := []
  run : List Run := []
  /-- aborted before they were executed: their execution has no effect -/
  gone : List Cmd := []
  /-- MEM_WRs aborted before the grant of their first DRAM request, which is not to be granted (R398) -/
  killed : List Cmd := []
  /-- bytes of a partial command on channel 0 and 1, and whether the transfer on endpoint 0x01 ended after them -/
  part0 : List Byte := []
  part1 : List Byte := []
  ended : Bool := false
  /-- replies that wait for room in the queue of their channel, oldest first -/
  held : List (Nat × List Byte) := []
  /-- the processor's held first store of a keyed pair: address and value (R422) -/
  keyed : Option (Nat × Word) := none
  /-- segments held by Rind while the core die is down (R408), and the partial command at the end of what it has taken,
  which it cuts by itself for a PORT_POWER off (R402) -/
  rind : List Byte := []
  rindPart : List Byte := []
  /-- bytes of the reply to core off that Rind has still to send on SMBus (R527) -/
  rindOut : List Byte := []
  /-- a reply of queue 49 partly read by Block Read: the bytes left -/
  smbRead : List Byte := []
  deriving DecidableEq, Repr

/-- A transaction that a TT holds (R345). -/
structure TtTx where
  port : Nat
  dev : Nat
  ep : Nat
  isIn : Bool
  periodic : Bool
  bytes : Nat
  /-- discarded for want of periodic capacity: its complete-split is answered ERR -/
  refused : Bool := false
  /-- how it ended on the cable, once it has -/
  res : Option Sys2Proof.TxResult := none
  deriving DecidableEq, Repr

/-- The hub function beside its registers (R331-R358). -/
structure Hub where
  /-- USB address of the hub -/
  addr : Nat := 0
  /-- DEVICE_REMOTE_WAKEUP of the hub, and bRemoteWake of the LPM token that put it into L1 -/
  rwake : Bool := false
  l1Wake : Bool := false
  /-- global over-current and its change bit, and C_HUB_LOCAL_POWER (R341, R343) -/
  oc : Bool := false
  cOc : Bool := false
  /-- state to return to after suspend or L1 (HUB_STAT.state code) -/
  before : Nat := 0
  /-- transactions held, per TT (0 the single TT, else the logical port) -/
  tts : Sp (List TtTx) := []
  /-- address and endpoint of the host's last token -/
  tok : Option (Nat × Nat) := none
  /-- a SetPortFeature(PORT_RESET) request observed to this address, its status stage still to come (R351) -/
  seenReset : Option Nat := none
  /-- a SETUP token was the last token -/
  setup : Bool := false
  /-- frame number of the host's last SOF (R346) -/
  frame : Option Nat := none
  /-- the upstream bus is suspended (R354) or in L1 (R358) -/
  susp : Bool := false
  /-- a remote-wake K is being driven, or was driven and the host's resume is awaited (R355) -/
  driving : Bool := false
  deriving DecidableEq, Repr

/-- A stream endpoint's window (R363, R396). -/
structure Strm where
  base : Nat := 0
  len : Nat := 0
  node : Nat := 0
  /-- bytes moved since binding -/
  pos : Nat := 0
  stall : Bool := false
  /-- DRAM requests whose reply is still to come, and the number of the next -/
  reqs : List Nat := []
  next : Nat := 0
  /-- bytes read and waiting for the host, and whether the window's last packet has gone (endpoint 0x83) -/
  ready : List Byte := []
  ended : Bool := false
  deriving DecidableEq, Repr

/-- The command function beside its registers (R359-R368). -/
structure Cmf where
  addr : Nat := 0
  l1Wake : Bool := false
  before : Nat := 0
  /-- endpoints whose next toggle is DATA1 -/
  tog : List Nat := []
  /-- notification waiting: flags, sequence number, events, time (R362) -/
  notif : Option (Nat × Nat × Nat × Nat) := none
  /-- flags as last seen, and the sequence number of the next notification -/
  flags : Nat := 0
  seq : Nat := 0
  /-- logical port 1 is suspended selectively (R339) -/
  sel : Bool := false
  out3 : Strm := {}
  in83 : Strm := {}
  deriving DecidableEq, Repr


/-- A DRAM request (R247): of a requester index (R253), with the index whose permission it needs (R246) and the data that have
arrived. -/
structure DramReq where
  requester : Nat
  perm : Nat
  /-- class 0-3; 4 for one of the controller's own, which has none -/
  cls : Nat
  op : Nat
  ack : Bool := false
  tag : Nat := 0
  addr : Nat
  len : Nat
  ctx : Nat := 0
  noDl : Bool
  dl : Nat := 0
  data : List Byte := []
  /-- offset of the first data byte whose cell carries poison (R205) -/
  poison : Option Nat := none
  /-- the end mark has arrived -/
  whole : Bool := true
  /-- a check has refused it and its reply is still to come (R250, R622) -/
  refuse : Option DramStatus := none
  deriving DecidableEq, Repr

/-- A MEM_FILL or MEM_CRC that the memory engine carries out (R252): the address of its next access, the CRC so far. -/
structure EngRun where
  cmd : Cmd
  next : Nat
  crc : Word := 0xFFFFFFFF
  deriving DecidableEq, Repr

/-- A granted DRAM request in a slot of the bank scheduler (R257, R260). -/
structure DSlot where
  req : DramReq
  /-- grant number: grants are numbered in order -/
  grant : Nat
  passes : Nat := 0
  started : Bool := false
  /-- its rank's refresh has interrupted it (R263) -/
  interrupted : Bool := false
  deriving DecidableEq, Repr

/-- A burst as the controller keeps it for a replay (R271). -/
structure Burst where
  write : Bool
  addr : Nat
  data : List Byte
  deriving DecidableEq, Repr

/-- The DRAM controller beside its registers (R240-R276). -/
structure Dmc where
  /-- requests that wait at the front arbiter or, refused, for their reply, in order of arrival -/
  front : List DramReq := []
  /-- slot 0-3 to the request it holds -/
  slots : Sp (Option DSlot) := []
  grants : Nat := 0
  /-- accesses granted in the quota window: processor, chain ports together (R255) -/
  usedProc : Nat := 0
  usedChain : Nat := 0
  /-- consecutive grants by rule 3 to stamped requests while a no_deadline request waited (R256) -/
  stamped : Nat := 0
  /-- refreshes ahead of (or behind) tREFI, per rank (R262) -/
  acct0 : Int := 0
  acct1 : Int := 0
  /-- RFM commands that wait, ranks one after another -/
  rfmDue : List Nat := []
  /-- ranks that a refresh or RFM holds, and those of them that an RFM holds -/
  taken : List Nat := []
  rfmOn : List Nat := []
  /-- the rank that the debug port holds, and the rank it waits for (R259) -/
  debugHeld : Option Nat := none
  debugDue : Option Nat := none
  /-- the rate change that takes effect at the next tREFI boundary, and a reported over-temperature (R265) -/
  hotNext : Bool := false
  tooHot : Bool := false
  /-- ALERT_N is asserted and issuing has stopped (R271) -/
  alert : Bool := false
  /-- the burst that caused the last alert, and the replays made since for it -/
  alertBurst : Option Nat := none
  replays : Nat := 0
  /-- the last 16 bursts, oldest first -/
  bursts : List Burst := []
  /-- code words stored poisoned (R268): address -> 1 -/
  bad : Sp Nat := []
  /-- patrol scrub's position (R272) -/
  scrub : Nat := 0
  /-- times of the corrections within the window (R269) -/
  ceTimes : List Nat := []
  /-- ECC initialisation runs in S6 (R273) -/
  initing : Bool := false
  /-- commands that wait for the memory engine, with the number of grants before them (R252) -/
  engine : List (Cmd × Nat) := []
  /-- the command that the memory engine carries out -/
  engRun : Option EngRun := none
  /-- requesters and classes whose packet is discarded up to its end mark (R258) -/
  drain : List (Nat × Nat) := []
  /-- the front arbiter has stopped granting for an entry into RETENTION (R274) -/
  stopGrants : Bool := false
  deriving DecidableEq, Repr

/-- A run of S5 in progress (R297-R312). -/
structure TrainRun where
  /-- 1-9 for S5.1-S5.9, 10 for the read-gate check -/
  step : Nat := 1
  rank : Nat := 0
  attempt : Nat := 1
  /-- from a valid cache entry rather than in full -/
  cached : Bool := false
  /-- the exit sequence after a warm-retain reset (R312), or of D4 leaving RETENTION (R274) -/
  retained : Bool := false
  exit : Bool := false
  deriving DecidableEq, Repr

/-- What the flash writes for training (R305, R306): an entry into a sector, or an erasure. -/
inductive FlashOp where
  | entry (sector : Nat) (bytes : List Byte)
  | invalidate
  | markClear
  deriving DecidableEq, Repr

/-- The PHY and its training beside its registers (R294-R330). -/
structure Dpy where
  /-- trained rd_dqs and wr_lvl of each lane (R315): key 2 * lane + (0 read, 1 write) -/
  base : Sp Nat := []
  /-- the training cache area of flash (R301, R589): sector 2 * (3 * band + bin index) + copy to its bytes -/
  cache : Sp (List Byte) := []
  /-- FULL_FAILED marks (R308): band * 16 + bin -/
  marks : List Nat := []
  run : Option TrainRun := none
  /-- the entry of a full training that passed S5.9, as S6 is to write it (R305) -/
  saveDue : Option (List Byte) := none
  /-- flash operations, the one in progress first -/
  flashOps : List FlashOp := []
  /-- bins whose entry is set aside for this boot (R304) -/
  aside : List Nat := []
  /-- level of DDR_RESET_N (R297, R311) -/
  resetN : Bool := false
  /-- one more than the chain time of the last move of each lane's read delays (R313) -/
  lastTrack : Sp Nat := []
  deriving DecidableEq, Repr

/-- A flit as a chain port sends it (R458, R462): pool 0-5, or 6 for a sequenced CONTROL flit, whose body begins with its
code. `fin` is the end code. -/
structure TxFlit where
  pool : Nat
  first : Bool
  fin : Nat
  seq : Nat
  body : List Byte
  deriving DecidableEq, Repr

/-- A DRAM request that came over the chain and will be answered (R249, R464): what its reply will carry, and where it goes. -/
structure DramFrom where
  tag : Nat
  ctx : Nat
  cls : Nat
  node : Nat
  port : Nat
  deriving DecidableEq, Repr

/-- A chain port beside its registers (R456-R462, R470). -/
structure ChPort where
  /-- keeps its transmitter quiet after a link loss (R457) -/
  quiet : Bool := false
  /-- sequence number of the next new flit -/
  txSeq : Nat := 0
  /-- sent and not acknowledged, oldest first (at most 32) -/
  held : List TxFlit := []
  /-- flits that wait to be sent, in order of arrival -/
  wait : List TxFlit := []
  /-- credits per pool -/
  credit : Sp Nat := []
  /-- flit times in a row for which pools 3 and 4 were refused (R201, R462) -/
  refused : Sp Nat := []
  /-- sequence number the receiver expects, and whether a NAK for it is out -/
  rxExp : Nat := 0
  nak : Bool := false
  /-- sequence number the last replay began with, and the replays in a row that began with it -/
  replaySeq : Option Nat := none
  replays : Nat := 0
  /-- chain times of the flits with a bad CRC within the last second -/
  badCrc : List Nat := []
  /-- the packet that is arriving, per pool: its bytes so far and its flits -/
  part : Sp (List Byte) := []
  partN : Sp Nat := []
  /-- whole packets rebuilt and not yet passed on, oldest first: pool, flits, bytes -/
  rx : List (Nat × Nat × List Byte) := []
  /-- DRAM requests passed on to output 53 whose replies have not left yet -/
  asks : List DramFrom := []
  /-- departure of the DELAY_REQ that awaits its response, in half ns, and the last 8 delays in units of 0.125 ns -/
  t1 : Option Nat := none
  delays : List Nat := []
  deriving DecidableEq, Repr

/-- A discovery that node 0 runs (R467): the step it is in (1 waiting for ports, 3 for reports, 5 for answers), the
command, the reports and answers received, and whether a hub stayed silent. -/
structure Disc where
  phase : Nat
  cmd : Option Cmd
  reports : List NodeRep := []
  answered : List Nat := []
  silent : Bool := false
  deriving DecidableEq, Repr

/-- The chain ports and the joined system (R454-R478). -/
structure Chn where
  ports : Sp ChPort := []
  disc : Option Disc := none
  /-- number of the last discovery run of this node 0, and a link change seen during a run (R474) -/
  run : Nat := 0
  again : Bool := false
  /-- the run whose PROBE this hub last took (root serial number, run), and the port it came in on -/
  probed : Option (Nat × Nat × Nat) := none
  /-- the topology held as pending -/
  pend : Option TopoMsg := none
  /-- node 0: join counts, and the nodes of the topology installed last (R468) -/
  joins : Sp Nat := []
  installed : Option (List Nat) := none
  /-- chain time of the last SYNC from the parent; whether the next one steps, or steps above 500 ns (R472) -/
  lastSync : Option Nat := none
  fresh : Bool := true
  newParent : Bool := false
  /-- the parent's node -/
  parent : Option Nat := none
  deriving DecidableEq, Repr

/-- A domain's transition in progress (R518, R519). -/
structure DomMove where
  /-- an entry rather than an exit -/
  entering : Bool
  /-- the state it leads to: 0 ON, 1 RETENTION, 2 OFF -/
  target : Nat
  /-- the command that asked for it, and the arrival channel of the request -/
  cmd : Option Cmd
  chan : Nat
  /-- D4 runs its exit sequence, or S5, before it is back (R274, R517) -/
  begun : Bool := false
  deriving DecidableEq, Repr

/-- The power manager and Rind beside their registers (R511-R536). -/
structure Pwr where
  move : Sp (Option DomMove) := []
  /-- state of each core island (R14, R513), domain * 4 + island: 0 RUN, 1 IDLE, 2 SLEEP, 3 DEEP, 4 OFF -/
  isl : Sp Nat := []
  /-- domains still to come ON, in dependency order, with the command that waits for the last of them (R512) -/
  turnOn : List (List Nat × Option Cmd) := []
  /-- a core off in progress (R527) -/
  coreOff : Option Cmd := none
  /-- the core die is powered down -/
  off : Bool := false
  /-- Rind's copy of PWR_CORE_WAKE -/
  wake : Word := 0
  deriving DecidableEq, Repr

/-- A journal record (R591) but for its CRC. -/
structure JRec where
  boot : Nat
  index : Nat
  step : Nat
  kind : Nat
  attempt : Nat
  time : Nat
  detail : Nat
  deriving DecidableEq, Repr

/-- A copy of the configuration in flash (R589): the board serial number, the DRAM section with DMC_CFG and DPY_SWAP0-4 first
(R240, R296, R302), the node ID (R466), the register values that firmware writes, and the ports whose power it switches on in S10
(R582). (DESIGN CHOICE, log 65) -/
structure FlashCfg where
  board : List Byte := []
  /-- vendor and product IDs of hub and command function, string index of the serial number, the strings (R333, R335) -/
  vid : Nat := 0
  pidHub : Nat := 0
  pidCmf : Nat := 0
  iSerial : Nat := 0
  strings : List (List Byte) := []
  dram : List Byte := [0x03, 0x14, 0, 0, 0x88, 0xC6, 0xFA, 0, 0x88, 0xC6, 0xFA, 0, 0x88, 0xC6, 0xFA, 0, 0x88, 0xC6, 0xFA, 0, 0x88, 0xC6, 0xFA, 0]
  node : Nat := 0
  regs : List (Nat × Word) := []
  power : List Nat := []
  /-- the hub connects upstream (R582) -/
  connect : Bool := true
  deriving DecidableEq, Repr

/-- Boot, the journal and the firmware slots beside their registers (R576-R600). -/
structure Boot where
  /-- the boot step in progress, S0-S11; none once the boot has ended -/
  step : Option Nat := some 0
  attempt : Nat := 1
  /-- a step ended STOP: the core die is held in reset (R583) -/
  stop : Bool := false
  /-- a boot after core wake (R529), and a warm-retain reset that kept the DRAM (R578) -/
  coreWake : Bool := false
  retained : Bool := false
  /-- slots tried in S3 -/
  tried : List Nat := []
  /-- µs since the reset ended, at the last step, and the number of the next record -/
  time : Nat := 0
  index : Nat := 0
  /-- records in retention RAM, oldest first (at most 256), and how many are not in flash yet -/
  ram : List JRec := []
  unflushed : Nat := 0
  /-- S3 has read the slot state, so that records go to flash (R592) -/
  toFlash : Bool := false
  /-- flash: the journal, oldest first; the boot count; slot state; the slots' bytes (slot * 2^22 + offset) and the slots
  marked invalid -/
  flash : List JRec := []
  count : Nat := 0
  active : Nat := 0
  trial : Option Nat := none
  incomplete : Nat := 0
  slots : Sp Byte := []
  invalid : List Nat := []
  /-- FW_WRITEs whose bytes are being programmed, the one in progress first (R391, R400) -/
  fw : List Cmd := []
  /-- the two copies of the configuration in flash (R583, R589) -/
  cfg : FlashCfg := {}
  cfg2 : FlashCfg := {}
  /-- the first copy failed its CRC-32C in S10, and the second is used (R583) -/
  cfgAlt : Bool := false
  /-- a warm-retain reset waits for D4 to enter RETENTION (R578) -/
  retaining : Bool := false
  /-- the last step of the previous boot and whether that boot was complete -/
  prevLast : Nat := 0
  prevDone : Bool := false
  /-- the boot in progress runs from a trial slot; the present boot is complete -/
  fromTrial : Bool := false
  done : Bool := false
  /-- the watchdog has expired once since its last kick (R580) -/
  wdogOnce : Bool := false
  /-- STRAP[3:0] as last sampled (R576), the cause of the reset and the refuser of a cause 6 (R591) -/
  straps : Nat := 0
  cause : Nat := 1
  refuser : Nat := 0
  /-- the slot that the hub runs from; none in the boot ROM -/
  slot : Option Nat := none
  /-- the boot stops after S4 in recovery mode (R583, R585); the USB PLL has not locked -/
  recover : Bool := false
  usbPll : Bool := true
  deriving DecidableEq, Repr
/-- Everything but the DRAM contents, the reset-only lock bits and the waiting commands. (DESIGN CHOICE, log 1) -/
structure Mach where
  /-- registers and table windows by address -/
  regs : Sp Word := []
  /-- events ever set, per status register (R417) -/
  evCnt : Sp Nat := []
  /-- event number at the last set, per status register address * 32 + bit (R417) -/
  evAt : Sp Nat := []
  /-- latched high words (R414): arrival channel * 2^24 + address -/
  pair : Sp Word := []
  /-- chain time in ns, and whether it counts (R37) -/
  ctime : Nat := 0
  running : Bool := false
  /-- how many free values have been taken: the model's own field -/
  free : Nat := 0
  /-- what the block has put out, oldest first: the model's own field -/
  out : List Out := []
  /-- events that firmware could not place since the last EVENTS_LOST (R366) -/
  evLost : Nat := 0
  /-- Tally blocks whose mismatch has been reported since their last commit (R433) -/
  tlySeen : List Nat := []
  dl : DieLink := {}
  shf : Shf := {}
  ren : Ren := {}
  prt : Sp Port := []
  xbr : Xbar := {}
  que : Sp Que := []
  tap : Sp Tap := []
  pdi : Pdie := {}
  flt : Flt := {}
  cmd : Cmds := {}
  hub : Hub := {}
  cmf : Cmf := {}
  dmc : Dmc := {}
  dpy : Dpy := {}
  chn : Chn := {}
  pwr : Pwr := {}
  boot : Boot := {}
  deriving DecidableEq, Repr

/-- The state of the block. -/
structure State where
  m : Mach
  /-- DRAM contents: byte address to byte, unlisted bytes are 0 -/
  dram : Sp Byte
  /-- GLB_GUARD.lock (R423) -/
  guard : BitVec 7
  /-- the commands that are waiting, first in, first out -/
  pending : List Instr
  deriving DecidableEq, Repr

/-- The hub at a power-on reset (R576): every register at its reset value, nothing queued. (DESIGN CHOICE, log 1) -/
def State.reset : State := ⟨{}, [], 0, []⟩

end Sys2Proof.Machine
end

