-- ==== Sys2Proof/Machine/Ops.lean ====
section
/-! DEFINITION. The named operations over the hub's state: the register file and its fields (R409-R418), events by
sequence number, counters, deadline stamps (R43), CRC-32C (R75), queues (R212-R215), hub events (R366), replies (R384)
and the sending side of the die link (R8-R11). -/

namespace Sys2Proof

/-- Header byte k of a command, k = 8-15. -/
def Cmd.b (c : Cmd) (k : Nat) : Nat := c.params.toNat / 2 ^ (8 * (k - 8)) % 256

/-- The little-endian number in header bytes k to k + n - 1. -/
def Cmd.p (c : Cmd) (k n : Nat) : Nat := c.params.toNat / 2 ^ (8 * (k - 8)) % 2 ^ (8 * n)

/-- The origin of a command (R398). -/
def Cmd.sameOrigin (c d : Cmd) : Bool := c.origin == d.origin && c.chan == d.chan

/-- The same command: origin, channel, tag and generation. -/
def Cmd.same (c d : Cmd) : Bool := c.sameOrigin d && c.tag == d.tag && c.gen == d.gen

/-- The number of an end. -/
def DieEnd.num : DieEnd → Nat
  | .core => 0
  | .power => 1

/-- The other end. -/
def DieEnd.other : DieEnd → DieEnd
  | .core => .power
  | .power => .core

/-- HEARTBEAT and EVENT packets go first (R11). -/
def DlPkt.ahead (p : DlPkt) : Bool := p.type == 0x3#4 || p.type == 0x4#4

/-- The event code of an EVENT packet. The spec gives an EVENT a 16-bit code and no list of codes (R8): the model's own. (DESIGN CHOICE, log 6) -/
def PdEvent.code : PdEvent → Nat
  | .trip (.vbus p) c => 0x1000 + p.val * 16 + c.toNat
  | .trip (.hoop k) c => 0x2000 + k.val * 16 + c.toNat
  | .safeStop => 0x3000
  | .heartbeatLost => 0x3001
  | .safeStopRelease => 0x3002
  | .supply n o => 0x4000 + n.val * 2 + Machine.b2n o
  | .supplyRecovered n => 0x5000 + n.val
  | .holdoffEnd (.vbus p) => 0x6000 + p.val
  | .holdoffEnd (.hoop k) => 0x6100 + k.val
  | .wake w => 0x7000 + Machine.b2n w

end Sys2Proof

namespace Sys2Proof.Machine
open Reg

/-! ### The register file -/

/-- Whether a row of the register table names the address. -/
def RegRow.hit (r : RegRow) (a : Nat) : Bool :=
  decide (r.base ≤ a) && decide ((a - r.base) / r.s1 < r.c1) && ((a - r.base) % r.s1 % r.s2 == 0)
    && decide ((a - r.base) % r.s1 / r.s2 < r.c2)

/-- The rows of the block that an address lies in (R409). -/
def rowsAt (a : Nat) : List RegRow :=
  match a / 0x10000 with
  | 0x00 => regRowsGlb
  | 0x01 => regRowsCmf
  | 0x02 => regRowsHub
  | 0x04 => regRowsPrt
  | 0x05 => regRowsPrt
  | 0x06 => regRowsPrt
  | 0x08 => regRowsRen
  | 0x09 => regRowsRen
  | 0x0C => regRowsShf
  | 0x0D => regRowsXbr
  | 0x0E => regRowsQue
  | 0x10 => regRowsDmc
  | 0x11 => regRowsDpy
  | 0x12 => regRowsChn
  | 0x13 => regRowsFlt
  | 0x14 => regRowsPwr
  | 0x15 => regRowsPdi
  | 0x16 => regRowsTly
  | 0x17 => regRowsLck
  | 0x18 => regRowsJnl
  | _ => []

/-- The register at an address, none where the address is reserved or lies in a table window. (DESIGN CHOICE, log 1) -/
def regRow (a : Nat) : Option RegRow := (rowsAt a).find? (fun r => r.hit a)

/-- The value of an address that nothing has written since the cold reset: the register's reset value, 0 in the tables. (DESIGN CHOICE, log 1) -/
def regReset (a : Nat) : Word := match regRow a with | some r => r.reset | none => 0

/-- A register's stored value. -/
def Mach.rg (m : Mach) (a : Nat) : Word := spGet (regReset a) m.regs a

/-- Store a register's value. -/
def Mach.wr (m : Mach) (a : Nat) (v : Word) : Mach := { m with regs := spSet (regReset a) m.regs a v }

/-- A field of a register. -/
def Mach.fg (m : Mach) (a : Nat) (f : Fd) : Nat := getF (m.rg a) f

/-- Set a field of a register. -/
def Mach.fs (m : Mach) (a : Nat) (f : Fd) (v : Nat) : Mach := m.wr a (setF (m.rg a) f v)

/-- Count: a CNT field wraps modulo 2^width (R415). -/
def Mach.inc (m : Mach) (a : Nat) (f : Fd) (k : Nat := 1) : Mach := m.fs a f (m.fg a f + k)

/-- Count in a field that stops at its largest value. -/
def Mach.sat (m : Mach) (a : Nat) (f : Fd) (k : Nat := 1) : Mach := m.fs a f (min (m.fg a f + k) (2 ^ f.n - 1))

/-- The sequence number of a status register (R417). -/
def seqFd : Fd := ⟨24, 8⟩

/-- An event field sets: seq goes up by one, the field reads 1 and its q becomes the new seq (R417). -/
def Mach.ev (m : Mach) (a : Nat) (f : Fd) : Mach :=
  let n := spGet 0 m.evCnt a + 1
  let m := (m.fs a seqFd (m.fg a seqFd + 1)).fs a f 1
  { m with evCnt := spSet 0 m.evCnt a n, evAt := spSet 0 m.evAt (a * 32 + f.lo) n }

/-- q of an event field (R417): seq at its last set, or seq - 127 where more than 127 events have followed. (DEDUCED, log 42) -/
def Mach.evQ (m : Mach) (a bit : Nat) : Nat :=
  let age := spGet 0 m.evCnt a - spGet 0 m.evAt (a * 32 + bit)
  (m.fg a seqFd + 256 - min age 127) % 256

/-- Put something out. (DESIGN CHOICE, log 6) -/
def Mach.emit (m : Mach) (k : OutKind) (args : List Nat) (bytes : List Byte := []) : Mach :=
  { m with out := m.out ++ [⟨k, args, bytes⟩] }

/-- This hub's node ID (R437). -/
def Mach.node (m : Mach) : Nat := m.fg GLB_NODE GLB_NODE_node

/-- The hub is part of a joined system (R437). -/
def Mach.joined (m : Mach) : Bool := m.fg GLB_NODE GLB_NODE_joined == 1

/-- Chain time never runs back: a command that happens at chain time `t` finds the counter there once it counts (R37). -/
def Mach.at_ (m : Mach) (t : Nat) : Mach := if m.running && decide (m.ctime < t) then { m with ctime := t % 2 ^ 64 } else m

/-- Take a free value. (DESIGN CHOICE, log 6; DESIGN CHOICE, log 7) -/
def Mach.takeFree (m : Mach) : Nat × Mach := ((Config.freeValue m.free).toNat, { m with free := m.free + 1 })

/-! ### Domains and Tally -/

/-- The power domain of an address (R409): 0-14 for D0-D14, 15-18 for P0-P3, none where the address is in no block. -/
def domOf (a : Nat) : Option Nat :=
  if a < 0x10000 then some 0
  else if a < 0x30000 then some 2
  else if a < 0x40000 then none
  else if a < 0x70000 then some (8 + (a - 0x40000) / 0x8000)
  else if a < 0x80000 then none
  else if a < 0xA0000 then some 5
  else if a < 0xC0000 then none
  else if a < 0xD0000 then some 6
  else if a < 0xE0000 then some 3
  else if a < 0xF0000 then some 14
  else if a < 0x100000 then none
  else if a < 0x120000 then some 4
  else if a < 0x130000 then some 7
  else if a < 0x150000 then some 0
  else if a < 0x160000 then some 18
  else if a < 0x190000 then some 0
  else if a < 0x200000 then none
  else if a < 0x280000 then some 5
  else if a < 0x290000 then some 14
  else if a < 0x293000 then some (8 + (a - 0x290000) / 0x800)
  else if a < 0x2A0000 then none
  else if a < 0x2B0000 then some 3
  else if a < 0x2C0000 then some 2
  else none

/-- The status register of a domain. -/
def pwrStat (d : Nat) : Nat := if d < 15 then PWR_D_STAT d else PWR_P_STAT (d - 15)

/-- Whether a domain is ON (R511). -/
def Mach.domOn (m : Mach) (d : Nat) : Bool := m.fg (pwrStat d) PWR_D_STAT_state == 0

/-- A domain's transition (R534). -/
def Mach.domMove (m : Mach) (d : Nat) : Option DomMove := spGet none m.pwr.move d

/-- A domain that is entering RETENTION or OFF accepts no new work (R518 step 2). -/
def Mach.domLeaving (m : Mach) (d : Nat) : Bool := match m.domMove d with | some x => x.entering | none => false

/-- The islands of a core domain (R14): four chain ports, and in D0 the 24 MHz registers and the die link's core end. -/
def islCount (d : Nat) : Nat := if d = 7 then 4 else if d = 0 then 2 else 1

/-- The state of an island (R513): 0 RUN, 1 IDLE, 2 SLEEP, 3 DEEP, 4 OFF. -/
def Mach.isl (m : Mach) (d i : Nat) : Nat := spGet 0 m.pwr.isl (4 * d + i)

/-- An island changes its state, and its domain's status shows the most active one (R534). -/
def Mach.setIsl (m : Mach) (d i v : Nat) : Mach :=
  let m := { m with pwr := { m.pwr with isl := spSet 0 m.pwr.isl (4 * d + i) v } }
  m.fs (pwrStat d) PWR_D_STAT_island ((upTo (islCount d)).foldl (fun k j => min k (m.isl d j)) 4)

/-- Every island of a domain takes a state (R513). -/
def Mach.setIsls (m : Mach) (d v : Nat) : Mach := forEach (upTo (islCount d)) (fun i m => m.setIsl d i v) m

/-- The Tally index of an address (R409), none where Tally does not check. -/
def tallyIdx (a : Nat) : Option Nat :=
  match a / 0x10000 with
  | 0x00 => some 0
  | 0x01 => some 1
  | 0x02 => some 2
  | 0x08 => some 3
  | 0x09 => some 3
  | 0x0C => some 4
  | 0x0D => some 5
  | 0x0E => some 6
  | 0x10 => some 7
  | 0x11 => some 8
  | 0x12 => some 9
  | 0x13 => some 10
  | 0x14 => some 11
  | 0x15 => some 12
  | 0x16 => some 13
  | 0x17 => some 14
  | 0x18 => some 15
  | _ => if 0x40000 ≤ a ∧ a < 0x70000 then some (16 + (a - 0x40000) / 0x1000) else none

/-- The base address of the block with a Tally index. -/
def tallyBase (i : Nat) : Nat :=
  match i with
  | 0 => 0 | 1 => 0x10000 | 2 => 0x20000 | 3 => 0x80000 | 4 => 0xC0000 | 5 => 0xD0000 | 6 => 0xE0000 | 7 => 0x100000
  | 8 => 0x110000 | 9 => 0x120000 | 10 => 0x130000 | 11 => 0x140000 | 12 => 0x150000 | 13 => 0x160000 | 14 => 0x170000
  | 15 => 0x180000
  | p => 0x40000 + 0x1000 * (p - 16)

/-- The uncommitted bit of a block (R452). -/
def Mach.uncommitted (m : Mach) (i : Nat) : Bool :=
  bitN (m.rg (if i < 32 then TLY_UNCOM_LO else TLY_UNCOM_HI)).toNat (i % 32)

/-- Set or clear the uncommitted bit of a block (R431, R432). -/
def Mach.setUncom (m : Mach) (i : Nat) (b : Bool) : Mach :=
  let a := if i < 32 then TLY_UNCOM_LO else TLY_UNCOM_HI
  m.wr a (BitVec.ofNat 32 (setBitN (m.rg a).toNat (i % 32) b))

/-! ### Stamps and CRC -/

/-- The deadline stamp of a chain time (R43). -/
def stamp (t : Nat) : Nat := t / 64 % 2 ^ 24

/-- The signed difference of two stamps (R43). -/
def stampDiff (a b : Nat) : Int := ((a + 2 ^ 24 - b % 2 ^ 24 + 2 ^ 23) % 2 ^ 24 : Nat) - (2 ^ 23 : Nat)

/-- Stamp `a` is earlier than stamp `b` (R43). -/
def stampLt (a b : Nat) : Bool := decide (stampDiff a b < 0)

/-- A deadline has passed at chain time `t` (R43). -/
def dlPassed (t d : Nat) : Bool := decide (0 ≤ stampDiff (stamp t) d)

/-- The earlier of two stamps. -/
def stampMin (a b : Nat) : Nat := if stampLt b a then b else a

/-- One byte of a reflected CRC-32 with the given reflected polynomial. -/
def crcByte (poly : Word) (c : Word) (b : Byte) : Word :=
  (List.range 8).foldl (fun c _ => if c.getLsbD 0 then (c >>> 1) ^^^ poly else c >>> 1) (c ^^^ b.setWidth 32)

/-- CRC-32C (R75): Castagnoli, reflected, initial value all ones, result inverted. -/
def crc32c (bs : List Byte) : Word := ~~~ (bs.foldl (crcByte 0x82F63B78#32) 0xFFFFFFFF#32)

/-- The CRC-32 of a flit (R458): polynomial 0x04C1_1DB7 in reflected form, initial value all ones, result inverted. -/
def crc32 (bs : List Byte) : Word := ~~~ (bs.foldl (crcByte 0xEDB88320#32) 0xFFFFFFFF#32)

/-- Whether stored CRC bytes after `n` covered bytes match. -/
def crcOkAt (bs : List Byte) (n : Nat) : Bool := leAt bs n 4 == (crc32c (bs.take n)).toNat

/-! ### The sending side of a chain port (R458-R465) -/

/-- A route header (R464). -/
structure RouteHdr where
  dst : Nat
  bcast : Bool := false
  linkLocal : Bool := false
  src : Nat := 0
  join : Nat := 0
  hops : Nat := 0
  port : Nat
  cls : Nat := 0
  srcPort : Nat := 0
  rpt : Bool := false
  noDl : Bool := true
  epoch : Nat := 0
  group : Nat := 0
  length : Nat := 0
  deadline : Nat := 0
  deriving DecidableEq, Repr

/-- Its 16 bytes. -/
def RouteHdr.bytes (h : RouteHdr) : List Byte :=
  let b := fun (n : Nat) => BitVec.ofNat 8 n
  [b (h.dst + 32 * b2n h.bcast + 64 * b2n h.linkLocal), b (h.src + 32 * h.join), b h.hops, b (h.port + 64 * h.cls), b h.srcPort,
    b (b2n h.rpt + 2 * b2n h.noDl + 4 * h.epoch + 8 * h.group)] ++ leBytes 2 h.length ++ leBytes 3 h.deadline ++ leBytes 5 0

/-- The route header that a chain packet begins with. -/
def routeHdr (bs : List Byte) : RouteHdr :=
  let a := leAt bs 0 1
  let s := leAt bs 1 1
  let p := leAt bs 3 1
  let t := leAt bs 5 1
  { dst := a % 32, bcast := bitN a 5, linkLocal := bitN a 6, src := s % 32, join := s / 32, hops := leAt bs 2 1 % 32,
    port := p % 64, cls := p / 64, srcPort := leAt bs 4 1 % 64, rpt := bitN t 0, noDl := bitN t 1, epoch := t / 4 % 2,
    group := t / 8 % 16, length := leAt bs 6 2, deadline := leAt bs 8 3 }

/-- A chain port. -/
def Mach.chp (m : Mach) (k : Nat) : ChPort := spGet {} m.chn.ports k

/-- Replace a chain port. -/
def Mach.setChp (m : Mach) (k : Nat) (x : ChPort) : Mach := { m with chn := { m.chn with ports := spSet {} m.chn.ports k x } }

/-- The port is in ACTIVE (R456). -/
def Mach.linkUp (m : Mach) (k : Nat) : Bool := m.fg (CHN_P_STAT k) CHN_P_STAT_state == 3

/-- The tree links of this hub but for one port (R465). -/
def Mach.treeLinks (m : Mach) (but : Option Nat) : List Nat :=
  (upTo 4).filter (fun k => m.fg (CHN_P_STAT k) CHN_P_STAT_tree == 1 && but != some k)

/-- The bodies of a packet's flits (R464): 56 bytes each, the last one filled up with 0. -/
def flitBodies : Nat → List Byte → List (List Byte)
  | 0, _ => []
  | n + 1, bs =>
    if bs.length ≤ 56 then [bs ++ List.replicate (56 - bs.length) 0] else bs.take 56 :: flitBodies n (bs.drop 56)

/-- The flits of a packet of a pool; `poison` ends it poisoned (R205, R458). -/
def packetFlits (pool : Nat) (poison : Bool) (bs : List Byte) : List TxFlit :=
  let l := flitBodies (bs.length + 1) bs
  l.zipIdx.map (fun e => ⟨pool, e.2 == 0, if e.2 + 1 = l.length then (if poison then 2 else 1) else 0, 0, e.1⟩)

/-- A pool has a flit that may be sent: pools 0-5 against a credit (R461), 6 without. -/
def ChPort.may (x : ChPort) (p : Nat) : Bool := x.wait.any (fun f => f.pool == p) && (p == 6 || decide (0 < spGet 0 x.credit p))

/-- A pool has been refused for `share` flit times (R201, R462). -/
def ChPort.late (x : ChPort) (share p : Nat) : Bool := share != 0 && x.may p && decide (share ≤ spGet 0 x.refused p)

/-- The pool whose flit goes next (R462): CONTROL, then pool 5, then pools 0-4 by class order, a pool 3 or 4 that has been
refused for `share` flits going ahead, the lower of the two first (R201). (DEDUCED, log 33) -/
def ChPort.pick (x : ChPort) (share : Nat) : Option Nat :=
  [6, 5].find? x.may <|> (if [3, 4].any (x.late share) then [3, 4].find? x.may else none) <|> [0, 1, 2, 3, 4].find? x.may

/-- Take the first flit of a pool out of the waiting ones. -/
def takeFlit (p : Nat) : List TxFlit → Option (TxFlit × List TxFlit)
  | [] => none
  | f :: l => if f.pool = p then some (f, l) else (takeFlit p l).map (fun e => (e.1, f :: e.2))

/-- The 64 bytes of a flit (R458): kind, pool, first and end marks, seq, ack, returned credits, body, CRC. -/
def flitBytes (kind pool : Nat) (first : Bool) (fin seq ack crPool crCount : Nat) (body : List Byte) : List Byte :=
  let b := fun (n : Nat) => BitVec.ofNat 8 n
  let bs := [b (kind * 64 + pool * 8 + 4 * b2n first + fin), b seq, b ack, b (crPool * 32 + crCount)] ++ body
  bs ++ leBytes 4 (crc32 bs).toNat

/-- Bytes filled up with 0 to the body of a flit. -/
def flitBody (bs : List Byte) : List Byte := bs ++ List.replicate (56 - bs.length) 0

/-- The seq of the last sequenced flit that a port received intact and in order: every flit that it sends carries it (R458). -/
def ChPort.ack (x : ChPort) : Nat := (x.rxExp + 255) % 256

/-- A flit goes out: a DATA flit, or a sequenced CONTROL flit, which stands under pool 6. -/
def Mach.flitOut (m : Mach) (k : Nat) (f : TxFlit) : Mach :=
  m.emit .flitTx [k, f.pool] (if f.pool = 6 then flitBytes 2 0 false 0 f.seq (m.chp k).ack 0 0 f.body
    else flitBytes 1 f.pool f.first f.fin f.seq (m.chp k).ack 0 0 f.body)

/-- An unsequenced CONTROL flit goes out (R460): its code and argument bytes. -/
def Mach.controlOut (m : Mach) (k : Nat) (bs : List Byte) : Mach :=
  m.emit .flitTx [k, 6] (flitBytes 2 0 false 0 0 (m.chp k).ack 0 0 (flitBody bs))

/-- IDLE flits return a number of credits, at most 31 in each (R458, R461). -/
def Mach.idleOut (k pool : Nat) : Nat → Nat → Mach → Mach
  | 0, _, m => m
  | i + 1, n, m =>
    if n = 0 then m
    else idleOut k pool i (n - min n 31) (m.emit .flitTx [k, 7] (flitBytes 0 0 false 0 0 (m.chp k).ack pool (min n 31) (flitBody [])))

/-- Credits of a pool return to the link partner (R461). -/
def Mach.creditBack (m : Mach) (k pool n : Nat) : Mach := Mach.idleOut k pool (n + 1) n (m.emit .chainTx [k, 20, pool, n])

/-- Send waiting flits while fewer than 32 are unacknowledged (R459) and a pool may send. (DEDUCED, log 33) -/
def Mach.chnPump : Nat → Nat → Mach → Mach
  | 0, _, m => m
  | n + 1, k, m =>
    let x := m.chp k
    let share := m.fg XBR_CTRL XBR_CTRL_share
    if !m.linkUp k || decide (32 ≤ x.held.length) then m
    else match x.pick share with
      | none => m
      | some p => match takeFlit p x.wait with
        | none => m
        | some (f, rest) =>
          let f := { f with seq := x.txSeq }
          let refused := [3, 4].foldl (fun r q => if q = p then spDel r q else if x.may q then spSet 0 r q (spGet 0 r q + 1)
            else if share != 0 && decide (share ≤ spGet 0 r q) then r else spDel r q) x.refused
          let credit := if p = 6 then x.credit else spSet 0 x.credit p (spGet 0 x.credit p - 1)
          let x := { x with txSeq := (x.txSeq + 1) % 256, held := x.held ++ [f], wait := rest, credit := credit, refused := refused }
          chnPump n k ((m.setChp k x).flitOut k f)

/-- Flits join those that wait on a port. -/
def Mach.flitsWait (m : Mach) (k : Nat) (l : List TxFlit) : Mach :=
  let x := m.chp k
  let m := m.setChp k { x with wait := x.wait ++ l }
  m.chnPump (x.wait.length + l.length) k

/-- A packet with its route header is queued for a port; on a link that is not ACTIVE it is discarded and counted (R474). -/
def Mach.chainOut (m : Mach) (k pool kind : Nat) (args : List Nat) (h : RouteHdr) (data : List Byte) (poison : Bool := false) : Mach :=
  if m.linkUp k then
    (m.emit .chainTx ([k, kind] ++ args) data).flitsWait k (packetFlits pool poison (({ h with length := data.length } : RouteHdr).bytes ++ data))
  else m.inc (CHN_P_DROP k) CHN_P_DROP_count

/-- The route header of a packet that this hub forms. -/
def Mach.ownHdr (m : Mach) (h : RouteHdr) : RouteHdr := { h with src := m.node, join := m.fg (CHN_ROUTE m.node) CHN_ROUTE_join, hops := 0 }

/-- The chain port of the route to a node (R487); none where there is no route or it is this hub. -/
def Mach.routePort (m : Mach) (n : Nat) : Option Nat :=
  let a := CHN_ROUTE n
  if m.fg a CHN_ROUTE_valid == 1 && decide (m.fg a CHN_ROUTE_port < 4) then some (m.fg a CHN_ROUTE_port) else none

/-- A packet that this hub forms goes to a node by its route. -/
def Mach.chainTo (m : Mach) (n pool kind : Nat) (args : List Nat) (h : RouteHdr) (data : List Byte) (poison : Bool := false) : Mach :=
  match m.routePort n with
  | some k => m.chainOut k pool kind args (m.ownHdr { h with dst := n }) data poison
  | none => m

/-- A packet that this hub forms goes to every node by the tree (R465). -/
def Mach.chainTree (m : Mach) (pool kind : Nat) (args : List Nat) (h : RouteHdr) (data : List Byte) : Mach :=
  forEach (m.treeLinks none) (fun k m => m.chainOut k pool kind args (m.ownHdr { h with bcast := true }) data) m

/-- A sequenced CONTROL flit (R460) goes out on the tree links in service but for one port. -/
def Mach.controlTree (m : Mach) (but : Option Nat) (kind code : Nat) (args : List Nat) : Mach :=
  forEach ((m.treeLinks but).filter m.linkUp) (fun k m =>
    (m.emit .chainTx ([k, kind] ++ args)).flitsWait k
      [⟨6, false, 0, 0, (flitBodies 1 ((code :: args).map (fun n => BitVec.ofNat 8 n))).head?.getD []⟩]) m

/-- A report or a hub event goes to a node's queue 51 (R218). -/
def Mach.reportTo (m : Mach) (n : Nat) (bytes : List Byte) (poison : Bool) : Mach :=
  m.chainTo n 1 14 [n, b2n poison] { dst := n, port := 48, srcPort := 55, rpt := true } bytes poison

/-! ### Queues -/

/-- A queue. -/
def Mach.q (m : Mach) (n : Nat) : Que := spGet {} m.que n

/-- Words and whole packets held (R214, R237). -/
def Que.packets (q : Que) : Nat := (q.words.filter (·.last)).length

/-- Capacity in words (R212, R236). -/
def queCap (n : Nat) : Nat := getF (regReset (QUE_Q_CAP n)) QUE_Q_CAP_words

/-- Replace a queue and bring its status up to date: full, the threshold and stale conditions, each rise setting its event; the
notice of a queue 0-50 goes to the processor (R215). -/
def Mach.setQ (m : Mach) (n : Nat) (q : Que) : Mach :=
  let th := m.fg (QUE_Q_CFG n) QUE_Q_CFG_pkt_thresh
  let on := th != 0 && decide (th ≤ q.packets)
  let st := q.staleOn && !q.words.isEmpty && m.fg (QUE_Q_CFG n) QUE_Q_CFG_stale != 0
  let m := if on && !q.threshOn then m.ev (QUE_Q_STAT n) QUE_Q_STAT_thresh_ev else m
  let m := if st && !(m.q n).staleOn then m.ev (QUE_Q_STAT n) QUE_Q_STAT_stale_ev else m
  let m := if (on || st) && m.fg (QUE_Q_STAT n) QUE_Q_STAT_notice == 0 && decide (n ≤ 50) then m.emit .notice [1, n] else m
  let m := m.fs (QUE_Q_STAT n) QUE_Q_STAT_full (b2n (decide (queCap n ≤ q.words.length)))
  let m := m.fs (QUE_Q_STAT n) QUE_Q_STAT_notice (b2n (on || st))
  { m with que := spSet {} m.que n { q with threshOn := on, staleOn := st } }

/-- The words of a packet (R213). -/
def toWords : Nat → List Byte → List QWord
  | 0, _ => []
  | k + 1, bs =>
    let w : Word := BitVec.ofNat 32 (leNat (bs.take 4))
    if bs.length ≤ 4 then [⟨w, true, bs.length, 0⟩] else ⟨w, false, 4, 0⟩ :: toWords k (bs.drop 4)

/-- A packet's words. -/
def packetWords (bs : List Byte) : List QWord := toWords (bs.length + 1) bs

/-- Words taken in a queue: those it holds and those promised to packets begun (R213). -/
def Mach.qTaken (m : Mach) (n : Nat) : Nat := (m.q n).words.length + (m.q n).owed.foldl (· + ·) 0

/-- Whether a whole packet fits into a queue. -/
def Mach.qRoom (m : Mach) (n len : Nat) : Bool := decide (m.qTaken n + (len + 3) / 4 ≤ queCap n)

/-- Output 48 may begin a packet for queue 48 or 51: room for 512 more words (R213). -/
def Mach.qMayBegin (m : Mach) (n : Nat) : Bool := decide (m.qTaken n + 512 ≤ queCap n)

/-- Place a whole packet into a queue. -/
def Mach.qPut (m : Mach) (n : Nat) (bs : List Byte) : Mach :=
  m.setQ n { m.q n with words := (m.q n).words ++ packetWords bs }

/-! ### Hub events -/

/-- The 8-byte prefix of a report or event (R217). -/
def evPrefix (handle gen kind time : Nat) : List Byte :=
  leBytes 2 handle ++ [BitVec.ofNat 8 (gen % 16), BitVec.ofNat 8 kind] ++ leBytes 4 time

/-- The handle of the hub itself (R366): port field 63, sub-address 0. -/
def Mach.hubHandle (m : Mach) : Nat := m.node * 2048 + 0x07E0

/-- The handle of a place on a port (chapter Terms). -/
def Mach.handle (m : Mach) (p sub : Nat) : Nat := m.node * 2048 + p * 32 + sub * 4

/-- Firmware places a hub event (R366): in queue 51 of node 0, or counts it lost where output 48 may not begin a packet for it
(R213) or D1, which runs the firmware, is not ON; an EVENTS_LOST event goes first once there is room again. (DEDUCED, log 42) -/
def Mach.event (m : Mach) (kind handle gen : Nat) (data : List Byte) : Mach :=
  let pkt := evPrefix handle gen kind (m.ctime % 2 ^ 32) ++ data
  let lost := evPrefix m.hubHandle 0 0x0C (m.ctime % 2 ^ 32) ++ leBytes 4 m.evLost
  let away := m.node != 0 && m.joined
  let need := 2048 + (if m.evLost = 0 then 0 else lost.length)
  if !m.domOn 1 || (!away && !m.qRoom 51 need) then { m with evLost := m.evLost + 1 }
  else
    let place := fun (bs : List Byte) (m : Mach) => if away then m.reportTo 0 bs false else m.qPut 51 bs
    let m := if m.evLost = 0 then m else { place lost (m.emit .event [0x0C, m.hubHandle, 0] (leBytes 4 m.evLost)) with evLost := 0 }
    place pkt (m.emit .event [kind, handle, gen] data)

/-! ### Commands and replies -/

/-- The status codes (R397). -/
def stOk : Nat := 0x00
def stPending : Nat := 0x01
def stBadOpcode : Nat := 0x02
def stBadLength : Nat := 0x03
def stBadCrc : Nat := 0x04
def stAccessWidth : Nat := 0x05
def stAccessAlign : Nat := 0x06
def stDomainOff : Nat := 0x07
def stLocked : Nat := 0x08
def stKeyMismatch : Nat := 0x09
def stBusy : Nat := 0x0A
def stTagInUse : Nat := 0x0B
def stNothingToAbort : Nat := 0x0C
def stAborted : Nat := 0x0D
def stLockBroken : Nat := 0x0E
def stNodeUnreachable : Nat := 0x0F
def stTableBusy : Nat := 0x10
def stHoldoff : Nat := 0x11
def stRefused : Nat := 0x12
def stBadState : Nat := 0x13
def stMemRange : Nat := 0x14
def stMemDenied : Nat := 0x15
def stMemPoisoned : Nat := 0x16
def stMemNotInit : Nat := 0x17
def stMemHung : Nat := 0x18

/-- A packet with its CRC-32C behind it (R383). -/
def withCrc (bs : List Byte) : List Byte := bs ++ leBytes 4 (crc32c bs).toNat

/-- The bytes of a reply (R384): opcode, tag, generation, channel, executing node, status, bytes 9-15 and payload. -/
def replyBytes (op tag gen chan node status fields : Nat) (payload : List Byte) : List Byte :=
  let b := fun (n : Nat) => BitVec.ofNat 8 n
  withCrc ([0x01, b op, b tag, b (gen * 64 + 32 + chan)] ++ leBytes 2 node ++ leBytes 2 payload.length ++ [b status]
    ++ leBytes 7 fields ++ payload)

/-- Send a reply (R384): status, bytes 9-15 with byte 9 lowest, payload. To another node it goes over the chain (R465). -/
def Mach.sendReply (m : Mach) (c : Cmd) (status fields : Nat) (payload : List Byte) : Mach :=
  let m := m.emit .reply [c.origin.val, c.chan.toNat, c.opcode.toNat, c.tag.toNat, c.gen.toNat, m.node, status, fields % 2 ^ 56] payload
  if c.origin.val = m.node then m
  else
    m.chainTo c.origin.val 0 13 [c.chan.toNat, c.tag.toNat, status] { dst := 0, port := if c.chan = 0#4 then 48 else 55, srcPort := 55 }
      (replyBytes c.opcode.toNat c.tag.toNat c.gen.toNat c.chan.toNat m.node status fields payload)

/-- The command leaves execution at this hub. (DESIGN CHOICE, log 10) -/
def Mach.endCmd (m : Mach) (c : Cmd) : Mach :=
  { m with cmd := { m.cmd with acc := m.cmd.acc.filter (fun d => !c.same d), run := m.cmd.run.filter (fun r => !c.same r.cmd) } }

/-- The final reply of a command. -/
def Mach.reply (m : Mach) (c : Cmd) (status : Nat) (fields : Nat := 0) (payload : List Byte := []) : Mach :=
  (m.sendReply c status fields payload).endCmd c

/-- Bytes 12-15 of a reply as its fields. -/
def f12 (v : Nat) : Nat := v % 2 ^ 32 * 2 ^ 24

/-- The command goes on executing beyond this step. -/
def Mach.startRun (m : Mach) (r : Run) : Mach :=
  { m with cmd := { m.cmd with acc := m.cmd.acc.filter (fun d => !r.cmd.same d), run := m.cmd.run ++ [r] } }

/-- Replace the record of a running command. -/
def Mach.setRun (m : Mach) (r : Run) : Mach :=
  { m with cmd := { m.cmd with run := m.cmd.run.map (fun q => if q.cmd.same r.cmd then r else q) } }

/-- The record of a running command. -/
def Mach.findRun (m : Mach) (c : Cmd) : Option Run := m.cmd.run.find? (fun r => r.cmd.same c)

/-- The answer to a register access that is not a command: status and data. -/
def Mach.answer (m : Mach) (a : Acc) (status data : Nat) : Mach := m.emit .regAns [a.ch.val, b2n a.direct, status, data]

/-! ### The die link's sending side -/

/-- The direction that an end sends in. -/
def DieLink.dir (d : DieLink) : DieEnd → DlDir
  | .core => d.down
  | .power => d.up

/-- Replace the direction that an end sends in. -/
def DieLink.setDir (d : DieLink) (e : DieEnd) (x : DlDir) : DieLink :=
  match e with
  | .core => { d with down := x }
  | .power => { d with up := x }

/-- A packet's place among those that wait (R11). -/
def dlInsert (p : DlPkt) (l : List DlPkt) : List DlPkt :=
  if p.ahead then l.filter (·.ahead) ++ [p] ++ l.filter (fun q => !q.ahead) else l ++ [p]

/-- The packet on the wire. -/
def Mach.dlEmit (m : Mach) (e : DieEnd) (p : DlPkt) : Mach :=
  m.emit .dieLink [e.num, p.type.toNat, p.seq.toNat, p.len.toNat, p.spec.toNat] (p.data.flatMap (fun w => leBytes 2 w.toNat))

/-- Start waiting packets while the window of 15 has room (R9). -/
def Mach.dlPump : Nat → DieEnd → Mach → Mach
  | 0, _, m => m
  | k + 1, e, m =>
    let d := m.dl.dir e
    match d.waiting with
    | [] => m
    | p :: ps =>
      if !m.dl.inService || decide (15 ≤ d.held.length) then m
      else
        let p := { p with seq := BitVec.ofNat 4 d.txSeq }
        let d := { d with waiting := ps, held := d.held ++ [p], txSeq := (d.txSeq + 1) % 16 }
        dlPump k e ({ m with dl := m.dl.setDir e d }.dlEmit e p)

/-- Send a packet over the die link (R8, R9, R11). -/
def Mach.dlSend (m : Mach) (e : DieEnd) (type spec : Nat) (data : List (BitVec 16)) : Mach :=
  let d := m.dl.dir e
  let p : DlPkt := ⟨BitVec.ofNat 4 type, 0, BitVec.ofNat 4 (1 + data.length), BitVec.ofNat 4 spec, data, true⟩
  let m := { m with dl := m.dl.setDir e { d with waiting := dlInsert p d.waiting } }
  m.dlPump 16 e

/-- The power die sends an EVENT (R8). -/
def Mach.pdEvent (m : Mach) (e : PdEvent) : Mach :=
  let m := { m with dl := { m.dl with events := m.dl.events ++ [e] } }
  m.dlSend .power 0x4 0 [BitVec.ofNat 16 e.code]

end Sys2Proof.Machine
end

