-- ==== Sys2Proof/Machine/LockOps.lean ====
section
/-! DEFINITION. The hardware locks (R426-R429, R446-R448): granting, releasing and breaking. -/

namespace Sys2Proof.Machine
open Reg

/-- A lock is held. -/
def Mach.lockHeld (m : Mach) (n : Nat) : Bool := m.fg (LCK_LOCK n) LCK_LOCK_state == 1

/-- The origin of a lock's owner: node and channel. -/
def Mach.lockOwner (m : Mach) (n : Nat) : Nat × Nat := (m.fg (LCK_LOCK n) LCK_LOCK_node, m.fg (LCK_LOCK n) LCK_LOCK_origin)

/-- A held lock is force-released and marked broken with a cause (R427, R428); the owner fields stand. -/
def Mach.breakLock (m : Mach) (n cause : Nat) : Mach :=
  if m.lockHeld n then
    let a := LCK_LOCK n
    (((m.fs a LCK_LOCK_state 0).fs a LCK_LOCK_broken 1).fs a LCK_LOCK_cause cause).inc LCK_BROKEN_CNT LCK_BROKEN_CNT_count
  else m

/-- Every held lock that a test picks breaks. -/
def Mach.breakLocks (m : Mach) (t : Nat → Bool) (cause : Nat) : Mach :=
  forEach ((upTo 32).filter t) (fun n m => m.breakLock n cause) m

/-- The locks of an origin break. -/
def Mach.breakOwner (m : Mach) (node chan cause : Nat) : Mach := m.breakLocks (fun n => m.lockOwner n == (node, chan)) cause

/-- The locks that came in through an arrival channel break. -/
def Mach.breakArrival (m : Mach) (ch : Nat) : Mach := m.breakLocks (fun n => m.fg (LCK_LOCK n) LCK_LOCK_arrival == ch) 1

/-- An acquire (R426, R428): the status, the owner where it is BUSY, and the state after it. -/
def Mach.acquire (m : Mach) (n : Nat) (c : Cmd) : Nat × Nat × Mach :=
  let a := LCK_LOCK n
  if m.lockHeld n then
    if m.lockOwner n == (c.origin.val, c.chan.toNat) then (stOk, 0, m)
    else (stBusy, m.fg a LCK_LOCK_node + 256 * m.fg a LCK_LOCK_origin, m)
  else
    let st := if m.fg a LCK_LOCK_broken == 1 then stLockBroken else stOk
    let m := ((m.fs a LCK_LOCK_state 1).fs a LCK_LOCK_broken 0).fs a LCK_LOCK_node c.origin.val
    let m := ((m.fs a LCK_LOCK_origin c.chan.toNat).fs a LCK_LOCK_arrival c.arrival.val).fs a LCK_LOCK_tag c.tag.toNat
    (st, 0, m.fs a LCK_LOCK_gen c.gen.toNat)

/-- A channel of this hub resets (R388, R427): its outstanding commands are orphaned, its locks break here and a notice
goes to every other node; locks that came in through the channel break too. -/
def Mach.channelReset (m : Mach) (chan cause : Nat) : Mach :=
  let m := { m with cmd := { m.cmd with out := m.cmd.out.filter (fun o => o.chan != chan) } }
  let m := (m.breakOwner m.node chan cause).breakLocks (fun n => m.fg (LCK_LOCK n) LCK_LOCK_arrival == chan) cause
  m.controlTree none 6 0x06 [m.node, chan]

end Sys2Proof.Machine
end

