-- ==== Sys2Proof/Machine/Playout.lean ====
section
/-! DEFINITION. What stops and accounts for playout: dropping work in Rennet (R72), halting streams (R100, R101),
in-flight counts and the settling of a switch group (R76, R93), flushing class 1 cells from the crossbar (R209) and
discarding work items in a port engine (R152). None of it raises a fault. -/

namespace Sys2Proof.Machine
open Reg

/-! ### Rennet -/

/-- Stream states (R119). -/
def stFree : Nat := 0
def stDefined : Nat := 1
def stArmed : Nat := 2
def stRunning : Nat := 3
def stHalted : Nat := 4

/-- A stream's state. -/
def Mach.strState (m : Mach) (n : Nat) : Nat := m.fg (REN_S_STAT n) REN_S_STAT_state

/-- The switch group a stream belongs to (R92). -/
def Mach.strGroup (m : Mach) (n : Nat) : Nat := m.fg (REN_S_CTRL n) REN_S_CTRL_group

/-- A stream's history. -/
def Mach.str (m : Mach) (n : Nat) : Stream := spGet {} m.ren.str n

/-- Replace a stream's history. -/
def Mach.setStr (m : Mach) (n : Nat) (x : Stream) : Mach := { m with ren := { m.ren with str := spSet {} m.ren.str n x } }

/-- A switch group. -/
def Mach.grp (m : Mach) (g : Nat) : Group := spGet {} m.ren.grp g

/-- Replace a switch group. -/
def Mach.setGrp (m : Mach) (g : Nat) (x : Group) : Mach := { m with ren := { m.ren with grp := spSet {} m.ren.grp g x } }

/-- A stream engine. -/
def Mach.eng (m : Mach) (e : Nat) : Engine := spGet {} m.ren.eng e

/-- Replace a stream engine. -/
def Mach.setEng (m : Mach) (e : Nat) (x : Engine) : Mach := { m with ren := { m.ren with eng := spSet {} m.ren.eng e x } }

/-- The epoch of a group, G. -/
def Mach.grpEpoch (m : Mach) (g : Nat) : Nat := m.fg (REN_GRP_STAT g) REN_GRP_STAT_epoch

/-- A stream's epoch. -/
def Mach.strEpoch (m : Mach) (n : Nat) : Nat := m.fg (REN_S_STAT n) REN_S_STAT_epoch

/-- The in-flight field of an epoch (R115). -/
def flightFd (e : Nat) : Fd := if e = 0 then REN_GRP_FLIGHT_inflight0 else REN_GRP_FLIGHT_inflight1

/-- Whether a stream belongs to a group. -/
def Mach.inGroup (m : Mach) (g n : Nat) : Bool := m.strGroup n == g

/-- The first two conditions of R93: every stream of the group has epoch G, and nothing of the other epoch is in flight. -/
def Mach.drained (m : Mach) (g : Nat) : Bool :=
  (upTo 128).all (fun n => !m.inGroup g n || m.strEpoch n == m.grpEpoch g)
    && m.fg (REN_GRP_FLIGHT g) (flightFd (1 - m.grpEpoch g)) == 0

/-- A group is settled (R93): drained, and the resync copy that a change calls for has finished. -/
def Mach.isSettled (m : Mach) (g : Nat) : Bool := m.drained g && !(m.grp g).draining && !(m.grp g).copying

/-- Once a change has reached every stream and the old epoch has drained, the resync copy starts (R93). -/
def Mach.settleCheck (m : Mach) (g : Nat) : Mach :=
  let x := m.grp g
  if x.draining && !x.copying && m.drained g then
    m.setGrp g { x with copying := true }
  else m

/-- The signed difference of two pick numbers modulo 2^32 (R64). -/
def pickDiff (a b : Nat) : Int := sext 32 (a + 2 ^ 32 - b % 2 ^ 32)

/-- The master pick number (R64, R111). -/
def Mach.pick (m : Mach) : Nat := (m.rg REN_PICK).toNat

/-- Items stop being in flight (R76). -/
def Mach.flightDown (m : Mach) (g e k : Nat) : Mach :=
  let f := flightFd e
  (m.fs (REN_GRP_FLIGHT g) f (m.fg (REN_GRP_FLIGHT g) f - k)).settleCheck g

/-! ### Epoch changes -/

/-- When every stream of a group has changed, G changes, pending clears and the old epoch drains (R93, R97). -/
def Mach.changeCheck (m : Mach) (g : Nat) : Mach :=
  let x := m.grp g
  let a := REN_GRP_STAT g
  if m.fg a REN_GRP_STAT_pending == 1 && (upTo 128).all (fun n => !m.inGroup g n || x.changed.contains n) then
    let m := (m.fs a REN_GRP_STAT_epoch (1 - m.grpEpoch g)).fs a REN_GRP_STAT_pending 0
    (m.setGrp g { x with changed := [], flip := false, draining := true }).settleCheck g
  else m

/-- A stream changes its epoch to the other of its group's (R97). -/
def Mach.changeStream (m : Mach) (g n : Nat) : Mach :=
  let m := m.fs (REN_S_STAT n) REN_S_STAT_epoch (1 - m.grpEpoch g)
  m.setGrp g { m.grp g with changed := (m.grp g).changed ++ [n] }

/-- The streams of a group that are not running and have not changed change (R97, R98). -/
def Mach.changeIdle (m : Mach) (g : Nat) : Mach :=
  (forEach (upTo 128) (fun n m =>
    if m.inGroup g n && m.strState n != stRunning && !(m.grp g).changed.contains n then m.changeStream g n else m) m).changeCheck g

/-- The master pick number has come: streams that are not running change at the pick of a pending switch (R97). -/
def Mach.pickReached (m : Mach) : Mach :=
  forEach (upTo 16) (fun g m =>
    if m.fg (REN_GRP_STAT g) REN_GRP_STAT_pending == 1
        && ((m.grp g).flip || decide (0 ≤ pickDiff m.pick (m.rg (REN_GRP_SWPICK g)).toNat)) then m.changeIdle g else m) m

/-- The freezing of a commit point of a running stream carries a pending change (R97, R98). -/
def Mach.changeAtFreeze (m : Mach) (n pick : Nat) : Mach :=
  let g := m.strGroup n
  if m.fg (REN_GRP_STAT g) REN_GRP_STAT_pending == 1 && !(m.grp g).changed.contains n
      && ((m.grp g).flip || decide (0 ≤ pickDiff pick (m.rg (REN_GRP_SWPICK g)).toNat)) then
    ((m.changeStream g n).wr (REN_S_ORIGIN n) (BitVec.ofNat 32 pick)).changeCheck g
  else m

/-- A halted stream may be one that a pending change still waits for (R97). -/
def Mach.afterHalt (m : Mach) : Mach := m.pickReached

/-- A stream has left a group or joined one by its configuration: what the old group still waited for, and what the new
group's pending change asks of it (R93, R97). -/
def Mach.regroup (m : Mach) (old : Nat) : Mach := ((m.changeCheck old).settleCheck old).pickReached

/-! ### Dropping and halting -/

/-- Drop the items of a commit point that are not issued yet (R72); `begun` when it has read its first table. -/
def Mach.dropCp (m : Mach) (cp : CommitPt) (issued : Nat) (begun : Bool) (reason : Nat) : Mach :=
  let k := cp.dest - issued
  if k = 0 then m
  else
    let a := REN_S_STAT cp.stream
    let m := ((m.fs a REN_S_STAT_last_drop reason).inc (REN_S_DROP cp.stream) REN_S_DROP_count k).ev a REN_S_STAT_drop_ev
    let m := m.ev REN_STAT REN_STAT_drop_ev
    let m := if reason == 4 || reason == 7 then m.ev REN_STAT REN_STAT_format_ev else m
    if begun then m.flightDown cp.group cp.epoch k else m

/-- Drop everything a test picks that waits for an engine or is being produced. -/
def Mach.dropWork (m : Mach) (p : CommitPt → Bool) (reason : Nat) : Mach :=
  let gone := m.ren.queue.filter p
  let m := { m with ren := { m.ren with queue := m.ren.queue.filter (fun c => !p c) } }
  let m := forEach gone (fun cp m => m.dropCp cp 0 false reason) m
  forEach (upTo 8) (fun e m =>
    match (m.eng e).work with
    | some cp => if p cp then (m.dropCp cp (m.eng e).issued true reason).setEng e { m.eng e with work := none, stage := 0, issued := 0 } else m
    | none => m) m

/-- A stream enters HALTED; its registered commit point is withdrawn. -/
def Mach.haltStream (m : Mach) (n : Nat) (ev : Bool) : Mach :=
  let m := (m.fs (REN_S_STAT n) REN_S_STAT_state stHalted).setStr n { m.str n with reg := none, haltAt := none }
  if ev then m.ev (REN_S_STAT n) REN_S_STAT_halt_ev else m

/-- Words of the time bus for the streams a test picks are taken without effect but their drop: a commit point that has
frozen counts as Rennet's latest (R120) and is dropped before any of its items is formed (R72). -/
def Mach.dropBus (m : Mach) (p : Nat → Bool) (reason : Nat) : Mach :=
  let gone := m.shf.bus.filterMap (fun b => if p b.stream then b.cp else none)
  let m := { m with shf := { m.shf with bus := m.shf.bus.filter (fun b => !p b.stream) } }
  forEach gone (fun cp m => (m.wr (REN_S_PICK cp.stream) (BitVec.ofNat 32 cp.pick)).dropCp cp 0 false reason) m

/-- Halt a stream NOW (R100): nothing more of it is issued. -/
def Mach.haltNow (m : Mach) (n : Nat) (reason : Nat) (ev : Bool) : Mach :=
  let m := m.dropBus (· == n) reason
  if m.strState n == stRunning then (m.dropWork (fun c => c.stream == n) reason).haltStream n ev
  else m.dropWork (fun c => c.stream == n) reason

/-- Halt every stream NOW. -/
def Mach.haltAllNow (m : Mach) (reason : Nat) (ev : Bool) : Mach :=
  let m := (m.dropBus (fun _ => true) reason).dropWork (fun _ => true) reason
  forEach (upTo 128) (fun n m => if m.strState n == stRunning then m.haltStream n ev else m) m

/-- Halt a running stream AT_PICK (R100): the pick whose first commit point has frozen is completed; with the
registered commit point the first of its pick and not frozen, the stream halts at once. -/
def Mach.haltAtPick (m : Mach) (n : Nat) (ev : Bool) : Mach :=
  if m.strState n == stRunning then
    match (m.str n).reg with
    | some (_, idx) => if idx = 0 ∧ !m.shf.bus.any (fun b => b.stream == n && b.cp.isSome) then m.haltStream n ev else m.setStr n { m.str n with haltAt := some ev }
    | none => m.haltStream n ev
  else m

/-! ### The crossbar -/

/-- The key of a virtual output queue. -/
def voqKey (i o c : Nat) : Nat := (i * 64 + o) * 4 + c

/-- A virtual output queue. -/
def Mach.voq (m : Mach) (i o c : Nat) : List XCell := spGet [] m.xbr.voq (voqKey i o c)

/-- Replace a virtual output queue. -/
def Mach.setVoq (m : Mach) (i o c : Nat) (l : List XCell) : Mach :=
  { m with xbr := { m.xbr with voq := spSet [] m.xbr.voq (voqKey i o c) l } }

/-- The packet lock of an output in a class (R202). -/
def Mach.lockOf (m : Mach) (o c : Nat) : Option XLock := spGet none m.xbr.lock (o * 4 + c)

/-- Set or clear a packet lock. -/
def Mach.setLock (m : Mach) (o c : Nat) (l : Option XLock) : Mach :=
  { m with xbr := { m.xbr with lock := spSet none m.xbr.lock (o * 4 + c) l } }

/-- What still arrives of a packet for a virtual output queue is discarded, up to its end mark. -/
def Mach.setDiscard (m : Mach) (i o c : Nat) : Mach := { m with xbr := { m.xbr with discard := m.xbr.discard ++ [voqKey i o c] } }

/-- A packet ended with poison is counted (R202, R205). -/
def Mach.poisoned (m : Mach) : Mach := (m.inc XBR_POISON_CNT XBR_POISON_CNT_count).ev XBR_STAT XBR_STAT_poison_ev

/-- A packet's group and epoch return to Rennet, where it is a work item: a class 1 packet from input 54 that goes to no DRAM
read (R210). (DEDUCED, log 37) -/
def Mach.flightReturn (m : Mach) (i o c g e : Nat) : Mach := if i == 54 && c == 1 && o != 53 then m.flightDown g e 1 else m

/-- The lock of an output in a class names an input whose packet still has cells to deliver. -/
def Mach.lockedTo (m : Mach) (i o c : Nat) : Bool := match m.lockOf o c with | some l => l.inp == i && !l.gone | none => false

/-- Flush one queue: every whole packet, and the packet at its tail that is still arriving, leave (R209, R210). -/
def Mach.flushQueue (m : Mach) (i o c : Nat) (cells : List XCell) : Mach :=
  let m := forEach (cells.filter (·.last)) (fun x m => m.flightReturn i o c x.group x.epoch) m
  let locked := m.lockedTo i o c && !cells.any (·.last)
  match cells.getLast? with
  | some x => if x.last || locked then m else (m.flightReturn i o c x.group x.epoch).setDiscard i o c
  | none => m

/-- The packet that holds the lock of an output in a class ends, its queue having been emptied of `keys`: what still arrives of it
is discarded. `out` is what the output shows of its end. -/
def Mach.endLock (keys : List (Nat × List XCell)) (o c : Nat) (out : XLock → Mach → Mach) (m : Mach) : Mach :=
  match m.lockOf o c with
  | none => m
  | some l =>
    let whole := keys.any (fun e => e.1 == voqKey l.inp o c && (e.2.any (·.last)))
    let m := if whole || l.gone then m else (m.flightReturn l.inp o c l.group l.epoch).setDiscard l.inp o c
    out l (m.setLock o c none)

/-- Work items that Rennet still presents at input 54 leave too; the rest of a packet that has begun to enter is discarded as
it enters. -/
def Mach.flushFeed (m : Mach) : Mach :=
  let l := spGet [] m.xbr.feed (54 * 4 + 1)
  let lead := l.takeWhile (fun c => !c.first)
  let rest := l.drop lead.length
  let m := { m with xbr := { m.xbr with feed := spSet [] m.xbr.feed (54 * 4 + 1) lead } }
  forEach (rest.filter (·.last)) (fun c m => m.flightReturn 54 c.dst.toNat 1 c.group.val c.epoch.val) m

/-- STOP_PLAYOUT flushes class 1 (R209): every class 1 cell leaves its queue, and a packet that holds a lock is ended with
poison. -/
def Mach.flushClass1 (m : Mach) : Mach :=
  let keys := m.xbr.voq.filter (fun e => e.1 % 4 == 1)
  let m := { m with xbr := { m.xbr with voq := m.xbr.voq.filter (fun e => !(e.1 % 4 == 1)) } }
  let m := forEach keys (fun e m => m.flushQueue (e.1 / 256) (e.1 / 4 % 64) 1 e.2) m
  let m := forEach (upTo 57) (fun o m => m.endLock keys o 1 (fun l m => m.poisoned.emit .cellOut [o, l.inp, 1, 1, 1])) m
  m.flushFeed

/-- Every packet queued for an output leaves, and the one that holds its lock (R457): how many packets were queued. -/
def Mach.flushOutput (m : Mach) (o : Nat) : Nat × Mach :=
  let keys := m.xbr.voq.filter (fun e => e.1 / 4 % 64 == o)
  let m := { m with xbr := { m.xbr with voq := m.xbr.voq.filter (fun e => !(e.1 / 4 % 64 == o)) } }
  let m := forEach keys (fun e m => m.flushQueue (e.1 / 256) o (e.1 % 4) e.2) m
  (((keys.flatMap (·.2)).filter (·.last)).length, forEach (upTo 4) (fun c m => m.endLock keys o c (fun _ m => m)) m)

/-! ### The port engines -/

/-- A port engine. -/
def Mach.port (m : Mach) (p : Nat) : Port := spGet {} m.prt p

/-- Replace a port engine. -/
def Mach.setPort (m : Mach) (p : Nat) (x : Port) : Mach := { m with prt := spSet {} m.prt p x }

/-- The launch error e that a port engine has fixed for the SOF of a nominal chain time (R45, R46): within the ±2 ns that
R179's offset range leaves for it. (DESIGN CHOICE, log 7) -/
def sofError (p nominal : Nat) : Int := (Config.launchError p nominal % 5 : Nat) - 2

/-- Discard `k` work items with a reason (R152). -/
def Mach.countDrop (m : Mach) (p k reason : Nat) : Mach :=
  if k = 0 then m
  else ((m.fs (PRT_STAT p) PRT_STAT_last_drop reason).inc (PRT_DROP p) PRT_DROP_count k).ev (PRT_STAT p) PRT_STAT_drop_ev

/-- The transactions in progress on a port or in a translator. -/
def Port.txs (x : Port) : List UsbTx := x.tx.toList ++ x.splits

/-- Whether an item is the one of a transaction in progress. -/
def Port.onWire (x : Port) (i : Item) : Bool := x.txs.any (fun t => t.pipe == i.pipe && t.item == some i.bytes)

/-- Discard the queued items a test picks; an item on the wire completes (R21). -/
def Mach.dropItems (m : Mach) (p : Nat) (t : Item → Bool) (reason : Nat) : Mach :=
  let x := m.port p
  let gone := x.items.filter (fun i => t i && !x.onWire i)
  (m.setPort p { x with items := x.items.filter (fun i => !(t i && !x.onWire i)) }).countDrop p gone.length reason

/-- STOP_PLAYOUT on this hub (R21, R101, R209): Rennet stops and halts every stream NOW, the crossbar flushes class 1,
and every port engine discards what it has not begun. -/
def Mach.stopPlayout (m : Mach) : Mach :=
  let m := (m.fs FLT_STAT FLT_STAT_stop_playout 1).fs REN_STAT REN_STAT_stop 1
  let m := (m.haltAllNow 6 true).afterHalt.flushClass1
  forEach (upTo 48) (fun p m => m.dropItems p (fun _ => true) 5) m

end Sys2Proof.Machine
end

