-- ==== Sys2Proof/Machine/SwitchOps.lean ====
section
/-! DEFINITION. The switches of the power die as registers: state, trip, turn-off, holdoff and the conditions that refuse
an on request (R488-R498, R624). What a trip does to a port or to the collector stands elsewhere. -/

namespace Sys2Proof.Machine
open Reg

/-- The key of a switch among the 60. -/
def swKey : Switch → Nat
  | .vbus p => p.val
  | .hoop k => 48 + k.val

/-- The status register of a switch. The two kinds share one layout (R505, R509). -/
def swStat : Switch → Nat
  | .vbus p => PDI_VBUS_STAT p.val
  | .hoop k => PDI_HOOP_STAT k.val

/-- The configuration register of a switch; permit is bit 31 of both kinds (R504, R507). -/
def swCfg : Switch → Nat
  | .vbus p => PDI_VBUS_CFG p.val
  | .hoop k => PDI_HOOP_CFG k.val

/-- The counters of a switch; one layout (R506, R510). -/
def swCnt : Switch → Nat
  | .vbus p => PDI_VBUS_CNT p.val
  | .hoop k => PDI_HOOP_CNT k.val

/-- State codes (R505). -/
def swOff : Nat := 0
def swInrush : Nat := 1
def swOn : Nat := 2
def swHoldoff : Nat := 3
def swLatched : Nat := 4

/-- Causes (R496). -/
def cTimer : Nat := 1
def cThermal : Nat := 2
def cInrush : Nat := 3
def cVinUv : Nat := 4
def cSafeStop : Nat := 5
def cHeartbeat : Nat := 6
def cEscalation : Nat := 7
def cDetach : Nat := 8
def cSupply : Nat := 9

/-- A switch's state. -/
def Mach.swState (m : Mach) (w : Switch) : Nat := m.fg (swStat w) PDI_HOOP_STAT_state

/-- A switch conducts in INRUSH and ON. -/
def Mach.swLive (m : Mach) (w : Switch) : Bool := m.swState w == swInrush || m.swState w == swOn

/-- A switch beside its registers. -/
def Mach.sw (m : Mach) (w : Switch) : Sw := spGet {} m.pdi.sw (swKey w)

/-- Replace a switch beside its registers. -/
def Mach.setSw (m : Mach) (w : Switch) (x : Sw) : Mach := { m with pdi := { m.pdi with sw := spSet {} m.pdi.sw (swKey w) x } }

/-- The holdoff that applies to a latch-off now, in units of 10 ms (R496). -/
def Mach.holdLen (m : Mach) : Switch → Nat
  | .vbus _ => m.fg PDI_PWR_CFG PDI_PWR_CFG_vbus_holdoff
  | .hoop k => m.fg (PDI_HOOP_CFG k.val) PDI_HOOP_CFG_holdoff

/-- Start the holdoff of a latched-off switch (R496): a hoop's has the length in force at the latch-off (R496), a VBUS switch's
the length in force at its start (R502). -/
def Mach.startHoldoff (m : Mach) (w : Switch) : Mach :=
  m.setSw w { m.sw w with holdoff := true, holdLen := (match w with | .vbus _ => m.holdLen w | .hoop _ => (m.sw w).holdLen) }

/-- Whether a cause's holdoff starts at the trip itself (R496). -/
def holdsAtTrip (cause : Nat) : Bool := cause == cTimer || cause == cThermal || cause == cInrush || cause == cVinUv || cause == cDetach

/-- The switch trips: latched off in HOLDOFF with its cause, counted and reported in an EVENT (R490, R493, R496). -/
def Mach.tripSw (m : Mach) (w : Switch) (cause : Nat) : Mach :=
  if !m.swLive w then m
  else
    let a := swStat w
    let m := (((m.fs a PDI_HOOP_STAT_state swHoldoff).fs a PDI_HOOP_STAT_cause cause).fs a PDI_HOOP_STAT_pgood 0).fs a PDI_HOOP_STAT_limiting 0
    let m := (m.ev a PDI_HOOP_STAT_trip_ev).sat (swCnt w) PDI_HOOP_CNT_trips
    let m := m.setSw w { holdLen := m.holdLen w }
    let m := if holdsAtTrip cause then m.startHoldoff w else m
    let m := m.emit .switchOut [b2n (decide (48 ≤ swKey w)), swKey w % 48, 0]
    m.pdEvent (.trip w (BitVec.ofNat 4 cause))

/-- An off request: a live switch goes OFF with cause none and no holdoff; any other keeps its state (R496). -/
def Mach.swOffReq (m : Mach) (w : Switch) : Mach :=
  if !m.swLive w then m
  else
    let a := swStat w
    let m := (((m.fs a PDI_HOOP_STAT_state swOff).fs a PDI_HOOP_STAT_cause 0).fs a PDI_HOOP_STAT_pgood 0).fs a PDI_HOOP_STAT_limiting 0
    (m.setSw w {}).emit .switchOut [b2n (decide (48 ≤ swKey w)), swKey w % 48, 0]

/-- Every hoop trips with one cause. -/
def Mach.tripHoops (m : Mach) (cause : Nat) : Mach := (List.finRange 12).foldl (fun m k => m.tripSw (.hoop k) cause) m

/-- The cause of a switch has ended: switches latched by it whose holdoff has not started start it (R496). -/
def Mach.causeEnds (m : Mach) (ws : List Switch) (cause : Nat) : Mach :=
  forEach ws (fun w m =>
    if m.swState w == swHoldoff && m.fg (swStat w) PDI_HOOP_STAT_cause == cause && !(m.sw w).holdoff then m.startHoldoff w
    else m) m

/-- All hoops, all VBUS switches. -/
def allHoops : List Switch := (List.finRange 12).map .hoop
def allVbus : List Switch := (List.finRange 48).map .vbus

/-- HOOPS_OFF takes force at the power die (R541, R546). -/
def Mach.hoopsOffIn (m : Mach) : Mach :=
  if m.fg PDI_PWR_STAT PDI_PWR_STAT_hoops_off == 1 then m
  else (m.fs PDI_PWR_STAT PDI_PWR_STAT_hoops_off 1).tripHoops cEscalation

/-- HOOPS_OFF leaves force at the power die: the holdoffs of ESCALATION start (R496). -/
def Mach.hoopsOffOut (m : Mach) : Mach :=
  if m.fg PDI_PWR_STAT PDI_PWR_STAT_hoops_off == 0 then m
  else (m.fs PDI_PWR_STAT PDI_PWR_STAT_hoops_off 0).causeEnds allHoops cEscalation

/-- A supply is outside its window: number and whether above it. -/
def Mach.supplyBad (m : Mach) (n : Nat) (high : Bool) : Bool := m.pdi.badSupply.contains (2 * n + b2n high)

/-- The sum of the limits of the VBUS switches that conduct, in units of 50 mA (R489, R503). -/
def Mach.vbusSum (m : Mach) : Nat :=
  (List.finRange 48).foldl (fun s p => if m.swLive (.vbus p) then s + m.fg (PDI_VBUS_CFG p.val) PDI_VBUS_CFG_limit + 2 else s) 0

/-- A stop cause of R496 persists for the switch (R624, order 2). -/
def Mach.stopPersists (m : Mach) : Switch → Bool
  | .vbus _ => m.supplyBad 7 false || m.supplyBad 7 true
  | .hoop _ => m.fg PDI_PWR_STAT PDI_PWR_STAT_safe_stop == 1 || m.fg PDI_PWR_STAT PDI_PWR_STAT_hb_lost == 1
      || m.fg PDI_PWR_STAT PDI_PWR_STAT_hoops_off == 1 || m.fg FLT_STAT FLT_STAT_hoops_off == 1 || m.supplyBad 8 false

/-- The power domain of a switch: P1 HOOPS, P2 VBUS. -/
def swDomain : Switch → Nat
  | .vbus _ => 17
  | .hoop _ => 16

/-- The first refusal that applies to an on request, none where it is accepted (R624). -/
def Mach.onRefusal (m : Mach) (w : Switch) : Option Nat :=
  if (decide (48 ≤ swKey w) && m.fg FLT_STAT FLT_STAT_factory == 1) || !m.domOn (swDomain w) then some stBadState
  else if m.stopPersists w then some stBadState
  else if m.fg (swCfg w) PDI_HOOP_CFG_permit == 0 then some stBadState
  else if m.swState w == swHoldoff then some stHoldoff
  else match w with
    | .vbus p =>
      if decide (m.fg PDI_PWR_CFG PDI_PWR_CFG_vbus_budget * 2 < m.vbusSum + m.fg (PDI_VBUS_CFG p.val) PDI_VBUS_CFG_limit + 2)
      then some stBusy else none
    | .hoop _ => none

/-- A refused on request is counted once (R497, R624). -/
def Mach.countRefused (m : Mach) (w : Switch) (st : Nat) : Mach :=
  let m := (m.sat (swCnt w) PDI_HOOP_CNT_refused).ev (swStat w) PDI_HOOP_STAT_refused_ev
  if st == stBusy then m.ev PDI_PWR_STAT PDI_PWR_STAT_budget_ev else m

/-- An on request: the status, and the state after it. A switch that already conducts stays as it is. -/
def Mach.swOnReq (m : Mach) (w : Switch) : Nat × Mach :=
  match m.onRefusal w with
  | some st => if m.swLive w && st == stBusy then (stOk, m) else (st, m.countRefused w st)
  | none =>
    if m.swLive w then (stOk, m)
    else
      let a := swStat w
      let m := ((m.fs a PDI_HOOP_STAT_state swInrush).fs a PDI_HOOP_STAT_limiting 0).fs a PDI_HOOP_STAT_pgood 0
      (stOk, (m.setSw w {}).emit .switchOut [b2n (decide (48 ≤ swKey w)), swKey w % 48, 1])

/-- Power-good rises once the clean window has passed (R131, R495). -/
def Mach.swGood (m : Mach) (w : Switch) : Mach :=
  (m.fs (swStat w) PDI_HOOP_STAT_state swOn).fs (swStat w) PDI_HOOP_STAT_pgood 1

end Sys2Proof.Machine
end

