-- ==== Sys2Proof/Machine/FaultOps.lean ====
section
/-! DEFINITION. The fault collector: raising a source, the first-source latch, grace timers, escalation and its actions,
acknowledgement and release (R537-R551). -/

namespace Sys2Proof.Machine
open Reg

/-- The class of a source: 0xA, 0xB or 0xC; 0 for a reserved ID (R537). -/
def faultClass (src : Nat) : Nat :=
  if (1 ≤ src ∧ src ≤ 7) ∨ src = 0x10 then 0xA
  else if src = 0x21 ∨ src = 0x25 ∨ src = 0x61 ∨ src = 0x62 ∨ src = 0x71 then 0xC
  else if src = 0x11 ∨ (0x20 ≤ src ∧ src ≤ 0x24) ∨ (0x30 ≤ src ∧ src ≤ 0x33) ∨ (0x40 ≤ src ∧ src ≤ 0x42)
      ∨ (0x50 ≤ src ∧ src ≤ 0x53) ∨ src = 0x60 ∨ src = 0x70 ∨ (0x72 ≤ src ∧ src ≤ 0x74) then 0xB
  else 0

/-- The sources (R537). -/
def fSafeStop : Nat := 0x01
def fHeartbeatLost : Nat := 0x02
def fFltSelf : Nat := 0x03
def fSupplyUv : Nat := 0x04
def fSupplyOv : Nat := 0x05
def fProofTest : Nat := 0x06
def fClockFail : Nat := 0x07
def fTallyMismatch : Nat := 0x10
def fTallyUncommitted : Nat := 0x11
def fEccUncorr : Nat := 0x20
def fEccCorrRate : Nat := 0x21
def fArbHang : Nat := 0x22
def fDramAlert : Nat := 0x23
def fTrainFail : Nat := 0x24
def fTrainDrift : Nat := 0x25
def fRenKat : Nat := 0x30
def fRenClamp : Nat := 0x31
def fRenFormat : Nat := 0x32
def fDeadlineMiss : Nat := 0x33
def fShaftEnc : Nat := 0x40
def fShaftIndex : Nat := 0x41
def fShaftPlaus : Nat := 0x42
def fXbarParity : Nat := 0x50
def fXbarMisroute : Nat := 0x51
def fBufParity : Nat := 0x52
def fDieLinkReplay : Nat := 0x53
def fChainDown : Nat := 0x60
def fChainCrcRate : Nat := 0x61
def fAlertRx : Nat := 0x62
def fHoopTrip : Nat := 0x70
def fVbusTrip : Nat := 0x71
def fPortKat : Nat := 0x72
def fTempHigh : Nat := 0x73
def fCpuWdog : Nat := 0x74

/-- ALERT goes out on the tree links of every chain port in service (R473, R541). -/
def Mach.sendAlert (m : Mach) (src : Nat) : Mach := m.controlTree none 4 0x05 [m.node, src]

/-- HEARTBEAT packets are withheld by HEARTBEAT_STOP, and by proof test 0x02 for 3 ms, which is 12 turns of 250 µs (R541, R554). (DEDUCED, log 26) -/
def Mach.hbWithheld (m : Mach) : Bool :=
  m.fg FLT_STAT FLT_STAT_hb_stop == 1 || (match m.flt.proof with | some p => p.test == 2 && decide (p.held < 12) | none => false)

/-- The collector sends a HEARTBEAT with the next count and the bits of R546 and R551; a packet that carries HOOPS_OFF
over a link in service turns the hoops off. -/
def Mach.sendHeartbeat (m : Mach) : Mach :=
  if !m.flt.hbOn || m.hbWithheld then m
  else
    let bits := m.fg FLT_STAT FLT_STAT_hoops_off + 8 * m.fg FLT_HB_CFG FLT_HB_CFG_mon_en
    let m := m.dlSend .core 0x3 bits [BitVec.ofNat 16 m.flt.hbCount]
    let m := { m with flt := { m.flt with hbCount := (m.flt.hbCount + 1) % 65536 } }
    if m.fg FLT_STAT FLT_STAT_hoops_off == 1 && m.dl.inService then m.hoopsOffIn else m

/-- The 250 µs turn of the collector (R12); one that proof test 0x02 withholds is counted. (DEDUCED, log 26) -/
def Mach.heartbeatTurn (m : Mach) : Mach :=
  match m.flt.proof with
  | some p => if m.flt.hbOn && p.test == 2 && decide (p.held < 12) then { m with flt := { m.flt with proof := some { p with held := p.held + 1 } } } else m.sendHeartbeat
  | none => m.sendHeartbeat

/-- HOOPS_OFF is held, and a HEARTBEAT says so at once (R541, R546). -/
def Mach.holdHoopsOff (m : Mach) : Mach :=
  if m.fg FLT_STAT FLT_STAT_hoops_off == 1 then m else (m.fs FLT_STAT FLT_STAT_hoops_off 1).sendHeartbeat

/-- HEARTBEAT_STOP (R541): until a chip reset no HEARTBEAT is sent and ALIVE stops. (DEDUCED, log 54) -/
def Mach.heartbeatStop (m : Mach) : Mach := m.fs FLT_STAT FLT_STAT_hb_stop 1

/-- A group escalates for a source; `hoops` adds HOOPS_OFF to its actions (R541-R546, R554). -/
def Mach.escalate (m : Mach) (g src : Nat) (hoops : Bool) : Mach :=
  let cfg := FLT_GRP_CFG g
  let m := m.fs FLT_PEND FLT_PEND_escalated (setBitN (m.fg FLT_PEND FLT_PEND_escalated) g true)
  let m := ((m.inc FLT_ESC_CNT FLT_ESC_CNT_count).ev FLT_STAT FLT_STAT_esc_ev).fs FLT_STAT FLT_STAT_alive_frozen 1
  let m := if m.fg cfg FLT_GRP_CFG_stop_playout == 1 then m.stopPlayout else m
  let m := if hoops || m.fg cfg FLT_GRP_CFG_hoops_off == 1 then m.holdHoopsOff else m
  let m := if m.fg cfg FLT_GRP_CFG_chain_alert == 1 then m.sendAlert src else m
  if m.fg cfg FLT_GRP_CFG_hb_stop == 1 then m.heartbeatStop else m

/-- The grace timer of a group stops (R543, R544). -/
def Mach.cancelGrace (m : Mach) (g : Nat) : Mach :=
  let m := m.fs FLT_PEND FLT_PEND_running (setBitN (m.fg FLT_PEND FLT_PEND_running) g false)
  { m with flt := { m.flt with graceSrc := spDel m.flt.graceSrc g } }

/-- Firmware places the FAULT event of the source that is latched first (R366, R538). -/
def Mach.faultEvent (m : Mach) : Mach :=
  m.event 0x0B m.hubHandle 0 [BitVec.ofNat 8 (m.fg FLT_FIRST FLT_FIRST_source), BitVec.ofNat 8 (m.fg FLT_FIRST FLT_FIRST_class), 0, 0]

/-- A source is latched first or counted as overflow, and its RAISED bit sets (R538). -/
def Mach.latchFault (m : Mach) (src detail : Nat) : Mach :=
  let r := FLT_RAISED (src / 32)
  let m := m.wr r (BitVec.ofNat 32 (setBitN (m.rg r).toNat (src % 32) true))
  if m.fg FLT_FIRST FLT_FIRST_valid == 1 then
    ((m.fs FLT_OVF FLT_OVF_ovf 1).fs FLT_OVF FLT_OVF_last src).sat FLT_OVF FLT_OVF_count
  else
    let c := faultClass src
    let m := m.wr FLT_FIRST (BitVec.ofNat 32 (2 ^ 31 + src / 16 % 8 * 2 ^ 28 + c * 2 ^ 24 + src * 2 ^ 16 + detail % 2 ^ 16))
    let m := (m.wr FLT_TIME_LO (BitVec.ofNat 32 m.ctime)).wr FLT_TIME_HI (BitVec.ofNat 32 (m.ctime / 2 ^ 32))
    let m := m.ev FLT_STAT FLT_STAT_first_ev
    if m.flt.hbOn then m.faultEvent else m

/-- A block reports a fault source (R538, R543-R545). Before the collector runs, the cause is kept for its start. -/
def Mach.raiseWith (m : Mach) (src detail : Nat) (hoops : Bool) : Mach :=
  if faultClass src = 0 then m
  else if !m.flt.on then { m with flt := { m.flt with early := m.flt.early ++ [(src, detail)] } }
  else
    let g := src / 16
    let m := m.latchFault src detail
    match faultClass src with
    | 0xA => (m.cancelGrace g).escalate g src hoops
    | 0xB =>
      if bitN (m.fg FLT_PEND FLT_PEND_running) g then m
      else if m.fg (FLT_GRP_CFG g) FLT_GRP_CFG_grace == 0 then m.escalate g src hoops
      else
        let m := m.fs FLT_PEND FLT_PEND_running (setBitN (m.fg FLT_PEND FLT_PEND_running) g true)
        { m with flt := { m.flt with graceSrc := spSet 0 m.flt.graceSrc g src } }
    | _ => m

/-- A block reports a fault source. -/
def Mach.raise (m : Mach) (src detail : Nat) : Mach := m.raiseWith src detail false

/-- An acknowledgement (R539): whether it is accepted, and the state after it. -/
def Mach.faultAck (m : Mach) (value : Word) : Bool × Mach :=
  if m.fg FLT_FIRST FLT_FIRST_valid == 1 && m.rg FLT_FIRST == value then
    let g := m.fg FLT_FIRST FLT_FIRST_group
    let m := (m.wr FLT_FIRST 0).wr FLT_OVF 0
    let m := forEach (upTo 4) (fun n m => m.wr (FLT_RAISED n) 0) m
    (true, m.cancelGrace g)
  else (false, m)

/-- A class A condition persists (R547). -/
def Mach.classAPersists (m : Mach) : Bool :=
  m.fg PDI_PWR_STAT PDI_PWR_STAT_safe_stop == 1 || !m.pdi.badSupply.isEmpty

/-- The release (R547): whether it is accepted, and the state after it. -/
def Mach.release (m : Mach) : Bool × Mach :=
  if m.fg FLT_FIRST FLT_FIRST_valid == 0 && m.fg FLT_PEND FLT_PEND_running == 0 && !m.classAPersists
      && m.fg FLT_STAT FLT_STAT_hb_stop == 0 then
    let m := ((m.fs FLT_PEND FLT_PEND_escalated 0).fs FLT_STAT FLT_STAT_stop_playout 0).fs REN_STAT REN_STAT_stop 0
    let m := (m.fs FLT_STAT FLT_STAT_hoops_off 0).fs FLT_STAT FLT_STAT_alive_frozen 0
    (true, if m.dl.inService then m.hoopsOffOut else m)
  else (false, m)

/-- The collector starts at the end of S1 (R538): causes already present are raised then. -/
def Mach.collectorStart (m : Mach) : Mach :=
  let l := m.flt.early
  let m := { m with flt := { m.flt with on := true, early := [] } }
  forEach l (fun e m => m.raise e.1 e.2) m

/-- S10 starts the heartbeat and ALIVE, and the FAULT event of a source latched before is placed (R538, R582). -/
def Mach.heartbeatStart (m : Mach) : Mach :=
  let m := { m with flt := { m.flt with hbOn := true } }
  (if m.fg FLT_FIRST FLT_FIRST_valid == 1 then m.faultEvent else m).sendHeartbeat

end Sys2Proof.Machine
end

