-- ==== Sys2Proof/Machine/PortOps.lean ====
section
/-! DEFINITION. What several commands do to a downstream port: its state and the hub-class bits that follow it (R127, R128,
R338), pipe contexts (R141), detach and quarantine (R155, R156), connection (R140) and the loss of VBUS (R129, R155, R343). -/

namespace Sys2Proof.Machine
open Reg

/-! ### Roles and states -/

/-- A port's role (R162). -/
def Mach.role (m : Mach) (p : Nat) : Nat := m.fg (PRT_ROLE p) PRT_ROLE_role
def roleNone : Nat := 0
def roleHub : Nat := 1
def roleDel : Nat := 2

/-- Whether a port is delegated. -/
def Mach.isDel (m : Mach) (p : Nat) : Bool := m.role p == roleDel
/-- Whether a port is in hub mode. -/
def Mach.isHub (m : Mach) (p : Nat) : Bool := m.role p == roleHub

/-- The power domain of a port (R14). -/
def portDom (p : Nat) : Nat := 8 + p / 8

/-- Port states (R127). -/
def pOff : Nat := 0
def pHold : Nat := 1
def pPowering : Nat := 2
def pDisc : Nat := 3
def pConn : Nat := 4
def pReset : Nat := 5
def pEnabled : Nat := 6
def pSusp : Nat := 7
def pResuming : Nat := 8
def pDisabled : Nat := 9
def pError : Nat := 10

/-- A port's state. -/
def Mach.pst (m : Mach) (p : Nat) : Nat := m.fg (PRT_STAT p) PRT_STAT_state

/-- The logical port number of a physical port, 0 where the port map has none (R336). -/
def Mach.logical (m : Mach) (p : Nat) : Nat :=
  match (upTo 48).find? (fun n => m.fg (HUB_PMAP n) HUB_PMAP_valid == 1 && m.fg (HUB_PMAP n) HUB_PMAP_port == p) with
  | some n => n + 2
  | none => 0

/-- The steering table (R353). -/
def steerAddr (a : Nat) : Nat := 0x2B0000 + 4 * a

/-- Every steering entry of a port goes (R352). -/
def Mach.dropSteer (m : Mach) (p : Nat) : Mach :=
  forEach (upTo 128) (fun a m => if m.rg (steerAddr a) == BitVec.ofNat 32 (2 ^ 31 + p) then m.wr (steerAddr a) 0 else m) m

/-- Every steering entry goes. -/
def Mach.clearSteer (m : Mach) : Mach := forEach (upTo 128) (fun a m => m.wr (steerAddr a) 0) m

/-- Set bits of wPortChange (R338): 0 connection, 1 enable, 2 suspend, 3 over-current, 4 reset. -/
def Mach.portChange (m : Mach) (p bit : Nat) : Mach :=
  m.setPort p { m.port p with change := setBitN (m.port p).change bit true }

/-- PORT_CONNECTION of a state (R338). -/
def connState (s : Nat) : Bool := decide (4 ≤ s ∧ s ≤ 10)

/-- A port enters a state (R127, R128), with what follows from it: presence judged afresh outside and on entry into OFF
(R125), the speed known only from ENABLED on, the hub-class change bits (R338) and the steering table (R352). A port that
a failed known-answer test holds in ERROR stays there (R160). (DEDUCED, log 39) -/
def Mach.setPst (m : Mach) (p new : Nat) : Mach :=
  let old := m.pst p
  if (m.port p).katHold || old == new then m
  else
    let a := PRT_STAT p
    let m := m.fs a PRT_STAT_state new
    let m := if new == pHold then m else m.fs a PRT_STAT_present 0
    let m := if new == pOff then m.setPort p { m.port p with presRun := 0, absRun := 0 } else m
    let m := if new ≤ pReset then m.fs a PRT_STAT_speed 0 else m
    let m := if new ≤ pPowering then m.fs a PRT_STAT_vbus_good 0 else m
    if m.isHub p then
      let m := if connState old != connState new then m.portChange p 0 else m
      let m := if (old == pEnabled || old == pSusp || old == pResuming) && new == pError then m.portChange p 1 else m
      let m := if old == pResuming then m.portChange p 2 else m
      let m := if old == pReset then m.portChange p 4 else m
      if new == pDisc || new == pDisabled || new == pReset || new == pError || new == pOff then m.dropSteer p else m
    else m

/-! ### Pipe contexts (R141, R161) -/

def pcW0 (i : Nat) : Nat := 0x280000 + 16 * i
def pcW1 (i : Nat) : Nat := pcW0 i + 4
def pcPort : Fd := ⟨0, 8⟩
def pcAddr : Fd := ⟨8, 7⟩
def pcEp : Fd := ⟨16, 4⟩
def pcDir : Fd := ⟨20, 1⟩
def pcType : Fd := ⟨21, 2⟩
def pcSpeed : Fd := ⟨24, 2⟩
def pcTog : Fd := ⟨26, 1⟩
def pcState : Fd := ⟨27, 3⟩
def pcPlay : Fd := ⟨30, 1⟩
def pcMps : Fd := ⟨0, 11⟩
def pcSub : Fd := ⟨16, 3⟩
def pcTt : Fd := ⟨24, 7⟩

/-- Pipe states. -/
def pipeClosed : Nat := 0
def pipeActive : Nat := 1
def pipeHalted : Nat := 2
def pipeClosing : Nat := 3

/-- A pipe's state. -/
def Mach.pipeSt (m : Mach) (i : Nat) : Nat := m.fg (pcW0 i) pcState

/-- The contexts of a port that are not CLOSED. -/
def Mach.portPipes (m : Mach) (p : Nat) : List Nat :=
  (upTo 512).filter (fun i => m.pipeSt i != pipeClosed && m.fg (pcW0 i) pcPort == p)

/-- Close a pipe (R155): CLOSING while a transaction of it is in progress, CLOSED else. -/
def Mach.closePipe (m : Mach) (p i : Nat) : Mach :=
  let busy := (m.port p).txs.any (fun t => t.pipe == i)
  m.fs (pcW0 i) pcState (if busy then pipeClosing else pipeClosed)

/-- Close the pipes of a port that a test picks. -/
def Mach.closePipes (m : Mach) (p : Nat) (t : Nat → Bool) : Mach :=
  forEach ((m.portPipes p).filter t) (fun i m => m.closePipe p i) m

/-! ### Devices -/

/-- Device-table states (R171). -/
def dEmpty : Nat := 0
def dEnum : Nat := 1
def dReady : Nat := 2
def dHub : Nat := 3

/-- A device-table state. -/
def Mach.devSt (m : Mach) (p sub : Nat) : Nat := m.fg (PRT_DEV p sub) PRT_DEV_state

/-- The generation of a place. -/
def Mach.devGen (m : Mach) (p sub : Nat) : Nat := m.fg (PRT_DEV p sub) PRT_DEV_gen

/-- A port event to the host (R366). -/
def Mach.portEvent (m : Mach) (kind p sub : Nat) (data : List Byte) : Mach :=
  m.event kind (m.handle p sub) (m.devGen p sub) data

/-- The bytes of a register. -/
def Mach.rgBytes (m : Mach) (a : Nat) : List Byte := leBytes 4 (m.rg a).toNat

/-- The addresses of a sub-address enter quarantine (R156). -/
def Mach.quarantine (m : Mach) (p sub : Nat) : Mach :=
  let x := m.port p
  let gone := (x.inUse.filter (fun e => e.2 == sub)).map (·.1)
  m.setPort p { x with inUse := x.inUse.filter (fun e => !(e.2 == sub)), quar := x.quar ++ gone.filter (fun a => !x.quar.contains a) }

/-- The device-table entry empties; the generation stays (R155). -/
def Mach.emptyDev (m : Mach) (p sub : Nat) : Mach :=
  let m := m.wr (PRT_DEV p sub) (setF 0 PRT_DEV_gen (m.devGen p sub))
  let x := m.port p
  let stop := match x.enum with | some e => e.sub == sub | none => false
  m.setPort p { x with enum := if stop then none else x.enum, waitEnum := x.waitEnum.filter (· != sub) }

/-- A port engine accepts class 1 cells unless one of its playout queues is full (R151). -/
def Mach.itemsFull (m : Mach) (p : Nat) : Bool :=
  (m.port p).items.any (fun i => decide (8 ≤ ((m.port p).items.filter (fun j => j.pipe == i.pipe)).length))

/-- An entry of the shadow or active slot table (R161). -/
def slotShadow (p i : Nat) : Nat := 0x290000 + 0x100 * p + 4 * i
def slotActive (p i : Nat) : Nat := 0x290080 + 0x100 * p + 4 * i

/-- Fields of a slot entry (R145). -/
def slPipe : Fd := ⟨23, 9⟩
def slIval : Fd := ⟨19, 4⟩
def slPhase : Fd := ⟨11, 8⟩
def slCs : Fd := ⟨8, 3⟩
def slValid : Fd := ⟨0, 1⟩

/-- Firmware takes the entries of pipes that are gone out of the shadow bank, unless a copy of it waits (R146).
(DESIGN CHOICE, log 7) -/
def Mach.dropSlots (m : Mach) (p : Nat) (gone : Nat → Bool) : Mach :=
  if m.fg (PRT_SLOT_CTRL p) PRT_SLOT_CTRL_pending == 1 then m
  else forEach (upTo 32) (fun i m =>
    let w := m.rg (slotShadow p i)
    if getF w slValid == 1 && gone (getF w slPipe) then m.wr (slotShadow p i) 0 else m) m

/-- What R155 does for one device, without its event: its items and control transfers go, its pipes close, its addresses
enter quarantine. -/
def Mach.closeSub (m : Mach) (p sub : Nat) : Mach :=
  let pipes := (m.portPipes p).filter (fun i => m.fg (pcW1 i) pcSub == sub)
  let x := m.port p
  let gone := x.items.filter (fun i => pipes.contains i.pipe)
  let ctl := x.ctl.filter (fun c => !(sub == 0 || c.sub == sub))
  let m := (m.setPort p { x with items := x.items.filter (fun i => !pipes.contains i.pipe), ctl := ctl }).countDrop p gone.length 2
  ((m.closePipes p (fun i => pipes.contains i)).dropSlots p (fun i => pipes.contains i)).quarantine p sub

/-- A device is at a sub-address: it has an entry, or an address in use (R137), or it is the one connected to the port. -/
def Mach.devHere (m : Mach) (p sub : Nat) : Bool :=
  m.devSt p sub != dEmpty || (m.port p).inUse.any (fun e => e.2 == sub)
    || (sub == 0 && connState (m.pst p) && !(m.port p).katHold)

/-- The device at one sub-address detaches (R155). -/
def Mach.detachOne (m : Mach) (p sub : Nat) : Mach :=
  if !m.devHere p sub then m
  else
    let m := ((m.closeSub p sub).emptyDev p sub).ev (PRT_STAT p) PRT_STAT_detach_ev
    m.portEvent 0x04 p sub []

/-- Every device on a port detaches (R155). -/
def Mach.detachAll (m : Mach) (p : Nat) : Mach :=
  (forEach (upTo 8) (fun sub m => m.detachOne p sub) m).fs (PRT_STAT p) PRT_STAT_hub_tier 0

/-- A device is attached at a sub-address (R140): new generation, entry ENUMERATING, attach event. -/
def Mach.attachAt (m : Mach) (p sub : Nat) : Mach :=
  let a := PRT_DEV p sub
  let m := m.wr a (setF (setF 0 PRT_DEV_gen (m.devGen p sub + 1)) PRT_DEV_state dEnum)
  (m.ev (PRT_STAT p) PRT_STAT_attach_ev).portEvent 0x02 p sub (m.rgBytes a)

/-- A connection on a powered port (R128, R140, R165). -/
def Mach.connectPort (m : Mach) (p : Nat) : Mach :=
  let m := m.setPst p pConn
  if m.pst p != pConn then m
  else if m.isDel p then m.attachAt p 0
  else m.ev (PRT_STAT p) PRT_STAT_attach_ev

/-- The device of a hub-mode port is gone (R165). -/
def Mach.hubDetach (m : Mach) (p : Nat) : Mach :=
  if connState (m.pst p) && !(m.port p).katHold then m.ev (PRT_STAT p) PRT_STAT_detach_ev else m

/-! ### VBUS -/

/-- The port loses VBUS (R128, R155): its devices detach and it enters OFF. -/
def Mach.portUnpowered (m : Mach) (p : Nat) : Mach :=
  let m := m.fs (PRT_STAT p) PRT_STAT_vbus_good 0
  if m.pst p < pPowering then m
  else
    let m := if m.isDel p then m.detachAll p else m.hubDetach p
    let m := m.setPort p { m.port p with resume := 0, testMode := 0, todo := [], late := [] }
    m.setPst p pOff

/-- Over-current of a hub-mode port begins with a trip of its switch (R343). -/
def Mach.overCurrentOn (m : Mach) (p : Nat) : Mach :=
  if !m.isHub p then m
  else if m.fg HUB_CFG HUB_CFG_oc_mode == 1 then
    if (m.port p).overCurrent then m else (m.setPort p { m.port p with overCurrent := true }).portChange p 3
  else if m.hub.oc then m else { m with hub := { m.hub with oc := true, cOc := true } }

/-- Over-current ends with the holdoff (R343): of the port, or of the last hub-mode port. -/
def Mach.overCurrentOff (m : Mach) (p : Nat) : Mach :=
  let m := if (m.port p).overCurrent then (m.setPort p { m.port p with overCurrent := false }).portChange p 3 else m
  let held := (List.finRange 48).any (fun q => m.isHub q.val && m.swState (.vbus q) == swHoldoff)
  if m.hub.oc && !held then { m with hub := { m.hub with oc := false, cOc := true } } else m

/-- A VBUS switch trips, with what follows for its port (R128, R155, R343). -/
def Mach.tripVbus (m : Mach) (p : Fin 48) (cause : Nat) : Mach :=
  if !m.swLive (.vbus p) then m
  else ((m.tripSw (.vbus p) cause).overCurrentOn p.val).portUnpowered p.val

/-- VBUS of a port is switched off on request (R129): no holdoff. -/
def Mach.vbusOff (m : Mach) (p : Fin 48) : Mach := (m.swOffReq (.vbus p)).portUnpowered p.val

/-- A switch trips. -/
def Mach.trip (m : Mach) (w : Switch) (cause : Nat) : Mach :=
  match w with
  | .vbus p => m.tripVbus p cause
  | .hoop _ => m.tripSw w cause

/-- A port number, where it is one. -/
def portNo (n : Nat) : Option (Fin 48) := if h : n < 48 then some ⟨n, h⟩ else none

end Sys2Proof.Machine
end

