-- ==== Sys2Proof/Machine/Switches.lean ====
section
/-! DEFINITION. The events of the hoops and VBUS switches (R488-R510), of SAFE_STOP_N (R552) and of the supply monitors
(R604). An event that finds the switch in no state it can happen in leaves everything as it is. -/

namespace Sys2Proof.Machine
open Reg

/-- An effect on everything but the DRAM contents, the lock bits and the queue. -/
def State.upd (s : State) (f : Mach → Mach) : Host.Outcome State Fault Refusal := .next { s with m := f s.m }

/-- Inrush of a hoop ends, and the clean window starts unless the limiter is active (R492, R495). -/
def Mach.hoopInrushDone (m : Mach) (k : Fin 12) : Mach :=
  if m.swState (.hoop k) == swInrush then
    (m.fs (PDI_HOOP_STAT k.val) PDI_HOOP_STAT_state swOn).setSw (.hoop k) { m.sw (.hoop k) with window := m.fg (PDI_HOOP_STAT k.val) PDI_HOOP_STAT_limiting == 0 }
  else m

def execHoopInrushDone (k : Fin 12) (s : State) : Host.Outcome State Fault Refusal := s.upd (·.hoopInrushDone k)

/-- Inrush has not ended in time (R492). -/
def Mach.hoopInrushTimeout (m : Mach) (k : Fin 12) : Mach :=
  if m.swState (.hoop k) == swInrush then m.trip (.hoop k) cInrush else m

def execHoopInrushTimeout (k : Fin 12) (s : State) : Host.Outcome State Fault Refusal := s.upd (·.hoopInrushTimeout k)

/-- The clean window of a hoop passes (R495). -/
def Mach.hoopPowerGood (m : Mach) (k : Fin 12) : Mach :=
  if m.swState (.hoop k) == swOn && (m.sw (.hoop k)).window then
    (m.swGood (.hoop k)).setSw (.hoop k) { m.sw (.hoop k) with window := false }
  else m

def execHoopPowerGood (k : Fin 12) (s : State) : Host.Outcome State Fault Refusal := s.upd (·.hoopPowerGood k)

/-- The clean window of a VBUS switch passes and its port is powered (R128, R131). -/
def Mach.vbusPowerGood (m : Mach) (p : Fin 48) : Mach :=
  if m.swLive (.vbus p) && m.fg (PDI_VBUS_STAT p.val) PDI_VBUS_STAT_limiting == 0 then
    let m := (m.swGood (.vbus p)).fs (PRT_STAT p.val) PRT_STAT_vbus_good 1
    if m.pst p.val == pPowering then m.setPst p.val pDisc else m
  else m

def execVbusPowerGood (p : Fin 48) (s : State) : Host.Outcome State Fault Refusal := s.upd (·.vbusPowerGood p)

/-- A switch reaches its limit: its fault timer accumulates and a running clean window ends (R494, R495). -/
def Mach.switchLimitEngage (m : Mach) (w : Switch) : Mach :=
  if m.swLive w then
    (m.fs (swStat w) PDI_HOOP_STAT_limiting 1).setSw w { m.sw w with timing := true, window := false }
  else m

def execSwitchLimitEngage (w : Switch) (s : State) : Host.Outcome State Fault Refusal := s.upd (·.switchLimitEngage w)

/-- The limiter has been inactive for the clean window: the fault timer returns to zero (R494). -/
def Mach.switchLimitClean (m : Mach) (w : Switch) : Mach :=
  if m.swLive w then
    (m.fs (swStat w) PDI_HOOP_STAT_limiting 0).setSw w { m.sw w with timing := false, window := m.fg (swStat w) PDI_HOOP_STAT_pgood == 0 }
  else m

def execSwitchLimitClean (w : Switch) (s : State) : Host.Outcome State Fault Refusal := s.upd (·.switchLimitClean w)

/-- The fault timer reaches its set value (R494). (DESIGN CHOICE, log 5) -/
def Mach.faultTimerExpiry (m : Mach) (w : Switch) : Mach :=
  if m.swLive w && (m.sw w).timing then m.trip w cTimer else m

def execFaultTimerExpiry (w : Switch) (s : State) : Host.Outcome State Fault Refusal := s.upd (·.faultTimerExpiry w)

/-- A VBUS switch exceeds its thermal limit (R490). -/
def Mach.vbusThermalTrip (m : Mach) (p : Fin 48) : Mach := m.trip (.vbus p) cThermal

def execVbusThermalTrip (p : Fin 48) (s : State) : Host.Outcome State Fault Refusal := s.upd (·.vbusThermalTrip p)

/-- VIN of a hoop stays below 8.0 V for 100 µs (R493). -/
def Mach.vinUvTrip (m : Mach) (k : Fin 12) : Mach := m.trip (.hoop k) cVinUv

def execVinUvTrip (k : Fin 12) (s : State) : Host.Outcome State Fault Refusal := s.upd (·.vinUvTrip k)

/-- A supply has stayed outside its window for 10 µs (R490, R493, R604): an EVENT reports it, VBUS_IN trips every VBUS
switch and a low VDD_HOOP every hoop. -/
def Mach.supplyFault (m : Mach) (n : Fin 16) (high : Bool) : Mach :=
  if 8 < n.val ∨ m.supplyBad n.val high then m
  else
    let m := { m with pdi := { m.pdi with badSupply := m.pdi.badSupply ++ [2 * n.val + b2n high] } }
    let m := m.pdEvent (.supply n high)
    if n.val = 7 then forEach allVbus (fun w m => m.trip w cSupply) m
    else if n.val = 8 ∧ high = false then m.tripHoops cSupply
    else m

def execSupplyFault (n : Fin 16) (high : Bool) (s : State) : Host.Outcome State Fault Refusal := s.upd (·.supplyFault n high)

/-- A supply recovers: the holdoffs of the switches it tripped start (R496). -/
def Mach.supplyRecover (m : Mach) (n : Fin 16) : Mach :=
  if !(m.supplyBad n.val false || m.supplyBad n.val true) then m
  else
    let m := { m with pdi := { m.pdi with badSupply := m.pdi.badSupply.filter (fun e => e / 2 != n.val) } }
    let m := m.pdEvent (.supplyRecovered n)
    if n.val = 7 then m.causeEnds allVbus cSupply
    else if n.val = 8 then m.causeEnds allHoops cSupply
    else m

def execSupplyRecover (n : Fin 16) (s : State) : Host.Outcome State Fault Refusal := s.upd (·.supplyRecover n)

/-- A holdoff runs out: the switch is LATCHED and nothing is turned on (R496, R497). (DESIGN CHOICE, log 5) -/
def Mach.holdoffEnd (m : Mach) (w : Switch) : Mach :=
  if m.swState w == swHoldoff && (m.sw w).holdoff then
    let m := (m.fs (swStat w) PDI_HOOP_STAT_state swLatched).setSw w {}
    let m := m.pdEvent (.holdoffEnd w)
    match w with
    | .vbus p => m.overCurrentOff p.val
    | .hoop _ => m
  else m

def execHoldoffEnd (w : Switch) (s : State) : Host.Outcome State Fault Refusal := s.upd (·.holdoffEnd w)

/-- SAFE_STOP_N has been low for 5 µs (R552). -/
def Mach.safeStopAssert (m : Mach) : Mach :=
  if m.fg PDI_PWR_STAT PDI_PWR_STAT_safe_stop == 1 then m
  else
    let m := (m.fs PDI_PWR_STAT PDI_PWR_STAT_safe_stop 1).ev PDI_PWR_STAT PDI_PWR_STAT_safe_stop_ev
    (m.pdEvent .safeStop).tripHoops cSafeStop

def execSafeStopAssert (s : State) : Host.Outcome State Fault Refusal := s.upd (·.safeStopAssert)

/-- SAFE_STOP_N returns high: the holdoffs of the hoops it stopped start (R496). -/
def Mach.safeStopRelease (m : Mach) : Mach :=
  if m.fg PDI_PWR_STAT PDI_PWR_STAT_safe_stop == 0 then m
  else ((m.fs PDI_PWR_STAT PDI_PWR_STAT_safe_stop 0).pdEvent .safeStopRelease).causeEnds allHoops cSafeStop

def execSafeStopRelease (s : State) : Host.Outcome State Fault Refusal := s.upd (·.safeStopRelease)

end Sys2Proof.Machine
end

