-- ==== Sys2Proof/Machine/DieLinkOps.lean ====
section
/-! DEFINITION. The die link and the heartbeat between the dies (R8-R12, R548, R551). -/

namespace Sys2Proof.Machine
open Reg

/-- A die-link type that is not reserved (R8). -/
def dlKnown (t : Nat) : Bool := decide (1 ≤ t ∧ t ≤ 8)

/-- Free the held packets up to and including a sequence number, where one of them has it (R9). -/
def DlDir.ackUpTo (d : DlDir) (seq : BitVec 4) : DlDir :=
  if d.held.any (fun p => p.seq == seq) then
    { d with held := (d.held.dropWhile (fun p => p.seq != seq)).drop 1, replays := 0, replaySeq := none }
  else d

/-- An ACK reaches the end that sends in a direction (R9). -/
def Mach.dlAck (m : Mach) (e : DieEnd) (seq : BitVec 4) : Mach :=
  if !m.dl.inService then m
  else ({ m with dl := m.dl.setDir e ((m.dl.dir e).ackUpTo seq) }).dlPump 16 e

/-- The link resets (R10): both ends clear their sequence numbers and exchange RESYNC; it is out of service until they have. (DEDUCED, log 19) -/
def Mach.dlReset (m : Mach) : Mach :=
  let again (d : DlDir) : Nat := match d.held with | p :: _ => d.dup + (d.rxExp + 16 - p.seq.toNat) % 16 | [] => 0
  let clear (d : DlDir) : DlDir :=
    { d with txSeq := 0, rxExp := 0, replays := 0, replaySeq := none, dup := min (again d) d.held.length }
  let m := { m with dl := { m.dl with down := clear m.dl.down, up := clear m.dl.up, inService := false } }
  let rs : DlPkt := ⟨0x8#4, 0, 1, 0, [], true⟩
  (m.dlEmit .core rs).dlEmit .power rs

/-- A NAK reaches the end that sends in a direction: packets before the named one are through, the rest is replayed; the
same packet failing four replays in a row resets the link (R9, R10). -/
def Mach.dlNak (m : Mach) (e : DieEnd) (seq : BitVec 4) : Mach :=
  let d := m.dl.dir e
  if !m.dl.inService then m
  else if d.held.any (fun p => p.seq == seq) then
    let again := d.replaySeq == some seq.toNat
    if again && decide (4 ≤ d.replays) then m.dlReset.raise fDieLinkReplay 0
    else
      let held := d.held.dropWhile (fun p => p.seq != seq)
      let d := { d with held := held, replays := if again then d.replays + 1 else 1, replaySeq := some seq.toNat }
      forEach held (fun p m => m.dlEmit e p) { m with dl := m.dl.setDir e d }
  else if seq.toNat = d.txSeq then
    ({ m with dl := m.dl.setDir e { d with held := [], replays := 0, replaySeq := none } }).dlPump 16 e
  else m

/-- A packet arrives at an end (R9): a parity error or a reserved type is answered NAK with the sequence number expected;
what is not the packet expected next is discarded; the packet expected is acknowledged and passed on, and acts as `act`
says unless it acted before a reset of the link. (DEDUCED, log 19) -/
def Mach.dlPacket (m : Mach) (e : DieEnd) (pk : DlPkt) (act : Mach → Mach) : Mach :=
  if !m.dl.inService then m
  else
    let from_ := m.dl.dir e.other
    let exp : BitVec 4 := BitVec.ofNat 4 from_.rxExp
    if !pk.parityOk || !dlKnown pk.type.toNat then m.dlEmit e ⟨0x7#4, exp, 1, 0, [], true⟩
    else if pk.type == 0x6#4 then m.dlAck e pk.seq
    else if pk.type == 0x7#4 then m.dlNak e pk.seq
    else if pk.type == 0x8#4 then m
    else if pk.seq != exp then m
    else
      let m := { m with dl := m.dl.setDir e.other { from_ with rxExp := (from_.rxExp + 1) % 16, dup := from_.dup - 1 } }
      let m := m.dlEmit e ⟨0x6#4, pk.seq, 1, 0, [], true⟩
      let m := m.emit .dieDeliver [e.num, pk.type.toNat] (pk.data.flatMap (fun w => leBytes 2 w.toNat))
      if from_.dup = 0 then act m else m

/-! ### Register accesses and segments over the link (R8, R11) -/

/-- The link is in service and carries nothing: no packet waits or is unacknowledged, and no access is on its way. -/
def DieLink.quiet (d : DieLink) : Bool :=
  d.inService && d.down.held.isEmpty && d.down.waiting.isEmpty && d.up.held.isEmpty && d.up.waiting.isEmpty && d.reqs.isEmpty

/-- A packet that crosses within the step: over a quiet link it leaves, is accepted and is acknowledged; else it takes its
place among the packets of its direction. (DEDUCED, log 19) -/
def Mach.dlPass (m : Mach) (e : DieEnd) (type spec : Nat) (data : List (BitVec 16)) : Mach :=
  if m.dl.quiet then
    let d := m.dl.dir e
    let n := (d.txSeq + 1) % 16
    let seq : BitVec 4 := BitVec.ofNat 4 d.txSeq
    let m := { m with dl := m.dl.setDir e { d with txSeq := n, rxExp := n } }
    (m.dlEmit e ⟨BitVec.ofNat 4 type, seq, BitVec.ofNat 4 (1 + data.length), BitVec.ofNat 4 spec, data, true⟩).dlEmit e.other
      ⟨0x6#4, seq, 1, 0, [], true⟩
  else m.dlSend e type spec data

/-- The transfers of a REG_REQ (R8): 24-bit offset and 32-bit data; whether it writes stands in the packet-specific bits. (DEDUCED, log 19) -/
def regReqData (a : Nat) (v : Option Word) : List (BitVec 16) :=
  let o := a % 0x10000
  let d := (v.getD 0).toNat
  [BitVec.ofNat 16 o, BitVec.ofNat 16 (o / 0x10000), BitVec.ofNat 16 d, BitVec.ofNat 16 (d / 0x10000)]

/-- The transfers of a REG_RSP (R8): status and data. (DEDUCED, log 19) -/
def regRspData (st : Nat) (v : Word) : List (BitVec 16) :=
  [BitVec.ofNat 16 st, BitVec.ofNat 16 v.toNat, BitVec.ofNat 16 (v.toNat / 0x10000)]

/-- An address of the PDI_ block. -/
def isPdi (a : Nat) : Bool := a / 0x10000 == 0x15

/-- An access to PDI_ crosses a quiet link as a REG_REQ and a REG_RSP within its step (R8, R11). (DEDUCED, log 19) -/
def Mach.overLink (m : Mach) (a : Nat) (v : Option Word) (f : Mach → Nat × Word × Mach) : Nat × Word × Mach :=
  if isPdi a && m.dl.quiet then
    let (st, w, m) := f (m.dlPass .core 0x1 (b2n v.isSome) (regReqData a v))
    (st, w, m.dlPass .power 0x2 0 (regRspData st w))
  else f m

/-- A segment of channel 1 as transfers (R8); the packet-specific bit says that the last transfer holds one byte. (DEDUCED, log 19) -/
def segData : List Byte → List (BitVec 16)
  | [] => []
  | [b] => [b.setWidth 16]
  | b :: c :: l => (c ++ b) :: segData l

/-- The bytes of a segment. -/
def segBytes (odd : Bool) (l : List (BitVec 16)) : List Byte :=
  let bs := l.flatMap (fun w => leBytes 2 w.toNat)
  if odd then bs.dropLast else bs

/-- Segments of at most 16 bytes. -/
def segments : Nat → List Byte → List (List Byte)
  | 0, _ => []
  | k + 1, bs => if bs.isEmpty then [] else bs.take 16 :: segments k (bs.drop 16)

/-- Bytes of channel 1 go over the link as SMBUS packets (R8). -/
def Mach.dlSegments (m : Mach) (e : DieEnd) (bs : List Byte) : Mach :=
  forEach (segments (bs.length / 16 + 1) bs) (fun s m => m.dlPass e 0x5 (s.length % 2) (segData s)) m

/-- Back in service after RESYNC: every held packet is sent again from sequence number 0 (R10). (DEDUCED, log 19) -/
def DlDir.resend (d : DlDir) : DlDir :=
  let n := d.held.length
  { d with held := (upTo n).zip d.held |>.map (fun e => { e.2 with seq := BitVec.ofNat 4 e.1 }), txSeq := n % 16, rxExp := 0 }

/-- The die link is back in service (R10). (DEDUCED, log 19) -/
def Mach.dlInService (m : Mach) : Mach :=
  if m.dl.inService then m
  else
    let m := { m with dl := { m.dl with inService := true, down := m.dl.down.resend, up := m.dl.up.resend } }
    let m := forEach m.dl.down.held (fun p m => m.dlEmit .core p) m
    let m := forEach m.dl.up.held (fun p m => m.dlEmit .power p) m
    (m.dlPump 16 .core).dlPump 16 .power

/-- An EVENT packet reaches the core die (R8): trips, stops, a lost heartbeat and supplies are raised (R537). -/
def Mach.dlEvent (m : Mach) (ev : PdEvent) : Mach :=
  let m := { m with dl := { m.dl with events := m.dl.events.erase ev } }
  match ev with
  | .trip (.hoop k) c => m.raise fHoopTrip (k.val + 16 * c.toNat)
  | .trip (.vbus p) c => m.raise fVbusTrip (p.val + 256 * c.toNat)
  | .safeStop => m.raise fSafeStop 0
  | .heartbeatLost => m.raise fHeartbeatLost 0
  | .supply n high => m.raise (if high then fSupplyOv else fSupplyUv) n.val
  | .supplyRecovered _ => m
  | .holdoffEnd _ => m
  | .safeStopRelease => m
  | .wake _ => m

/-- The power-die monitor receives a HEARTBEAT (R12, R496, R546, R548, R551): one whose count follows the last sets the
arming, ends a loss and puts HOOPS_OFF in force or out of it. The first HEARTBEAT after power-on, which has none before it to
follow, counts as intact. (DESIGN CHOICE, log 56) -/
def Mach.heartbeatIn (m : Mach) (count : Nat) (spec : BitVec 4) : Mach :=
  let intact := match m.pdi.lastCount with | some c => count == (c + 1) % 65536 | none => true
  let m := { m with pdi := { m.pdi with lastCount := some count } }
  if !intact then m
  else
    let m := { m with pdi := { m.pdi with armed := spec.getLsbD 3 } }
    let m := if m.fg PDI_PWR_STAT PDI_PWR_STAT_hb_lost == 1 then
        (m.fs PDI_PWR_STAT PDI_PWR_STAT_hb_lost 0).causeEnds allHoops cHeartbeat
      else m
    if spec.getLsbD 0 then m.hoopsOffIn else m.hoopsOffOut

/-- No intact HEARTBEAT for 2.0 ms: the armed monitor drops every hoop and reports it where the link is alive (R12). -/
def Mach.heartbeatMissed (m : Mach) : Mach :=
  if !m.pdi.armed || m.fg PDI_PWR_STAT PDI_PWR_STAT_hb_lost == 1 then m
  else
    let m := (m.fs PDI_PWR_STAT PDI_PWR_STAT_hb_lost 1).ev PDI_PWR_STAT PDI_PWR_STAT_hb_ev
    let m := m.tripHoops cHeartbeat
    if m.dl.inService then m.pdEvent .heartbeatLost else m

end Sys2Proof.Machine
end

