-- ==== Sys2Proof/Machine/DieLink.lean ====
section
/-! DEFINITION. The commands of the die link and of the heartbeat; what a packet delivers acts by its own command. -/

namespace Sys2Proof.Machine

/-- An ACK arrives at the sender (R9). -/
def execDielinkAckRx (e : DieEnd) (seq : BitVec 4) (s : State) : Host.Outcome State Fault Refusal := s.upd (·.dlAck e seq)

/-- A NAK arrives at the sender (R9, R10). -/
def execDielinkNakRx (e : DieEnd) (seq : BitVec 4) (s : State) : Host.Outcome State Fault Refusal := s.upd (·.dlNak e seq)

/-- An EVENT of the power die reaches the core die (R8). -/
def execDielinkEventRx (ev : PdEvent) (s : State) : Host.Outcome State Fault Refusal := s.upd (·.dlEvent ev)

/-- The 250 µs turn of the healthy collector (R12). -/
def execHeartbeatSend (s : State) : Host.Outcome State Fault Refusal := s.upd (·.heartbeatTurn)

/-- The monitor receives a HEARTBEAT (R548). -/
def execHeartbeatRx (count : BitVec 16) (spec : BitVec 4) (s : State) : Host.Outcome State Fault Refusal :=
  s.upd (·.heartbeatIn count.toNat spec)

/-- The monitor's 2.0 ms pass (R12). -/
def execHeartbeatLost (s : State) : Host.Outcome State Fault Refusal := s.upd (·.heartbeatMissed)

end Sys2Proof.Machine
end

