-- ==== Sys2Proof/Machine/Predict.lean ====
section
/-! DEFINITION. The estimator and its predictions from shaft records alone, in exact fractions (R32-R34). -/

namespace Sys2Proof.Machine
open Reg

/-- A fraction; the denominator is positive wherever the estimator forms one. -/
structure Fr where
  n : Int
  d : Nat
  deriving DecidableEq, Repr

/-- Fractions: sum, difference, product, quotient (0 by 0), order. -/
def Fr.add (a b : Fr) : Fr := ⟨a.n * b.d + b.n * a.d, a.d * b.d⟩
def Fr.sub (a b : Fr) : Fr := ⟨a.n * b.d - b.n * a.d, a.d * b.d⟩
def Fr.mul (a b : Fr) : Fr := ⟨a.n * b.n, a.d * b.d⟩
def Fr.div (a b : Fr) : Fr :=
  if b.n = 0 then ⟨0, 1⟩ else if 0 < b.n then ⟨a.n * b.d, a.d * b.n.natAbs⟩ else ⟨-(a.n * b.d), a.d * b.n.natAbs⟩
def Fr.le (a b : Fr) : Bool := decide (a.n * b.d ≤ b.n * a.d)
def Fr.ofInt (i : Int) : Fr := ⟨i, 1⟩

/-- The nearest integer, halves upward. (DEDUCED, log 36) -/
def Fr.nearest (a : Fr) : Int := (2 * a.n + a.d) / (2 * (a.d : Int))

/-- The whole square root of a number below 4^k, bit by bit. -/
def isqrt : Nat → Nat → Nat → Nat
  | 0, _, r => r
  | k + 1, x, r => let c := r + 2 ^ k; isqrt k x (if c * c ≤ x then c else r)

/-- The square root of a fraction that is not negative, to 96 fraction bits. -/
def Fr.sqrt (a : Fr) : Fr :=
  let x := a.n.natAbs * a.d * 2 ^ 192
  ⟨isqrt (Nat.log2 x / 2 + 1) x 0, a.d * 2 ^ 96⟩

/-- What the estimator knows at the latest record: edge time, unwrapped angle, speed in units/ns, acceleration in
units/ns². -/
structure Est where
  t : Nat
  ang : Int
  v : Fr
  a : Fr
  deriving DecidableEq, Repr

/-- The estimate from 2W + 1 records (R32), none where there are fewer or their times do not rise. -/
def estimate (h : List ShRec) (w : Nat) : Option Est :=
  match h[0]?, h[w]?, h[2 * w]? with
  | some r0, some r1, some r2 =>
    if r2.t < r1.t ∧ r1.t < r0.t then
      let v0 : Fr := ⟨r0.ang - r1.ang, r0.t - r1.t⟩
      let v1 : Fr := ⟨r1.ang - r2.ang, r1.t - r2.t⟩
      let a := ((v0.sub v1).mul (.ofInt 2)).div (.ofInt (r0.t - r2.t : Nat))
      some ⟨r0.t, r0.ang, v0.add (a.mul ⟨(r0.t - r1.t : Nat), 2⟩), a⟩
    else none
  | _, _, _ => none

/-- The time to an advance of `delta` units, rounded to the nearest ns; none where the prediction is invalid (R33). (DEDUCED, log 36) -/
def Est.timeTo (e : Est) (delta : Int) : Option Nat :=
  if delta ≤ 0 then none
  else
    let tau : Option Fr :=
      if e.a.n = 0 then (if 0 < e.v.n then some ((Fr.ofInt delta).div e.v) else none)
      else
        let disc := (e.v.mul e.v).add ((e.a.mul (.ofInt 2)).mul (.ofInt delta))
        if disc.n < 0 then none
        else
          let den := e.v.add disc.sqrt
          if den.n ≤ 0 then none else some ((Fr.ofInt (2 * delta)).div den)
    match tau with
    | some x => if Fr.le x (.ofInt 500000000) then some x.nearest.toNat else none
    | none => none

/-- The position model at a chain time (R32). -/
def Est.at_ (e : Est) (t : Nat) : Fr :=
  let dt : Fr := .ofInt ((t : Int) - e.t)
  ((Fr.ofInt e.ang).add (e.v.mul dt)).add ((e.a.mul (dt.mul dt)).mul ⟨1, 2⟩)

/-- W (R53). -/
def Mach.window (m : Mach) : Nat := m.fg SHF_EST SHF_EST_window

/-- The master's estimate. -/
def Mach.est (m : Mach) : Option Est := estimate m.shf.hist m.window

/-- The latest record and the interval before it. -/
def Mach.lastGap (m : Mach) : Option (ShRec × ShRec) :=
  match m.shf.hist with
  | r :: q :: _ => some (r, q)
  | _ => none

/-- The stall-bound speed at a chain time (R34). -/
def Mach.stallSpeed (m : Mach) (now : Nat) : Option Fr :=
  match m.lastGap with
  | some (r, q) => if r.t < now then some ⟨r.ang - q.ang, now - r.t⟩ else none
  | none => none

/-- The live prediction of an advance of `delta` units at a chain time (R33, R34). -/
def Mach.liveTime (m : Mach) (delta : Int) (now : Nat) : Option Nat :=
  if m.shf.overdue then
    match m.stallSpeed now, m.lastGap with
    | some v, some (r, _) => ((⟨r.t, r.ang, v, ⟨0, 1⟩⟩ : Est).timeTo delta).map (r.t + ·)
    | _, _ => none
  else match m.est with
    | some e => (e.timeTo delta).map (e.t + ·)
    | none => none

/-- A speed in units/ns is at least SHF_EST.min_speed units per ms (R35). -/
def Mach.fastEnough (m : Mach) (v : Fr) : Bool :=
  Fr.le (.ofInt (m.fg SHF_EST SHF_EST_min_speed)) (v.mul (.ofInt 1000000))

/-- A fraction times a scale as a signed 32-bit register; the spec leaves the rounding open, and what is beyond the range
(R56, R57): the model wraps modulo 2^32. (DEDUCED, log 36; DESIGN CHOICE, log 63) -/
def toReg (f : Fr) (scale : Int) : Word :=
  let x := f.n * scale
  let q := x / f.d
  BitVec.ofInt 32 (if x % f.d = 0 then q else if Config.roundUp x f.d then q + 1 else q)

end Sys2Proof.Machine
end

