-- ==== Sys2Proof/Machine/RenOps.lean ====
section
/-! DEFINITION. Rennet's streams and groups: pick numbers and commit points (R64, R65), registering (R69), epoch changes
(R97, R98), freezing and skipping (R69-R71), and the layout of its tables (R83-R87, R105, R106). -/

namespace Sys2Proof.Machine
open Reg

/-! ### Picks and commit points -/

/-- Kinds of stream (R116). -/
def kSel : Nat := 1
def kProf : Nat := 2

/-- A stream's kind. -/
def Mach.kind (m : Mach) (n : Nat) : Nat := m.fg (REN_S_CTRL n) REN_S_CTRL_kind

/-- The step of a profile stream (R65). -/
def Mach.step (m : Mach) (n : Nat) : Nat := 2 ^ m.fg (REN_S_CTRL n) REN_S_CTRL_step_log2

/-- The phase of a profile stream. -/
def Mach.phase (m : Mach) (n : Nat) : Nat := m.fg (REN_S_ANGLE01 n) REN_S_ANGLE01_angle_lo

/-- Commit points per pick (R65). -/
def Mach.cpCount (m : Mach) (n : Nat) : Nat :=
  if m.kind n == kProf then 65536 / m.step n else m.fg (REN_S_CTRL n) REN_S_CTRL_n_commit_m1 + 1

/-- The angle fraction of a commit point by its number within the pick (R65). -/
def Mach.cpAngle (m : Mach) (n idx : Nat) : Nat :=
  if m.kind n == kProf then m.phase n + idx * m.step n
  else
    let w := m.rg (if idx < 2 then REN_S_ANGLE01 n else REN_S_ANGLE23 n)
    w.toNat / 2 ^ (16 * (idx % 2)) % 65536

/-- The commit point after one. -/
def Mach.nextCp (m : Mach) (n : Nat) (cp : Nat × Nat) : Nat × Nat :=
  if cp.2 + 1 < m.cpCount n then (cp.1, cp.2 + 1) else ((cp.1 + 1) % 2 ^ 32, 0)

/-- How far the master angle is from a commit point, in units; 0 or less once it is reached. -/
def Mach.cpAhead (m : Mach) (n : Nat) (cp : Nat × Nat) : Int :=
  pickDiff cp.1 m.pick * 65536 + m.cpAngle n cp.2 - ((m.rg SHF_ANGLE).toNat % 65536 : Nat)

/-- A stream's lead L in ns (R69). -/
def Mach.lead (m : Mach) (n : Nat) : Nat := 10000 * m.fg (REN_S_TIMING n) REN_S_TIMING_lead

/-- A stream's preparation time P in ns (R69). -/
def Mach.prep (m : Mach) (n : Nat) : Nat := 1000 * m.fg (REN_S_TIMING n) REN_S_TIMING_prep

/-- The frozen commit time of a commit point as judged at the latest record, where the freezing condition of R36 holds for
it there: its distance counts from that record's angle. -/
def Mach.freezeTime (m : Mach) (n : Nat) (cp : Nat × Nat) : Option Nat :=
  match m.est, m.lastGap with
  | some e, some (r, q) =>
    match e.timeTo (m.cpAhead n cp + (m.shf.pos - r.ang)) with
    | some tau => if tau ≤ m.lead n + (r.t - q.t) then some (e.t + tau) else none
    | none => none
  | _, _ => none

/-- A stream registers a commit point with the shaft unit (R69). -/
def Mach.register (m : Mach) (n : Nat) (cp : Nat × Nat) : Mach := m.setStr n { m.str n with reg := some cp }

/-! ### Freezing, missing, skipping -/

/-- The stream goes on to its next commit point, or halts where an AT_PICK halt has completed its pick (R69, R100). -/
def Mach.advance (m : Mach) (n : Nat) (cp : Nat × Nat) : Mach :=
  if m.strState n != stRunning then m
  else
    let next := m.nextCp n cp
    match (m.str n).haltAt with
    | some ev => if next.2 = 0 then (m.haltStream n ev).afterHalt else m.register n next
    | none => m.register n next

/-- A commit point as its freezing with commit time T fixes it (R69, R70): epoch, bank and row origin are the stream's now. -/
def Mach.commitPt (m : Mach) (n : Nat) (cp : Nat × Nat) (t : Nat) : CommitPt :=
  let e := m.strEpoch n
  let x := m.str n
  ⟨n, m.strGroup n, cp.1, cp.2, t, stamp (t + 2 ^ 64 - m.prep n), e, if e = 0 then x.dest0 else x.dest1, (m.rg (REN_S_ORIGIN n)).toNat⟩

/-- Whether a commit point is the one a stream has registered. -/
def Mach.isReg (m : Mach) (n : Nat) (cp : Nat × Nat) : Bool := (m.str n).reg == some cp

/-- Rennet takes a frozen commit point from the time bus (R63, R69): its work is queued and the stream's next commit point
is registered. -/
def Mach.frozen (m : Mach) (w : CommitPt) : Mach :=
  let n := w.stream
  let m := { m with ren := { m.ren with queue := m.ren.queue ++ [w] } }.setStr n { m.str n with anyFrozen := true }
  let m := m.wr (REN_S_PICK n) (BitVec.ofNat 32 w.pick)
  if m.isReg n (w.pick, w.idx) then m.advance n (w.pick, w.idx) else m

/-- A commit point was missed, or passed while the predictor was unlocked (R69, R71). -/
def Mach.missed (m : Mach) (n : Nat) (cp : Nat × Nat) : Mach :=
  if m.strState n != stRunning || !m.isReg n cp then m
  else if m.fg (REN_S_CTRL n) REN_S_CTRL_unlock == 1 then
    ((m.inc (REN_S_SKIP n) REN_S_SKIP_count).ev (REN_S_STAT n) REN_S_STAT_skip_ev).advance n cp
  else (m.haltStream n true).afterHalt

/-- The predictor unlocks: streams whose policy is HALT enter HALTED (R71). -/
def Mach.unlockHalts (m : Mach) : Mach :=
  (forEach (upTo 128) (fun n m =>
    if m.strState n == stRunning && m.fg (REN_S_CTRL n) REN_S_CTRL_unlock != 1 then m.haltStream n true else m) m).afterHalt

/-- Publish a frozen commit time, or report a missed target, on the time bus (R36). -/
def Mach.busPut (m : Mach) (b : BusMsg) : Mach :=
  { m with shf := { m.shf with bus := m.shf.bus ++ [b] } }.emit .timeBus ([b.stream, b.pick % 65536] ++ (b.cp.map CommitPt.time).toList)

/-- A registered commit point of a running stream freezes (R36, R69): the freezing carries a pending change (R97, R98), fixes
what the commit point reads, and T is published. -/
def Mach.freeze (m : Mach) (n : Nat) (cp : Nat × Nat) (t : Nat) : Mach :=
  let m := m.changeAtFreeze n cp.1
  m.busPut ⟨n, cp.1, cp.2, some (m.commitPt n cp t)⟩

/-- At a record, each registered commit point that is not on the time bus yet freezes or is missed (R36, R71). -/
def Mach.freezeAll (m : Mach) : Mach :=
  let locked := m.fg SHF_STAT SHF_STAT_lock == 1
  forEach (upTo 128) (fun n m =>
    match (m.str n).reg with
    | none => m
    | some cp =>
      if m.strState n != stRunning || m.shf.bus.any (fun b => b.stream == n) then m
      else if m.cpAhead n cp ≤ 0 then m.busPut ⟨n, cp.1, cp.2, none⟩
      else if !locked then m
      else match m.freezeTime n cp with
        | some t => m.freeze n cp t
        | none => m) m

/-! ### Tables -/

/-- A byte of the register space. -/
def Mach.byteAt (m : Mach) (a : Nat) : Nat := (m.rg (a / 4 * 4)).toNat / 2 ^ (8 * (a % 4)) % 256

/-- A little-endian number of the register space. -/
def Mach.numAt (m : Mach) : Nat → Nat → Nat
  | _, 0 => 0
  | a, k + 1 => m.byteAt a + 256 * m.numAt (a + 1) k

/-- A stream entry (R106), a hook map's directory entry, a hook map entry, a profile descriptor (R105), by bank. -/
def seAddr (n bank : Nat) : Nat := 0x90100 + 0x200 * n + 0x80 * bank
def dirAddr (k bank : Nat) : Nat := 0x240000 + 0x200 * bank + 8 * k
def entAddr (i bank : Nat) : Nat := 0x200000 + 0x20000 * bank + 4 * i
def descAddr (k bank : Nat) : Nat := 0x240400 + 0x400 * bank + 16 * k

/-- Directory fields (R83). -/
def Mach.dirBase (m : Mach) (k bank : Nat) : Nat := m.numAt (dirAddr k bank) 2
def Mach.dirCount (m : Mach) (k bank : Nat) : Nat := m.numAt (dirAddr k bank + 2) 2
def Mach.dirLogical (m : Mach) (k bank : Nat) : Nat := m.numAt (dirAddr k bank + 4) 2

/-- Fields of a hook map entry (R84). -/
def heValid : Fd := ⟨0, 1⟩
def heParkValue : Fd := ⟨4, 1⟩
def hePark : Fd := ⟨5, 1⟩
def heInv : Fd := ⟨6, 1⟩
def heBit : Fd := ⟨7, 9⟩
def heHandle : Fd := ⟨16, 16⟩

/-- Fields of a selection stream's entry (R106). -/
def Mach.seDesign (m : Mach) (n b : Nat) : Nat := m.numAt (seAddr n b) 5
def Mach.seXform (m : Mach) (n b : Nat) : Nat := m.byteAt (seAddr n b + 5) % 16
def Mach.seHooks (m : Mach) (n b : Nat) : Nat := m.numAt (seAddr n b + 6) 2
def Mach.seXoff (m : Mach) (n b : Nat) : Nat := m.numAt (seAddr n b + 8) 2
def Mach.seYoff (m : Mach) (n b : Nat) : Nat := m.numAt (seAddr n b + 10) 2
def Mach.seMap (m : Mach) (n b : Nat) : Nat := m.byteAt (seAddr n b + 12)
def Mach.sePayload (m : Mach) (n b : Nat) : Nat := m.byteAt (seAddr n b + 13)

/-- Fields of a profile stream's entry (R106). -/
def Mach.seTable (m : Mach) (n b : Nat) : Nat := m.byteAt (seAddr n b)
def Mach.seChannel (m : Mach) (n b : Nat) : Nat := m.byteAt (seAddr n b + 1)
def Mach.seHandle (m : Mach) (n b : Nat) : Nat := m.numAt (seAddr n b + 2) 2
def Mach.seRate (m : Mach) (n b : Nat) : Nat := m.numAt (seAddr n b + 8) 4
def Mach.seJerk (m : Mach) (n b : Nat) : Nat := m.numAt (seAddr n b + 12) 4
def Mach.seClampLimit (m : Mach) (n b : Nat) : Nat := m.numAt (seAddr n b + 16) 2

/-- Fields of a profile descriptor (R87). -/
def Mach.descPoints (m : Mach) (k b : Nat) : Nat := m.numAt (descAddr k b) 5
def Mach.descCount (m : Mach) (k b : Nat) : Nat := m.numAt (descAddr k b + 6) 2

/-- The bits of a table-window word that are fields; the others are reserved (R5): hook maps (R83, R84), profile descriptors
(R87), stream entries under either kind (R106), pipe contexts (R141), slots (R145), steering entries (R353). -/
def tableMask (a : Nat) : Word :=
  if 0x200000 ≤ a ∧ a < 0x240000 then 0xFFFFFFF1#32
  else if 0x240000 ≤ a ∧ a < 0x240400 then (if a % 8 = 0 then 0xFFFFFFFF#32 else 0xFFFF#32)
  else if 0x240400 ≤ a ∧ a < 0x240C00 then
    (if a % 16 = 0 then 0xFFFFFFFF#32 else if a % 16 = 4 then 0xFFFF00FF#32 else 0#32)
  else if 0x280000 ≤ a ∧ a < 0x282000 then
    (if a % 16 = 0 then 0x7F7F7FFF#32 else if a % 16 = 4 then 0x7F0707FF#32 else 0#32)
  else if 0x290000 ≤ a ∧ a < 0x293000 then 0xFFFFFF01#32
  else if 0x2B0000 ≤ a ∧ a < 0x2B0200 then 0x8000003F#32
  else if 0x90000 ≤ a ∧ a < 0xA0000 ∧ 0x100 ≤ (a - 0x90000) % 0x200 then
    (match a % 0x80 with
     | 0x00 => 0xFFFFFFFF#32 | 0x04 => 0xFFFF0FFF#32 | 0x08 => 0xFFFFFFFF#32 | 0x0C => 0xFFFFFFFF#32 | 0x10 => 0xFFFF#32
     | _ => 0#32)
  else 0xFFFFFFFF#32

/-- The bits of a stream entry's word that its stream's kind gives a field (R106). -/
def kindMask (kind a : Nat) : Word :=
  if kind = 1 then (match a % 0x80 with
    | 0x0C => 0xFFFF#32 | 0x10 => 0#32 | _ => tableMask a)
  else if kind = 2 then (if a % 0x80 = 4 then 0#32 else tableMask a)
  else tableMask a

/-- The bits of a word that a read shows (R5). -/
def Mach.shownMask (m : Mach) (a : Nat) : Word :=
  if 0x90000 ≤ a ∧ a < 0xA0000 ∧ 0x100 ≤ (a - 0x90000) % 0x200 then kindMask (m.kind ((a - 0x90000) / 0x200)) a else tableMask a

/-- The entries of a hook map; base + count does not exceed the store's 32,768 (R83). -/
def Mach.mapEntries (m : Mach) (k b : Nat) : List Word :=
  (upTo (min (m.dirCount k b) (32768 - m.dirBase k b))).map (fun i => m.rg (entAddr (m.dirBase k b + i) b))

/-- Insert into an ascending list without repeats. -/
def insNat (a : Nat) : List Nat → List Nat
  | [] => [a]
  | b :: l => if a < b then a :: b :: l else if a = b then b :: l else b :: insNat a l

/-- The destination set of a map in ascending handle order (R86); a map that names more than 256 handles is played whole.
(DESIGN CHOICE, log 64) -/
def Mach.destSet (m : Mach) (k b : Nat) : List Nat :=
  (m.mapEntries k b).foldl (fun l e => if getF e heValid = 1 then insNat (getF e heHandle) l else l) []

end Sys2Proof.Machine
end

