-- ==== Sys2Proof/Machine/EnumOps.lean ====
section
/-! DEFINITION. Enumeration on a delegated port (R135-R141): what firmware reads from descriptors (R172-R175), the pipe
contexts and slot entries it writes (R141, R145, R625), and the steps with their repeats. Where a rule leaves firmware a
choice among several allowed values, a free value makes it. -/

namespace Sys2Proof.Machine
open Reg

/-! ### Results (R140) -/

def enOk : Nat := 0
def enTimeout : Nat := 1
def enStall : Nat := 2
def enBadDesc : Nat := 3
def enUnsupported : Nat := 4
def enNoPipe : Nat := 5
def enNoAddress : Nat := 6
def enDepth : Nat := 7

/-! ### Descriptors -/

/-- The descriptors of a configuration, one after another; none where a length is malformed. -/
def splitDescs : Nat → List Byte → Option (List (List Byte))
  | _, [] => some []
  | 0, _ => none
  | k + 1, b :: bs =>
    let n := b.toNat
    if n < 2 ∨ (b :: bs).length < n then none
    else (splitDescs k ((b :: bs).drop n)).map (fun l => (b :: bs).take n :: l)

/-- A byte of a descriptor. -/
def dByte (d : List Byte) (i : Nat) : Nat := leAt d i 1

/-- The longest payload a module accepts (R174). -/
def longestPayload (kinds body : Nat) : Nat := max (if bitN kinds 0 then 16 + body else 0) (if bitN kinds 1 then 24 else 0)

/-- A module class descriptor whose every field lies in its range (R173, R174). -/
def classDescOk (d : List Byte) : Bool :=
  let kinds := dByte d 6
  let body := dByte d 7
  let chans := dByte d 8
  d.length == 16 && dByte d 0 == 16 && dByte d 1 == 0x41 && dByte d 3 == 1 && leAt d 4 2 != 0
    && decide (1 ≤ kinds ∧ kinds ≤ 3)
    && (if bitN kinds 0 then decide (1 ≤ body ∧ body ≤ 64) else body == 0)
    && (if bitN kinds 1 then decide (1 ≤ chans ∧ chans ≤ 16) else chans == 0)
    && decide (8 ≤ dByte d 9) && decide (leAt d 10 2 ≤ 512) && decide (leAt d 10 2 ≤ 8 * body)
    && decide (1 ≤ dByte d 12 ∧ dByte d 12 ≤ 25) && decide (dByte d 13 ≤ 1) && leAt d 14 2 == 0

/-- An interrupt endpoint descriptor of a direction (1 = IN). -/
def isIntEp (d : List Byte) (dir : Nat) : Bool := dByte d 1 == 5 && dByte d 2 / 128 == dir && dByte d 3 % 4 == 3

/-- wMaxPacketSize of an endpoint descriptor. -/
def epMps (d : List Byte) : Nat := leAt d 4 2 % 2048

/-- The interface descriptor of the actuator module class (R172): alternate setting 0, class 0xFF, subclass 0xA7, protocol
0x01. -/
def isModuleIf (d : List Byte) : Bool :=
  dByte d 1 == 4 && dByte d 3 == 0 && dByte d 5 == 0xFF && dByte d 6 == 0xA7 && dByte d 7 == 0x01

/-- The module interface's number and what follows it among the descriptors, where a module class descriptor stands directly
after it (R172). -/
def afterModuleIf : List (List Byte) → Option (Nat × List (List Byte))
  | d :: c :: ds => if isModuleIf d && dByte c 1 == 0x41 then some (dByte d 2, c :: ds) else afterModuleIf (c :: ds)
  | _ => none

/-- A device is an actuator module (R172): one configuration with one interface, its alternate setting 0. -/
def EnumRun.oneIf (e : EnumRun) (ds : List (List Byte)) (data : List Byte) : Bool :=
  e.nConf == 1 && dByte data 4 == 1 && (ds.filter (fun d => dByte d 1 == 4)).length == 1

/-- What step 0x05 makes of a configuration descriptor (R137, R172-R175): a result, and the run with what it read. -/
def EnumRun.identify (e : EnumRun) (hubOk : Bool) (data : List Byte) : Nat × EnumRun :=
  match splitDescs data.length data with
  | none => (enBadDesc, e)
  | some ds =>
    let e := { e with wake := bitN (dByte data 7) 5, cfgVal := dByte data 5 }
    if e.speed = 1 then (enUnsupported, e)
    else match if e.oneIf ds data then afterModuleIf ds else none with
      | some (n, c :: o :: i :: rest) =>
        if classDescOk c && isIntEp o 0 && isIntEp i 1 && !rest.any (fun d => dByte d 1 == 5)
            && decide (longestPayload (dByte c 6) (dByte c 7) ≤ epMps o) && decide (64 ≤ epMps i) then
          (enOk, { e with isHub := false, ifNum := n, desc := c, outEp := dByte o 2, outMps := epMps o, inEp := dByte i 2, inMps := epMps i, inIval := dByte i 6 })
        else (enBadDesc, e)
      | some _ => (enBadDesc, e)
      | none =>
        if !e.isHub then (enUnsupported, e)
        else if e.sub ≠ 0 then (enDepth, e)
        else if !hubOk then (enUnsupported, e)
        else match ds.find? (fun d => isIntEp d 1) with
          | some i => (enOk, { e with inEp := dByte i 2, inMps := epMps i, inIval := dByte i 6 })
          | none => (enBadDesc, e)

/-! ### Addresses, pipe contexts and slot entries -/

/-- The next address in rotation that is neither in use nor in quarantine (R139). -/
def Port.nextAddr (x : Port) : Option Nat :=
  ((upTo 127).map (fun k => (x.lastAddr + k) % 127 + 1)).find? (fun a => !x.quar.contains a && !x.inUse.any (fun e => e.1 == a))

/-- Take `k` of a list's members, firmware's choice. (DESIGN CHOICE, log 7) -/
def Mach.chooseSome : Nat → List Nat → Mach → List Nat × Mach
  | 0, _, m => ([], m)
  | k + 1, l, m =>
    match l with
    | [] => ([], m)
    | d :: _ =>
      let (v, m) := m.takeFree
      let x := l.getD (v % l.length) d
      let (r, m) := chooseSome k (l.filter (· != x)) m
      (x :: r, m)

/-- The first word of a pipe context (R141). -/
def ctxW0 (p addr ep type speed play : Nat) : Word :=
  BitVec.ofNat 32 (p + addr * 2 ^ 8 + (ep % 16 + ep / 128 * 16 + type * 32) * 2 ^ 16 + (speed + pipeActive * 8 + play * 64) * 2 ^ 24)

/-- Write a pipe context: ACTIVE, toggle DATA0 (R141, R142). -/
def Mach.openPipe (m : Mach) (p : Nat) (e : EnumRun) (i ep type play mps : Nat) : Mach :=
  let tt := if e.sub ≠ 0 ∧ e.speed = 2 ∧ m.fg (PRT_DEV p 0) PRT_DEV_speed = 3 then m.fg (PRT_DEV p 0) PRT_DEV_addr else 0
  let m := (m.wr (pcW0 i) (ctxW0 p e.addr ep type e.speed play)).wr (pcW1 i) (BitVec.ofNat 32 (mps + e.sub * 2 ^ 16 + tt * 2 ^ 24))
  let m := (m.wr (pcW1 i + 4) 0).wr (pcW1 i + 8) 0
  m.setPort p { m.port p with errs := spDel (m.port p).errs i }

/-- Allocate and write a device's contexts (R141): three for a module, two for a hub; none where fewer are free. -/
def Mach.openPipes (m : Mach) (p : Nat) (e : EnumRun) : Option (EnumRun × Mach) :=
  let free := (upTo 512).filter (fun i => m.pipeSt i == pipeClosed)
  let need := if e.isHub then 2 else 3
  if free.length < need then none
  else
    match m.chooseSome need free with
    | ([a, b], m) => some ({ e with pipes := [a, b] }, (m.openPipe p e a 0 0 0 e.mps0).openPipe p e b e.inEp 3 0 e.inMps)
    | ([a, b, c], m) =>
      some ({ e with pipes := [a, b, c] }, ((m.openPipe p e a 0 0 0 e.mps0).openPipe p e b e.outEp 3 1 e.outMps).openPipe p e c e.inEp 3 0 e.inMps)
    | _ => none

/-- The longest interval that bInterval allows, as a power of two of microframes (R625). -/
def maxIval (speed bInterval : Nat) : Nat :=
  if speed = 3 then min 8 (max 1 bInterval - 1) else min 8 (3 + Nat.log2 (max 1 bInterval))

/-- Firmware writes one slot entry into a shadow entry that is not valid (R625); phase, position, complete-split count and the interval of a report pipe are its choice within R145 and R175. (DESIGN CHOICE, log 7) -/
def Mach.writeSlot (m : Mach) (p : Nat) (e : EnumRun) (pipe : Nat) (payload : Bool) : Mach :=
  let split := m.fg (pcW1 pipe) pcTt != 0
  let full := m.fg (PRT_DEV p 0) PRT_DEV_speed == 2
  let lo := if e.speed = 3 ∧ !split then 0 else 3
  let free := (upTo 32).filter (fun i => getF (m.rg (slotShadow p i)) slValid == 0)
  match m.chooseSome 1 free with
  | ([i], m) =>
    let hi := max lo (maxIval e.speed e.inIval)
    let (v, m) := m.takeFree
    let iv := if payload then lo else lo + v % (hi - lo + 1)
    let (u, m) := m.takeFree
    let ph := if full then u % 2 ^ (iv - 3) * 8 else u % 2 ^ iv
    let (c, m) := m.takeFree
    let cs := if split then 1 + c % 3 else 0
    m.wr (slotShadow p i) (BitVec.ofNat 32 (pipe * 2 ^ 23 + iv * 2 ^ 19 + ph * 2 ^ 11 + cs * 2 ^ 8 + 1))
  | (_, m) => m

/-- Step 0x0A: the device's slot entries go into the shadow bank and apply is requested, once no earlier apply waits for
its copy (R146, R625). -/
def Mach.writeSlots (m : Mach) (p : Nat) (e : EnumRun) : Mach :=
  if m.fg (PRT_SLOT_CTRL p) PRT_SLOT_CTRL_pending == 1 then m.setPort p { m.port p with enum := some { e with step := 10, applied := false } }
  else
    let m := m.dropSlots p (fun i => m.pipeSt i == pipeClosed)
    let m := match e.pipes with
      | [_, b, c] => (m.writeSlot p e b true).writeSlot p e c false
      | [_, b] => m.writeSlot p e b false
      | _ => m
    (m.fs (PRT_SLOT_CTRL p) PRT_SLOT_CTRL_pending 1).setPort p { m.port p with enum := some { e with step := 10, applied := true } }

/-! ### Control transfers (R148) -/

/-- The engine may start transactions. -/
def Mach.issuing (m : Mach) (p : Nat) : Bool :=
  m.isDel p && m.pst p == pEnabled && (m.port p).roleChange.isNone

/-- SETUP data: bmRequestType, bRequest, wValue, wIndex, wLength. -/
def setupBytes (rt rq v i n : Nat) : List Byte := leBytes 1 rt ++ leBytes 1 rq ++ leBytes 2 v ++ leBytes 2 i ++ leBytes 2 n

/-- The context of a device's endpoint 0, where it has one. -/
def Mach.ep0Pipe (m : Mach) (p sub : Nat) : Option Nat :=
  (m.portPipes p).find? (fun i => m.fg (pcW0 i) pcEp == 0 && m.fg (pcW0 i) pcType == 0 && m.fg (pcW1 i) pcSub == sub)

/-- Address and port of the external hub whose translator serves a device (R153): a full-speed one behind a high-speed hub. -/
def Mach.ttFor (m : Mach) (p sub : Nat) : List Nat :=
  if sub != 0 && m.fg (PRT_DEV p 0) PRT_DEV_speed == 3 && m.fg (PRT_DEV p sub) PRT_DEV_speed != 3 then
    [m.fg (PRT_DEV p 0) PRT_DEV_addr, sub]
  else [0, 0]

/-- Mark the first transfer of a device as on the cable. -/
def markStarted (sub : Nat) : List Ctl → List Ctl
  | [] => []
  | c :: l => if c.sub == sub then { c with started := true } :: l else c :: markStarted sub l

/-- The next transfer on one device's endpoint 0 starts unless one is on the cable. Its SETUP ends a halt of that endpoint.
(PRESUMED, log 52) -/
def Mach.ctlStart (m : Mach) (p sub : Nat) : Mach :=
  let x := m.port p
  if x.ctl.any (fun c => c.sub == sub && c.started) then m
  else match x.ctl.find? (·.sub == sub) with
    | none => m
    | some c =>
      let m := m.setPort p { x with ctl := markStarted sub x.ctl, rrCtl := sub }
      let m := match m.ep0Pipe p sub with
        | some i => if m.pipeSt i == pipeHalted then (m.fs (pcW0 i) pcState pipeActive).fs (pcW0 i) pcTog 0 else m
        | none => m
      m.emit .portTx ([p, 0, c.addr] ++ m.ttFor p sub) c.setup

/-- Control transfers start once the periodic work of the microframe is done (R148): one on each endpoint 0, beginning behind
the one served last. Nothing in the hub makes a bulk transfer on a delegated port. (DEDUCED, log 52) -/
def Mach.asyncRun (m : Mach) (p : Nat) : Mach :=
  let x := m.port p
  if !m.issuing p || !x.todo.isEmpty || x.tx.isSome then m
  else forEach ((upTo 8).map (fun k => (x.rrCtl + 1 + k) % 8)) (fun sub m => m.ctlStart p sub) m

/-- A control transfer is requested. -/
def Mach.ctlAdd (m : Mach) (p : Nat) (c : Ctl) : Mach :=
  (m.setPort p { m.port p with ctl := (m.port p).ctl ++ [c] }).asyncRun p

/-- A hub class request to the external hub (R136): for its port `n` and a feature. -/
def Mach.hubReq (m : Mach) (p rq feature n : Nat) : Mach :=
  m.ctlAdd p { sub := 0, addr := m.fg (PRT_DEV p 0) PRT_DEV_addr, setup := setupBytes 0x23 rq feature n 0, what := .hubSet }

/-- The status of one of its ports is read, once. -/
def Mach.hubAsk (m : Mach) (p n : Nat) : Mach :=
  if (m.port p).ctl.any (fun c => c.what == .hubStatus n && !c.started) then m
  else m.ctlAdd p { sub := 0, addr := m.fg (PRT_DEV p 0) PRT_DEV_addr, setup := setupBytes 0xA3 0 0 n 4, what := .hubStatus n }

/-! ### The steps -/

/-- What has ended is recorded (R137, R138, R166). -/
def Mach.enumMark (m : Mach) (p : Nat) (e : EnumRun) (res : Nat) : Mach :=
  (m.wr (PRT_ENUM p) (BitVec.ofNat 32 (e.step * 2 ^ 16 + res * 2 ^ 8 + e.attempt % 16 * 2 ^ 4 + e.sub))).ev (PRT_STAT p) PRT_STAT_enum_ev

/-- The request of a step's control transfer (R136, R138, R176); the configuration descriptor is read to its full length
once its first 9 bytes have told it. (PRESUMED, log 52) -/
def EnumRun.request (e : EnumRun) : List Byte :=
  match e.step with
  | 1 => setupBytes 0x23 3 4 e.sub 0
  | 2 => setupBytes 0x80 6 0x100 0 8
  | 3 => setupBytes 0 5 e.addr 0 0
  | 4 => setupBytes 0x80 6 0x100 0 18
  | 5 => setupBytes 0x80 6 0x200 0 (if e.cfgLen = 0 then 9 else e.cfgLen)
  | 7 => setupBytes 0 9 e.cfgVal 0 0
  | 8 => setupBytes 0xC1 1 0 e.ifNum 32
  | _ => setupBytes 0 3 1 0 0

/-- Start the control transfer of a step: to the external hub in step 0x01, at address 0 up to SET_ADDRESS, else at the
device's address. -/
def Mach.enumXfer (m : Mach) (p : Nat) (e : EnumRun) : Mach :=
  let m := m.setPort p { m.port p with enum := some e }
  m.ctlAdd p { sub := if e.step = 1 then 0 else e.sub,
               addr := if e.step = 1 then m.fg (PRT_DEV p 0) PRT_DEV_addr else if e.step ≤ 3 then 0 else e.addr,
               setup := e.request, what := .enum e.sub }

/-- Step 0x01: the port's own reset, or the external hub's port reset (R136, R138). -/
def Mach.enumReset (m : Mach) (p sub attempt : Nat) : Mach :=
  let e : EnumRun := { sub := sub, attempt := attempt }
  if sub = 0 then ((m.setPort p { m.port p with enum := some e }).setPst p pReset).emit .portBus [p, 0]
  else m.enumXfer p e

/-- The next device that waits is enumerated, one at a time (R136); it needs D1 (R138). -/
def Mach.enumNext (m : Mach) (p : Nat) : Mach :=
  match (m.port p).enum, (m.port p).waitEnum with
  | none, sub :: _ =>
    if m.domOn 1 then (m.setPort p { m.port p with waitEnum := (m.port p).waitEnum.drop 1 }).enumReset p sub 1 else m
  | _, _ => m

/-- Enumeration ends without a device (R137, R138). A hub behind the external hub is left disabled (R136). -/
def Mach.enumEnd (m : Mach) (p : Nat) (e : EnumRun) (res : Nat) : Mach :=
  let m := m.enumMark p e res
  let m := if res == enUnsupported then m else m.closeSub p e.sub
  let m := (m.emptyDev p e.sub).portEvent 0x05 p e.sub (m.rgBytes (PRT_ENUM p))
  let m := if res == enDepth then m.hubReq p 1 1 e.sub else m
  let m := if e.sub = 0 ∧ m.pst p = pEnabled then m.setPst p pDisabled else m
  m.enumNext p

/-- A try of a step fails (R138): the step is repeated twice, then the sequence from the reset, then enumeration ends. A step
that is firmware's own is tried again at the next microframe. (DEDUCED, log 52) -/
def Mach.enumFail (m : Mach) (p : Nat) (e : EnumRun) (res : Nat) : Mach :=
  if e.tries < 2 then
    let e := { e with tries := e.tries + 1 }
    if res == enNoPipe || res == enNoAddress then m.setPort p { m.port p with enum := some e } else m.enumXfer p e
  else if e.attempt < m.fg (PRT_CFG p) PRT_CFG_enum_retries then
    let m := (m.closeSub p e.sub).wr (PRT_DEV p e.sub) (setF (setF 0 PRT_DEV_gen (m.devGen p e.sub)) PRT_DEV_state dEnum)
    m.enumReset p e.sub (e.attempt + 1)
  else m.enumEnd p e res

/-- Step 0x0A. -/
def Mach.enumSlots (m : Mach) (p : Nat) (e : EnumRun) : Mach := m.writeSlots p { e with step := 10, tries := 0 }

/-- Step 0x09, when remote wakeup is enabled and supported. -/
def Mach.enumWake (m : Mach) (p : Nat) (e : EnumRun) : Mach :=
  let e := { e with step := 9, tries := 0 }
  if m.fg (PRT_CFG p) PRT_CFG_rwake_en == 1 && e.wake then m.enumXfer p e else m.enumSlots p e

/-- Step 0x08: a module's class-specific read (R176). -/
def Mach.enumInfo (m : Mach) (p : Nat) (e : EnumRun) : Mach :=
  let e := { e with step := 8, tries := 0 }
  if e.isHub then m.enumWake p e else m.enumXfer p e

/-- Steps 0x06 and 0x07: contexts, then SET_CONFIGURATION. -/
def Mach.enumPipes (m : Mach) (p : Nat) (e : EnumRun) : Mach :=
  match m.openPipes p e with
  | none => m.enumFail p e enNoPipe
  | some (e, m) => m.enumXfer p { e with step := 7, tries := 0 }

/-- Step 0x03: an address is chosen and SET_ADDRESS sent (R139). -/
def Mach.enumAddress (m : Mach) (p : Nat) (e : EnumRun) : Mach :=
  match (m.port p).nextAddr with
  | none => m.enumFail p { e with addr := 0 } enNoAddress
  | some a => m.enumXfer p { e with addr := a }

/-- A step of firmware that failed is tried again (R138). -/
def Mach.enumAgain (m : Mach) (p : Nat) : Mach :=
  match (m.port p).enum with
  | some e =>
    if e.tries = 0 || (m.port p).ctl.any (fun c => c.what == .enum e.sub) then m
    else if e.step = 6 then m.enumPipes p e
    else if e.step = 3 then m.enumAddress p e
    else m
  | none => m

/-- The speed found is recorded. -/
def Mach.enumSpeed (m : Mach) (p : Nat) (e : EnumRun) (speed : Nat) : Mach :=
  let m := m.fs (PRT_DEV p e.sub) PRT_DEV_speed (if speed = 1 then 0 else speed)
  m.enumXfer p { e with step := 2, tries := 0, speed := speed }

/-- Step 0x05 has the whole configuration descriptor (R137, R138). -/
def Mach.enumIdentify (m : Mach) (p : Nat) (e : EnumRun) (d : List Byte) : Mach :=
  match e.identify (m.fg (PRT_CFG p) PRT_CFG_hub_tier_en == 1) d with
  | (0, e) => m.enumPipes p { e with step := 6, tries := 0 }
  | (4, e) => m.enumEnd p e enUnsupported
  | (7, e) => m.enumEnd p e enDepth
  | (res, e) => m.enumFail p e res

/-- A control transfer of enumeration ends with its data (R138). Step 0x01 behind an external hub ends with the status of
its port (R136). -/
def Mach.enumDone (m : Mach) (p : Nat) (e : EnumRun) (d : List Byte) : Mach :=
  match e.step with
  | 2 => if d.length < 8 then m.enumFail p e enBadDesc else m.enumAddress p { e with step := 3, tries := 0, mps0 := dByte d 7 }
  | 3 =>
    let x := m.port p
    let m := m.setPort p { x with lastAddr := e.addr, inUse := x.inUse ++ [(e.addr, e.sub)] }
    (m.fs (PRT_DEV p e.sub) PRT_DEV_addr e.addr).enumXfer p { e with step := 4, tries := 0 }
  | 4 =>
    if d.length < 18 then m.enumFail p e enBadDesc
    else m.enumXfer p { e with step := 5, tries := 0, isHub := dByte d 4 == 9, multiTt := dByte d 6 == 2, nConf := dByte d 17, cfgLen := 0 }
  | 5 =>
    if e.cfgLen = 0 then
      if d.length < 9 || leAt d 2 2 < 9 then m.enumFail p e enBadDesc else m.enumXfer p { e with cfgLen := leAt d 2 2 }
    else if d.length < e.cfgLen then m.enumFail p e enBadDesc
    else m.enumIdentify p e d
  | 7 => (forEach e.pipes (fun i m => m.fs (pcW0 i) pcTog 0) m).enumInfo p e
  | 8 =>
    if d.length < 32 then m.enumFail p e enBadDesc
    else (m.fs (PRT_DEV p e.sub) PRT_DEV_prep (leAt e.desc 4 2)).enumWake p { e with info := d.take 32 }
  | 9 => m.enumSlots p e
  | _ => m

/-- The slot copy has been made: the device is READY (R138, R625). The descriptor of an external hub is read then (R153). -/
def Mach.enumReady (m : Mach) (p : Nat) (e : EnumRun) : Mach :=
  let m := m.setPort p { m.port p with enum := none }
  let m := m.fs (PRT_DEV p e.sub) PRT_DEV_state (if e.isHub then dHub else dReady)
  let m := m.enumMark p e enOk
  let pad := fun (n : Nat) (l : List Byte) => l ++ List.replicate (n - l.length) 0
  let m := m.portEvent 0x03 p e.sub (pad 16 e.desc ++ pad 32 e.info ++ m.rgBytes (PRT_DEV p e.sub))
  if e.isHub then
    let m := (m.fs (PRT_STAT p) PRT_STAT_hub_tier 1).setPort p { m.port p with ttMulti := e.multiTt }
    (m.ctlAdd p { sub := 0, addr := e.addr, setup := setupBytes 0xA0 6 0x2900 0 255, what := .hubDesc }).enumNext p
  else m.enumNext p

/-- The slot copy of a port serves an enumeration that waits for it (R146, R625). -/
def Mach.enumCopied (m : Mach) (p : Nat) : Mach :=
  match (m.port p).enum with
  | some e => if e.step ≠ 10 then m else if e.applied then m.enumReady p e else m.writeSlots p e
  | none => m

/-! ### The external hub (R136, R153) -/

/-- Its hub descriptor: think time; then each of its ports is powered. (PRESUMED, log 52) -/
def Mach.hubDescIn (m : Mach) (p : Nat) (d : List Byte) : Mach :=
  let m := m.setPort p { m.port p with ttThink := 8 * (leAt d 3 2 / 32 % 4 + 1) }
  forEach ((upTo (dByte d 2)).map (· + 1)) (fun n m => m.hubReq p 3 8 n) m

/-- It reports port changes (R136): the status of each of ports 1-7 that changed is read. -/
def Mach.hubChange (m : Mach) (p : Nat) (bytes : List Byte) : Mach :=
  forEach [1, 2, 3, 4, 5, 6, 7] (fun n m => if bitN (leNat bytes) n then m.hubAsk p n else m) m

/-- The status of a port of the external hub (R136): its changes are acknowledged, a connection change detaches what was there
and attaches what is, and the end of the reset of step 0x01 gives the speed. (PRESUMED, log 52) -/
def Mach.hubPortIn (m : Mach) (p n : Nat) (d : List Byte) : Mach :=
  let st := leAt d 0 2
  let ch := leAt d 2 2
  let m := forEach ((upTo 5).filter (bitN ch)) (fun b m => m.hubReq p 1 (16 + b) n) m
  if bitN ch 0 then
    let m := m.detachOne p n
    let m := if bitN st 0 then
        let m := m.attachAt p n
        m.setPort p { m.port p with waitEnum := (m.port p).waitEnum ++ [n] }
      else m
    m.enumNext p
  else match (m.port p).enum with
    | some e =>
      if e.sub = n ∧ e.step = 1 ∧ bitN ch 4 = true then
        m.enumSpeed p e (if bitN st 9 then 1 else if bitN st 10 then 3 else 2)
      else m
    | none => m

end Sys2Proof.Machine
end

