-- ==== Sys2Proof/Machine/SchedOps.lean ====
section
/-! DEFINITION. The port engine's schedule: which slot entries are due and in what order, when an attempt may start, the
payload it carries, and how a transaction ends (R142-R155, R177, R208, R217). USB 2.0 packet lengths and turnarounds are
taken from that standard (log entry). -/

namespace Sys2Proof.Machine
open Reg

/-! ### Times on the cable (R150) -/

/-- Bits of a packet of `n` bytes from PID to CRC: SYNC, bytes, EOP, with maximum bit stuffing. (PRESUMED, log 53) -/
def packetBits (hs : Bool) (n : Nat) : Nat := (((if hs then 32 else 8) + 8 * n + (if hs then 8 else 3)) * 7 + 5) / 6

/-- Bit times as ns, rounded up. (PRESUMED, log 53) -/
def bitsNs (hs : Bool) (bits : Nat) : Nat := if hs then (bits * 25 + 11) / 12 else (bits * 250 + 2) / 3

/-- The bound of a transaction with `n` data bytes: token, data and handshake, and two turnarounds. (PRESUMED, log 53) -/
def txBound (hs : Bool) (n : Nat) : Nat :=
  bitsNs hs (packetBits hs 3 + packetBits hs (n + 3) + packetBits hs 1 + (if hs then 384 else 15))

/-! ### Items -/

/-- Items of a pipe that wait, in order of arrival (R151). -/
def Port.pipeItems (x : Port) (pipe : Nat) : List Item := x.items.filter (fun i => i.pipe == pipe && !x.onWire i)

/-- The earlier of two items by effective deadline, the first where they tie. -/
def earlier (a b : Item) : Item := if stampLt b.eff a.eff then b else a

/-- The item of a pipe with the earliest effective deadline. -/
def Port.headItem (x : Port) (pipe : Nat) : Option Item :=
  match x.pipeItems pipe with
  | [] => none
  | i :: l => some (l.foldl earlier i)

/-- Fields of a work item (R74). -/
def itemHandle (b : List Byte) : Nat := leAt b 0 2
def itemTime (b : List Byte) : Nat := leAt b 8 8
def itemDl (b : List Byte) : Nat := leAt b 16 3
def itemBody (b : List Byte) : Nat := leAt b 20 2

/-- The playout pipe of a sub-address (R142). -/
def Mach.playPipe (m : Mach) (p sub : Nat) : Option Nat :=
  (m.portPipes p).find? (fun i => m.fg (pcW0 i) pcPlay == 1 && m.fg (pcW1 i) pcSub == sub)

/-- The anchor of commit time T for a module (R46, R149): frame, microframe and offset; e is the launch error fixed for the
SOF named, and behind a hub includes PRT_SOFCOMP.delay. -/
def Mach.anchor (m : Mach) (p sub t : Nat) (hs : Bool) : List Byte :=
  let grid := if hs then 125000 else 1000000
  let e : Int := sofError p (t / grid * grid) + (if sub = 0 then 0 else m.fg (PRT_SOFCOMP p) PRT_SOFCOMP_delay)
  let frame := t / 1000000 % 2048
  let micro := if hs then t % 1000000 / 125000 else 0
  let off : Int := (t % grid : Nat) - e
  leBytes 2 (frame + micro * 2048) ++ leBytes 4 (twos 32 off)

/-- The payload of an item for an attempt (R177). -/
def Mach.payload (m : Mach) (p pipe : Nat) (b : List Byte) : List Byte :=
  m.anchor p (m.fg (pcW1 pipe) pcSub) (itemTime b) (m.fg (pcW0 pipe) pcSpeed == 3) ++ slice b 2 6 ++ slice b 24 (itemBody b + 4)

/-! ### Due entries -/

/-- A slot entry is due in a microframe (R145). -/
def slotDue (mf : Nat) (w : Word) : Bool :=
  getF w slValid == 1 && decide (getF w slIval ≤ 8) && mf % 2 ^ getF w slIval == getF w slPhase

/-- A slot entry's word. -/
def Mach.slotWord (m : Mach) (p i : Nat) : Word := m.rg (slotActive p i)

/-- The pipe of an entry. -/
def Mach.slotPipe (m : Mach) (p i : Nat) : Nat := getF (m.slotWord p i) slPipe

/-- Entry `i` goes before entry `j` (R148): entries with items first, by effective deadline, then pipe; the others in entry
order. -/
def Mach.slotBefore (m : Mach) (p i j : Nat) : Bool :=
  match (m.port p).headItem (m.slotPipe p i), (m.port p).headItem (m.slotPipe p j) with
  | some a, some b => stampLt a.eff b.eff || (!stampLt b.eff a.eff && decide (m.slotPipe p i < m.slotPipe p j))
  | some _, none => true
  | none, some _ => false
  | none, none => decide (i < j)

/-- Put an entry into its place. -/
def Mach.slotInsert (m : Mach) (p i : Nat) : List Nat → List Nat
  | [] => [i]
  | j :: l => if m.slotBefore p j i then j :: m.slotInsert p i l else i :: j :: l

/-- The due entries of a microframe in the order of R148. -/
def Mach.slotOrder (m : Mach) (p mf : Nat) : List Nat :=
  ((upTo 32).filter (fun i => slotDue mf (m.slotWord p i))).foldl (fun l i => m.slotInsert p i l) []

/-! ### Attempts -/

/-- The full-speed bus time that a split transaction takes behind its translator: the transaction and the think time
(R153). (DEDUCED, log 53) -/
def Mach.ttNs (m : Mach) (p n : Nat) : Nat := txBound false n + bitsNs false (m.port p).ttThink

/-- The translator that serves a sub-address: the hub's one, or its port's own (R153). -/
def Mach.ttKey (m : Mach) (p sub : Nat) : Nat := if (m.port p).ttMulti then sub else 0

/-- The port runs at high speed. -/
def Mach.portHs (m : Mach) (p : Nat) : Bool := m.fg (PRT_STAT p) PRT_STAT_speed == 3

/-- Periodic transactions end by this time (R148): 80 % of a high-speed microframe, 90 % of a full-speed frame. -/
def Mach.periodicEnd (m : Mach) (p mf : Nat) : Nat :=
  if m.portHs p then mf * 125000 + 100000 else mf / 8 * 1000000 + 900000

/-- What an entry would start: its data length and, for playout, its item; none where there is nothing to send, where the
report queue has no room (R208), or where the attempt could end at or after the effective deadline (R150). -/
def Mach.slotPlan (m : Mach) (p i mf t : Nat) : Option (Nat × Option Item) :=
  let pipe := m.slotPipe p i
  let sub := m.fg (pcW1 pipe) pcSub
  let mps := m.fg (pcW1 pipe) pcMps
  let cs := getF (m.slotWord p i) slCs
  if m.fg (pcW0 pipe) pcPort != p || m.pipeSt pipe != pipeActive || m.devSt p sub < dReady
      || (m.port p).txs.any (fun x => x.pipe == pipe) then none
  else if m.fg (pcW0 pipe) pcPlay == 1 then
    match (m.port p).headItem pipe with
    | some it =>
      let n := 16 + itemBody it.bytes
      let fin := if cs = 0 then t + txBound (m.portHs p) n else (mf + 2 + cs) * 125000
      if stampLt (stamp fin) it.eff then some (n, some it) else none
    | none => none
  else if m.fg (pcW0 pipe) pcDir == 1 && m.fg (pcW0 pipe) pcType == 3 then
    if m.devSt p sub == dHub || m.qRoom p (mps + 8) then some (mps, none) else none
  else none

/-- An attempt fits (R148): on the port's own bus, and for a split on the full-speed bus behind its translator. -/
def Mach.slotFits (m : Mach) (p i n t : Nat) : Bool :=
  let x := m.port p
  let pipe := m.slotPipe p i
  decide (t + txBound (m.portHs p) n ≤ m.periodicEnd p x.mf)
    && (getF (m.slotWord p i) slCs == 0
        || decide (spGet 0 x.ttUsed (m.ttKey p (m.fg (pcW1 pipe) pcSub)) + m.ttNs p n ≤ 900000))

/-- An item whose parity fails as it is read is discarded (R23, R152). -/
def Mach.dropUpset (m : Mach) (p : Nat) (it : Item) : Mach :=
  ((m.setPort p { m.port p with items := (m.port p).items.erase it }).countDrop p 1 7).raise fBufParity p

/-- Start the entries of a microframe that fit, in order, from time `t` (R148): a transaction takes the wire until it ends;
a start-split leaves it free again (R153). From the first that does not fit, what has something to send is carried. -/
def Mach.runSlots : Nat → Nat → Nat → Mach → Mach
  | 0, _, _, m => m
  | k + 1, p, t, m =>
    let x := m.port p
    match x.todo with
    | [] => m
    | i :: l =>
      let pipe := m.slotPipe p i
      let cs := getF (m.slotWord p i) slCs
      match m.slotPlan p i x.mf t with
      | none => runSlots k p t (m.setPort p { x with todo := l })
      | some (n, it) =>
        if !m.slotFits p i n t then
          m.setPort p { x with late := (i :: l).filter (fun j => (m.slotPlan p j x.mf t).isSome) }
        else match it.filter (·.upset) with
        | some bad => runSlots k p t (m.dropUpset p bad)
        | none =>
          let sub := m.fg (pcW1 pipe) pcSub
          let data := match it with | some it => m.payload p pipe it.bytes | none => []
          let tx : UsbTx := { pipe := pipe, item := it.map (·.bytes), cs := cs, csAt := x.mf + 2 }
          let dest := [m.fg (pcW0 pipe) pcAddr, m.fg (pcW0 pipe) pcEp, m.fg (pcW0 pipe) pcTog]
          if cs = 0 then
            (m.emit .portTx ([p, if it.isSome then 1 else 2] ++ dest) data).setPort p { x with todo := l, tx := some tx }
          else
            let used := spSet 0 x.ttUsed (m.ttKey p sub) (spGet 0 x.ttUsed (m.ttKey p sub) + m.ttNs p n)
            runSlots k p (t + txBound (m.portHs p) n)
              ((m.emit .portTx ([p, 3] ++ dest ++ m.ttFor p sub) data).setPort p { x with todo := l, splits := x.splits ++ [tx], ttUsed := used })

/-- Complete-splits of a microframe go out first (R153). -/
def Mach.sendCsplits (m : Mach) (p mf : Nat) : Mach :=
  forEach ((m.port p).splits.filter (fun x => x.csAt == mf)) (fun x m =>
    m.emit .portTx ([p, 4, m.fg (pcW0 x.pipe) pcAddr, m.fg (pcW0 x.pipe) pcEp, m.fg (pcW0 x.pipe) pcTog]
      ++ m.ttFor p (m.fg (pcW1 x.pipe) pcSub))) m

/-- The items that would be sent next on some pipes suffer an upset in their buffer (R23). -/
def Mach.upsetItems (m : Mach) (p : Nat) (pipes : List Nat) : Mach :=
  forEach pipes (fun i m =>
    match (m.port p).headItem i with
    | some it => m.setPort p { m.port p with items := (m.port p).items.map (fun j => if j == it then { j with upset := true } else j) }
    | none => m) m

/-- A microframe starts (R148); on a full-speed port the unit is the frame. What did not fit, or has not had its turn and
still has something to send, is carried ahead and counted; a due entry still carried is skipped once and counted. Control
transfers follow the periodic work. -/
def Mach.microframe (m : Mach) (p : Nat) (upset : List Nat) (t : Nat) : Mach :=
  let m := (m.at_ t).upsetItems p upset
  let hs := m.portHs p
  if !m.issuing p || t % (if hs then 125000 else 1000000) != 0 then m
  else
    let mf := t / 125000
    let x := m.port p
    let left := x.todo.filter (fun i => x.late.contains i || (m.slotPlan p i mf t).isSome)
    let due := m.slotOrder p mf
    let skipped := due.filter (fun i => left.contains i)
    let m := m.inc (PRT_SLOT_OVR p) PRT_SLOT_OVR_count (left.length + skipped.length)
    let used := if mf % 8 = 0 then [] else x.ttUsed
    let m := m.setPort p { x with todo := left ++ due.filter (fun i => !left.contains i), mf := mf, late := [], ttUsed := used }
    let m := (m.sendCsplits p mf).enumAgain p
    if x.tx.isSome then m else (m.runSlots 64 p (t + bitsNs hs (packetBits hs 3))).asyncRun p

/-! ### Items arriving and expiring -/

/-- Discard an item that has just arrived (R152). -/
def Mach.dropNew (m : Mach) (p reason : Nat) : Mach :=
  let m := m.countDrop p 1 reason
  if reason = 1 then m.raise fDeadlineMiss (0x100 + p)
  else if reason = 7 then m.raise fBufParity p
  else if reason = 8 then m.raise fXbarMisroute p
  else m

/-- The effective deadline of an item (R149). (DEDUCED, log 52) -/
def Mach.effective (m : Mach) (p sub : Nat) (b : List Byte) : Nat :=
  stampMin (itemDl b) (stamp ((itemTime b + 2 ^ 64 - m.fg (PRT_DEV p sub) PRT_DEV_prep * 1000) % 2 ^ 64))

/-- A work item reaches a port engine (R149, R151, R152). While a queue of the port is full, and while its domain is not ON
(R526), the crossbar holds it. (DEDUCED, log 52) -/
def Mach.itemArrive (m : Mach) (p : Nat) (b : List Byte) (parityOk : Bool) (t : Nat) : Mach :=
  let m := m.at_ t
  let h := itemHandle b
  let sub := h / 4 % 8
  let st := m.pst p
  let pipe := if m.devSt p sub == dReady then m.playPipe p sub else none
  let eff := m.effective p sub b
  let here := h / 2048 == m.node && h / 32 % 64 == p
  let reason :=
    if !parityOk then 7
    else if !here then 8
    else if !m.isDel p then 6
    else if m.fg FLT_STAT FLT_STAT_stop_playout == 1 then 5
    else if st == pSusp || st == pResuming then 3
    else match pipe with
      | none => 2
      | some i => if m.pipeSt i != pipeActive then 4 else if dlPassed m.ctime eff then 1 else 0
  if m.itemsFull p || !m.domOn (portDom p) then m
  else
    let m := (m.fs (PRT_STAT p) PRT_STAT_playing 1).setPort p { m.port p with lastItem := m.ctime }
    if reason ≠ 0 then m.dropNew p reason
    else
      match pipe with
      | some i =>
        let a := m.anchor p sub (itemTime b) (m.fg (pcW0 i) pcSpeed == 3)
        m.setPort p { m.port p with items := (m.port p).items ++ [{ bytes := b, eff := eff, pipe := i, anchor := a }] }
      | none => m

/-- Effective deadlines pass: what is not on the wire is discarded (R20, R150). -/
def Mach.deadlinePass (m : Mach) (p t : Nat) : Mach :=
  let m := m.at_ t
  let x := m.port p
  let k := (x.items.filter (fun i => dlPassed m.ctime i.eff && !x.onWire i)).length
  let m := m.dropItems p (fun i => dlPassed m.ctime i.eff) 1
  if k = 0 then m else m.raise fDeadlineMiss (0x100 + p)

/-! ### The end of a transaction -/

/-- Remove the first item with the bytes of a transaction. -/
def Port.takeItem (x : Port) (pipe : Nat) (b : List Byte) : Port :=
  match x.items.find? (fun i => i.pipe == pipe && i.bytes == b) with
  | some i => { x with items := x.items.erase i }
  | none => x

/-- A pipe halts (R143): its items are discarded (R152), halt_ev sets, an event goes to the host, and firmware asks for
CLEAR_FEATURE ENDPOINT_HALT where the pipe served its device and is not endpoint 0. -/
def Mach.pipeHalt (m : Mach) (p pipe : Nat) : Mach :=
  let live := m.pipeSt pipe == pipeActive && m.fg (pcW0 pipe) pcType != 0
  let m := (m.fs (pcW0 pipe) pcState pipeHalted).dropItems p (fun i => i.pipe == pipe) 4
  let m := m.ev (PRT_STAT p) PRT_STAT_halt_ev
  let m := m.portEvent 0x07 p (m.fg (pcW1 pipe) pcSub) (leBytes 2 pipe ++ [BitVec.ofNat 8 (m.fg (pcW0 pipe) ⟨16, 8⟩), 0])
  let ep := m.fg (pcW0 pipe) pcEp + 128 * m.fg (pcW0 pipe) pcDir
  if !live then m
  else m.ctlAdd p { sub := m.fg (pcW1 pipe) pcSub, addr := m.fg (pcW0 pipe) pcAddr, setup := setupBytes 2 1 0 ep 0, what := .clearHalt pipe }

/-- Every pipe of a port enters HALTED (R144). (DEDUCED, log 52) -/
def Mach.haltPipes (m : Mach) (p : Nat) : Mach :=
  forEach ((m.portPipes p).filter (fun i => m.pipeSt i != pipeHalted)) (fun i m => m.pipeHalt p i) m

/-- A pipe's endpoint halt is cleared: it is ACTIVE again with toggle DATA0 (R143). -/
def Mach.haltCleared (m : Mach) (p pipe : Nat) : Mach :=
  if m.pipeSt pipe != pipeHalted then m
  else
    let m := (m.fs (pcW0 pipe) pcState pipeActive).fs (pcW0 pipe) pcTog 0
    m.setPort p { m.port p with errs := spDel (m.port p).errs pipe }

/-- A report goes into the port's report queue behind its prefix (R217); the IN token was sent with room for it (R208), and what
does not fit does not complete (R213). -/
def Mach.reportIn (m : Mach) (p pipe : Nat) (bytes : List Byte) : Mach :=
  let sub := m.fg (pcW1 pipe) pcSub
  if !m.qRoom p (8 + bytes.length) then m
  else m.qPut p (evPrefix (m.handle p sub) (m.devGen p sub) 0x01 (m.ctime % 2 ^ 32) ++ bytes)

/-- A transaction error (R143). -/
def Mach.txError (m : Mach) (p pipe : Nat) (play : Bool) : Mach :=
  let m := m.inc (PRT_XERR p) PRT_XERR_count
  if play then m
  else
    let n := spGet 0 (m.port p).errs pipe + 1
    let m := m.setPort p { m.port p with errs := spSet 0 (m.port p).errs pipe n }
    if n < 3 ∨ m.pipeSt pipe ≠ pipeActive then m else m.pipeHalt p pipe

/-- No error in a row any more. -/
def Mach.txGood (m : Mach) (p pipe : Nat) : Mach := m.setPort p { m.port p with errs := spDel (m.port p).errs pipe }

/-- The toggle advances with a handshake (R142). -/
def Mach.flipTog (m : Mach) (pipe : Nat) : Mach := m.fs (pcW0 pipe) pcTog (1 - m.fg (pcW0 pipe) pcTog)

/-- What a result does to the pipe and its item (R142, R143). -/
def Mach.txResult (m : Mach) (p : Nat) (tx : UsbTx) (res : TxResult) : Mach :=
  let pipe := tx.pipe
  let play := tx.item.isSome
  match res with
  | .ack =>
    let m := (m.txGood p pipe).flipTog pipe
    match tx.item with
    | some b => m.setPort p ((m.port p).takeItem pipe b)
    | none => m
  | .nak => m.txGood p pipe
  | .stall => (m.txGood p pipe).pipeHalt p pipe
  | .data tog bytes =>
    let m := m.txGood p pipe
    if b2n tog != m.fg (pcW0 pipe) pcTog then m
    else
      let m := m.flipTog pipe
      let sub := m.fg (pcW1 pipe) pcSub
      if m.pipeSt pipe != pipeActive then m
      else if m.devSt p sub == dHub then m.hubChange p bytes
      else if m.devSt p sub == dReady then m.reportIn p pipe bytes
      else m
  | .nyet | .error => m.txError p pipe play

/-- An item whose attempt was on the wire when it had to go, and was not acknowledged, goes now (R20, R21). -/
def Mach.sweepItems (m : Mach) (p : Nat) : Mach :=
  let m := if m.fg FLT_STAT FLT_STAT_stop_playout == 1 then m.dropItems p (fun _ => true) 5 else m
  m.deadlinePass p m.ctime

/-- A transaction ends (R142, R143, R153, R155, R156). A NYET of a split is tried again in the next listed microframe. What
no transaction asked for is discarded, and counted where its address is in quarantine; every error counts. -/
def Mach.txDone (m : Mach) (p pipe : Nat) (res : TxResult) (t : Nat) : Mach :=
  let m := m.at_ t
  let x := m.port p
  match x.txs.find? (fun y => y.pipe == pipe) with
  | none =>
    if m.fg (pcW0 pipe) pcPort == p && x.quar.contains (m.fg (pcW0 pipe) pcAddr) then
      let m := m.inc (PRT_XERR p) PRT_XERR_count
      if m.pipeSt pipe == pipeClosing then m.fs (pcW0 pipe) pcState pipeClosed else m
    else m
  | some tx =>
    if res = .nyet ∧ 1 < tx.cs then
      let again := { tx with cs := tx.cs - 1, csAt := t / 125000 + 1 }
      m.setPort p { x with splits := x.splits.map (fun y => if y.pipe == pipe then again else y) }
    else
      let m := m.setPort p { x with tx := x.tx.filter (fun y => y.pipe != pipe), splits := x.splits.filter (fun y => y.pipe != pipe) }
      let m := if m.pipeSt pipe == pipeClosing then
          let late := x.quar.contains (m.fg (pcW0 pipe) pcAddr) || res == .error || res == .nyet
          (if late then m.inc (PRT_XERR p) PRT_XERR_count else m).fs (pcW0 pipe) pcState pipeClosed
        else m.txResult p tx res
      let m := m.sweepItems p
      if m.issuing p && (m.port p).tx.isNone then (m.runSlots 64 p t).asyncRun p else m

end Sys2Proof.Machine
end

