-- ==== Sys2Proof/Machine/RoleOps.lean ====
section
/-! DEFINITION. Roles of a port (R132-R134, R340), the actions of PRT_CTRL (R144, R157, R164) and resume (R158). -/

namespace Sys2Proof.Machine
open Reg

/-! ### Roles -/

/-- Why a role change is refused (R133, R134), none where it is accepted. -/
def Mach.roleRefusal (m : Mach) (p new : Nat) : Option Nat :=
  if new == roleHub && m.logical p == 0 then some stBadState
  else if (m.port p).roleChange.isSome then some stBusy
  else if m.isDel p && new != roleDel && m.fg (PRT_STAT p) PRT_STAT_playing == 1 then some stBusy
  else none

/-- Step 3: where the port goes (R134, R340). -/
def Mach.roleEnter (m : Mach) (p : Fin 48) (was new : Nat) : Mach :=
  let here := connState was
  if new == roleNone then m.vbusOff p
  else if new == roleHub then
    let m := if here then (m.setPst p.val pConn).portChange p.val 0 else m
    if (m.port p.val).powerReq then m else m.vbusOff p
  else if here then m.connectPort p.val
  else m

/-- A role change commits (R134): steps 2 and 3. What was on the wire has completed or timed out. -/
def Mach.roleCommit (m : Mach) (p : Fin 48) (new : Nat) : Mach :=
  let was := m.pst p.val
  let m := m.setPort p.val { m.port p.val with roleChange := none, tx := none, splits := [], todo := [], late := [], testMode := 0, resume := 0 }
  let m := if m.isDel p.val then (m.detachAll p.val).closePipes p.val (fun _ => true)
    else if m.isHub p.val then (if connState was then m.portChange p.val 0 else m).dropSteer p.val
    else m
  ((m.fs (PRT_ROLE p.val) PRT_ROLE_role new).setUncom (16 + p.val) true).roleEnter p was new

/-- A role change begins (R134): the engine or the repeater stops; a port without a role has nothing to stop. -/
def Mach.roleStart (m : Mach) (p : Fin 48) (new : Nat) (c : Option Cmd) : Mach :=
  if m.role p.val == roleNone || m.role p.val == new then
    let m := if m.role p.val == new then m.setUncom (16 + p.val) true else m.roleCommit p new
    match c with
    | some c => m.reply c stOk
    | none => m
  else
    let m := m.setPort p.val { m.port p.val with roleChange := some (new, c) }
    match c with
    | some c => m.startRun { cmd := c }
    | none => m

/-! ### PRT_CTRL (R164): the bits act on a delegated port only -/

/-- A port reset takes (R128, R144, R160), in either role. (DEDUCED, log 52) -/
def Mach.canReset (m : Mach) (p : Nat) : Bool :=
  m.role p != roleNone && !(m.port p).katHold && (m.pst p == pEnabled || m.pst p == pDisabled || m.pst p == pError)

/-- A reset of a hub-mode port is driven (R124, R128). -/
def Mach.resetHubPort (m : Mach) (p : Nat) : Mach := (m.setPst p pReset).emit .portBus [p, 0]

/-- A port reset (R144): pipes close, addresses enter quarantine, enumeration from step 0x01. Modules behind an external
hub are gone with it. (DEDUCED, log 52) -/
def Mach.resetPort (m : Mach) (p : Nat) : Mach :=
  let m := (forEach [1, 2, 3, 4, 5, 6, 7] (fun n m => m.detachOne p n) m).fs (PRT_STAT p) PRT_STAT_hub_tier 0
  let m := (m.closeSub p 0).closePipes p (fun _ => true)
  let m := m.setPort p { m.port p with todo := [], late := [], waitEnum := [] }
  let m := m.wr (PRT_DEV p 0) (setF (setF 0 PRT_DEV_gen (m.devGen p 0)) PRT_DEV_state dEnum)
  m.enumReset p 0 1

/-- PRT_CTRL.reset. -/
def Mach.prtReset (m : Mach) (p : Nat) : Mach := if m.isDel p && m.canReset p then m.resetPort p else m

/-- PRT_CTRL.suspend (R157). -/
def Mach.prtSuspend (m : Mach) (p : Nat) : Mach :=
  if m.isDel p && m.pst p == pEnabled then (m.setPst p pSusp).emit .portBus [p, 2] else m

/-- Resume drive begins for a reason: 1 software, 2 remote. -/
def Mach.driveResume (m : Mach) (p reason : Nat) : Mach :=
  let m := (m.setPst p pResuming).emit .portBus [p, 1]
  m.setPort p { m.port p with resume := reason, collided := false }

/-- PRT_CTRL.resume (R157). -/
def Mach.prtResume (m : Mach) (p : Nat) : Mach :=
  if m.isDel p && m.pst p == pSusp then m.driveResume p 1 else m

/-- PRT_CTRL.disable: pipes close and addresses enter quarantine; the entries empty. (DEDUCED, log 52) -/
def Mach.prtDisable (m : Mach) (p : Nat) : Mach :=
  if m.isDel p && m.pst p == pEnabled then
    let m := (forEach [1, 2, 3, 4, 5, 6, 7] (fun n m => m.detachOne p n) m).fs (PRT_STAT p) PRT_STAT_hub_tier 0
    let m := ((m.closeSub p 0).closePipes p (fun _ => true)).emptyDev p 0
    (m.setPort p { m.port p with todo := [], late := [], waitEnum := [] }).setPst p pDisabled
  else m

/-- A device drives K on a suspended port (R158): it starts a remote-wake resume, or meets a software resume. -/
def Mach.remoteK (m : Mach) (p : Nat) : Mach :=
  if m.pst p == pSusp then m.driveResume p 2
  else if m.pst p == pResuming && (m.port p).resume == 1 then m.setPort p { m.port p with collided := true }
  else m

/-- The domain of a port in which a module drove K is ON again (R159): the resume counts as a remote wake. -/
def Mach.wakeResume (m : Mach) (p : Nat) : Mach :=
  if !(m.port p).kWake then m
  else
    let m := m.setPort p { m.port p with kWake := false }
    if m.pst p == pSusp then m.driveResume p 2 else m

/-- The resume drive ends (R124, R158, R165, R167): ENABLED, the resume is recorded, and on a delegated port reported. -/
def Mach.resumeDone (m : Mach) (p sub : Nat) : Mach :=
  if m.pst p != pResuming then m
  else
    let x := m.port p
    let m := m.setPst p pEnabled
    let m := m.setPort p { m.port p with resume := 0, collided := false }
    let w := PRT_WAKE p
    let m := ((m.inc w PRT_WAKE_count).fs w PRT_WAKE_reason x.resume).fs w PRT_WAKE_collided (b2n x.collided)
    let m := m.fs w PRT_WAKE_sub (if x.resume == 2 || x.collided then sub else 0)
    let m := m.ev (PRT_STAT p) PRT_STAT_wake_ev
    if m.isDel p then m.portEvent 0x08 p 0 (m.rgBytes w) else m

/-! ### Power requests -/

/-- An on request to a port's switch (R128, R130): only in OFF and POWER_HOLD. (DEDUCED, log 52) -/
def Mach.portOnReq (m : Mach) (p : Fin 48) : Nat × Mach :=
  if m.pst p.val ≤ pHold then
    match m.swOnReq (.vbus p) with
    | (0, m) => (stOk, m.setPst p.val pPowering)
    | r => r
  else (stOk, m)

end Sys2Proof.Machine
end

