-- ==== Sys2Proof/Machine/XbarIn.lean ====
section
/-! DEFINITION. The crossbar's inputs: buffers and multicast (R196, R206), the cells that a block forms and presents (R193-R195,
R208), and the request packets of the DRAM controller (R247). -/

namespace Sys2Proof.Machine
open Reg

/-! ### Entering -/

/-- The distinct buffer places that the cells at an input hold (R196, R206). -/
def Mach.inputCells (m : Mach) (i : Nat) : List XCell :=
  (m.xbr.voq.filter (fun e => e.1 / 256 == i)).foldl
    (fun l e => l ++ e.2.filter (fun c => !l.any (fun d => d.uid == c.uid))) []

/-- Cells of a class held at an input (R228). -/
def Mach.inputCount (m : Mach) (i c : Nat) : Nat := ((m.inputCells i).filter (fun x => x.cls == c)).length

/-- The place that a cell of a class would take (R196): true in the shared pool, none where there is no room. -/
def Mach.cellPlace (m : Mach) (i c : Nat) : Option Bool :=
  let l := m.inputCells i
  if (l.filter (fun x => x.cls == c && !x.shared)).length < 32 then some false
  else if c < 3 ∧ (l.filter (fun x => x.shared)).length < 64 then some true
  else none

/-- A multicast group's port mask (R206). -/
def Mach.mcMask (m : Mach) (g : Nat) : Nat := (m.rg (0x2A0000 + 8 * g)).toNat + (m.rg (0x2A0004 + 8 * g)).toNat * 2 ^ 32

/-- The outputs that the first cell of a packet names (R206). -/
def Mach.cellOutputs (m : Mach) (c : CellIn) : List Nat :=
  if !c.mcast then [c.dst.toNat] else (upTo 57).filter (fun o => bitN (m.mcMask c.mgroup.toNat) o)

/-- The cell as a buffer holds it for one output. -/
def cellFor (i uid : Nat) (shared : Bool) (c : CellIn) (o : Nat) : XCell :=
  { dst := o, src := i, cls := c.cls.val, first := c.first, last := c.last, valid := c.valid.val + 1, poison := c.poison, noDl := c.noDl,
    dl := c.dl.toNat, epoch := c.epoch.val, group := c.group.val, mcast := c.mcast, mgroup := c.mgroup.toNat, rpt := c.rpt,
    data := c.data, uid := uid, shared := shared }

/-- A cell enters one virtual output queue, unless the rest of its packet is being discarded there. -/
def Mach.enqueue (m : Mach) (c : XCell) : Mach :=
  let k := voqKey c.src c.dst c.cls
  if m.xbr.discard.contains k then
    if c.last then { m with xbr := { m.xbr with discard := m.xbr.discard.filter (· != k) } } else m
  else m.setVoq c.src c.dst c.cls (m.voq c.src c.dst c.cls ++ [c])

/-- Record the most recent crossbar error (R227): kind 1 parity, 2 misroute, 3 lock timeout. -/
def Mach.xbrErr (m : Mach) (o i c kind : Nat) : Mach :=
  m.wr XBR_LAST_ERR (BitVec.ofNat 32 (o * 2 ^ 26 + i * 2 ^ 20 + c * 2 ^ 18 + kind * 2 ^ 16))

/-- A cell addressed to a reserved port is not forwarded (R18): the packet is misrouted, reported with its first cell, and an
item ends with its last. -/
def Mach.cellStray (m : Mach) (i : Nat) (c : CellIn) : Mach :=
  let m := if c.last then m.flightReturn i c.dst.toNat c.cls.val c.group.val c.epoch.val else m
  if !c.first then m
  else (((m.xbrErr c.dst.toNat i c.cls.val 2).inc XBR_MISR_CNT XBR_MISR_CNT_count).ev XBR_STAT XBR_STAT_misroute_ev).raise fXbarMisroute c.dst.toNat

/-- The packet that is still arriving at an input in a class. -/
def Mach.openOf (m : Mach) (i c : Nat) : Option OpenPk := spGet none m.xbr.openPk (i * 4 + c)

/-- Two cells carry the fields that every cell of a packet shares (R194). -/
def sameTag (a b : CellIn) : Bool :=
  a.dst == b.dst && a.cls == b.cls && a.noDl == b.noDl && a.dl == b.dl && a.epoch == b.epoch && a.group == b.group
    && a.mcast == b.mcast && a.mgroup == b.mgroup && a.rpt == b.rpt

/-- A cell begins or continues its packet as R194 lays a packet out: the shared fields, at most 32 cells, every cell but the
last full. -/
def Mach.cellFits (m : Mach) (i : Nat) (c : CellIn) : Bool :=
  (c.last || c.valid.val == 63) &&
  (match m.openOf i c.cls.val with
   | none => c.first
   | some p => !c.first && sameTag c p.head && (c.last || decide (p.cells + 1 < 32)))

/-- A cell enters an input (R196, R206): the first cell of a packet fixes its outputs. -/
def Mach.cellEnter (m : Mach) (i : Nat) (c : CellIn) (shared : Bool) : Mach :=
  let old := m.openOf i c.cls.val
  let outs := match old with | some p => p.outs | none => m.cellOutputs c
  let uid := m.xbr.nextUid
  let next := if c.last then none else some { head := c, cells := (match old with | some p => p.cells + 1 | none => 1), outs := outs }
  let m := { m with xbr := { m.xbr with nextUid := uid + 1, openPk := spSet none m.xbr.openPk (i * 4 + c.cls.val) next } }
  if outs.any (fun o => decide (57 ≤ o)) then m.cellStray i c else forEach outs (fun o m => m.enqueue (cellFor i uid shared c o)) m

/-- The cells that the block at an input presents in a class. -/
def Mach.feed (m : Mach) (i c : Nat) : List CellIn := spGet [] m.xbr.feed (i * 4 + c)

/-- Replace them. -/
def Mach.setFeed (m : Mach) (i c : Nat) (l : List CellIn) : Mach :=
  { m with xbr := { m.xbr with feed := spSet [] m.xbr.feed (i * 4 + c) l } }

/-- Presented cells enter in their order while there is room and the crossbar is ON (R16, R196, R208). No block forms a cell
that does not fit its packet, and none such enters. -/
def Mach.feedIn (i c : Nat) : Nat → Mach → Mach
  | 0, m => m
  | k + 1, m =>
    match m.feed i c with
    | [] => m
    | x :: l =>
      if !m.domOn 3 then m
      else if !m.cellFits i x then Mach.feedIn i c k (m.setFeed i c l)
      else match m.cellPlace i c with
        | none => m
        | some shared => Mach.feedIn i c k ((m.setFeed i c l).cellEnter i x shared)

/-- What an input's block still presents enters as far as there is room now. -/
def Mach.refeed (m : Mach) (i : Nat) : Mach := forEach (upTo 4) (fun c m => Mach.feedIn i c (m.feed i c).length m) m

/-- A block presents a cell at its input (R193): without room the cell waits there (R208). -/
def Mach.present (m : Mach) (i : Nat) (c : CellIn) : Mach :=
  let m := m.setFeed i c.cls.val (m.feed i c.cls.val ++ [c])
  Mach.feedIn i c.cls.val (m.feed i c.cls.val).length m

/-- A cell of the block at an input, whose multicast group's entry passes parity or not: a failing entry is reported, and the
packet goes where the entry says (R206, R207). (DESIGN CHOICE, log 37) -/
def Mach.presentOn (m : Mach) (i : Nat) (c : CellIn) (groupOk : Bool) : Mach :=
  (if c.mcast && c.first && !groupOk then m.raise fBufParity i else m).present i c

/-- Input `i` has room in a class for a number of cells beside those it holds and those presented to it (R196, R208, R257). -/
def Mach.roomAt (m : Mach) (i cls cells : Nat) : Bool :=
  let l := m.inputCells i
  let own := 32 - (l.filter (fun x => x.cls == cls && !x.shared)).length
  let pool := if cls < 3 then 64 - (l.filter (fun x => x.shared)).length else 0
  decide (cells ≤ own + pool) && (m.feed i cls).isEmpty

/-! ### Forming packets (R193, R194) -/

/-- The number of ones in the lowest `n` bits. -/
def onesIn (v n : Nat) : Nat := (upTo n).foldl (fun k i => k + v / 2 ^ i % 2) 0

/-- The 64-bit tag of a cell; tag_par makes its number of ones odd (R193). -/
def XCell.tag (c : XCell) : Nat :=
  let t := c.dst * 2 ^ 58 + c.src * 2 ^ 52 + c.cls * 2 ^ 50 + b2n c.first * 2 ^ 49 + b2n c.last * 2 ^ 48 + (c.valid - 1) * 2 ^ 42
    + b2n c.poison * 2 ^ 41 + b2n c.noDl * 2 ^ 40 + c.dl * 2 ^ 16 + c.epoch * 2 ^ 15 + c.group * 2 ^ 11 + b2n c.mcast * 2 ^ 10
    + c.mgroup * 2 ^ 2 + b2n c.rpt * 2
  t + (1 - onesIn t 64 % 2)

/-- The fields that the cells of a formed packet share (R194). -/
structure PkTag where
  dst : Nat
  cls : Nat
  dl : Option Nat := none
  epoch : Nat := 0
  group : Nat := 0
  rpt : Bool := false
  deriving DecidableEq, Repr

/-- A packet's bytes cut into cells (R194); from byte `bad` on they carry poison (R205). -/
def cellsOf (h : PkTag) (bytes : List Byte) (bad : Option Nat) : List CellIn :=
  let n := max 1 ((bytes.length + 63) / 64)
  (upTo n).map (fun k =>
    { dst := BitVec.ofNat 6 h.dst, cls := Fin.ofNat 4 h.cls, first := k == 0, last := k + 1 == n,
      valid := Fin.ofNat 64 (min 64 (bytes.length - 64 * k) - 1),
      poison := (match bad with | some b => decide (b < 64 * (k + 1)) | none => false), noDl := h.dl.isNone,
      dl := BitVec.ofNat 24 (h.dl.getD 0), epoch := Fin.ofNat 2 h.epoch, group := Fin.ofNat 16 h.group, mcast := false, mgroup := 0,
      rpt := h.rpt, data := (bytes.drop (64 * k)).take 64 })

/-- A block forms a packet and presents its cells at its input (R193-R195). -/
def Mach.form (m : Mach) (i : Nat) (h : PkTag) (bytes : List Byte) (bad : Option Nat := none) : Mach :=
  forEach (cellsOf h bytes bad) (fun c m => (m.emit .cell [i, (cellFor i 0 false c c.dst.toNat).tag] c.data).present i c) m

/-- A whey tap. -/
def Mach.tapOf (m : Mach) (n : Nat) : Tap := spGet {} m.tap n

/-- Replace a tap. -/
def Mach.setTap (m : Mach) (n : Nat) (x : Tap) : Mach := { m with tap := spSet {} m.tap n x }

/-- Copies that wait in the taps' buffers are presented at input 56, the lowest tap first, once the cells presented before have
entered (R208, R220). (DEDUCED, log 37) -/
def Mach.tapsFeed (m : Mach) : Mach :=
  forEach (upTo 4) (fun n m =>
    let x := m.tapOf n
    if x.buf.isEmpty || !(m.feed 56 3).isEmpty then m
    else forEach x.buf (fun c m => (m.emit .cell [56, (cellFor 56 0 false c c.dst.toNat).tag] c.data).present 56 c) (m.setTap n { x with buf := [] })) m

/-- A copy joins a tap's buffer of 16 cells; false where it does not fit (R220). -/
def Mach.tapPut (m : Mach) (n : Nat) (cells : List CellIn) : Bool × Mach :=
  let x := m.tapOf n
  if 16 < x.buf.length + cells.length then (false, m) else (true, (m.setTap n { x with buf := x.buf ++ cells }).tapsFeed)

/-- The requester index of a crossbar input (R253). -/
def dramIndex (p : Nat) : Nat := if p = 54 then 0 else if p = 55 then 1 else if 49 ≤ p ∧ p ≤ 52 then p - 47 else if p = 48 then 6 else 7

/-- The header cell of a DRAM request (R247): op and ack, tag, address, length, context. -/
def reqHeader (op : Nat) (ack : Bool) (tag addr len ctx : Nat) : List Byte :=
  [BitVec.ofNat 8 (op + 16 * b2n ack), BitVec.ofNat 8 tag] ++ leBytes 5 addr ++ [0] ++ leBytes 2 len ++ [0, 0] ++ leBytes 4 ctx

/-- A block issues a DRAM request to output 53 (R247): the header cell, and a write's data from the next cell on. -/
def Mach.dramAsk (m : Mach) (src cls op : Nat) (ack : Bool) (tag addr len ctx : Nat) (dl : Option Nat) (data : List Byte) : Mach :=
  let head := reqHeader op ack tag addr len ctx
  (m.emit .dramReq [dramIndex src, op, addr, len, dl.getD 0, tag, ctx] data).form src { dst := 53, cls := cls, dl := dl }
    (if data.isEmpty then head else head ++ List.replicate 48 0 ++ data)

end Sys2Proof.Machine
end

