-- ==== Sys2Proof/Machine/HubOps.lean ====
section
/-! DEFINITION. What several commands do to the hub and the command function: connecting (R332-R336, R347), the state of
both devices, notifications (R362), TTs (R345), steering (R350-R352), resume (R355-R357) and the upstream reset (R367,
R368). -/

namespace Sys2Proof.Machine
open Reg

/-! ### Both devices -/

/-- States of HUB_STAT.state. -/
def uNone : Nat := 0
def uAttached : Nat := 1
def uDefault : Nat := 2
def uAddress : Nat := 3
def uConfigured : Nat := 4
def uSuspended : Nat := 5
def uL1 : Nat := 6

/-- States of CMF_STAT.state. -/
def cDefault : Nat := 0
def cAddress : Nat := 1
def cConfigured : Nat := 2
def cSuspended : Nat := 3
def cL1 : Nat := 4

/-- The hub's state. -/
def Mach.hubSt (m : Mach) : Nat := m.fg HUB_STAT HUB_STAT_state
def Mach.setHubSt (m : Mach) (v : Nat) : Mach := m.fs HUB_STAT HUB_STAT_state v

/-- The command function's state. -/
def Mach.cmfSt (m : Mach) : Nat := m.fg CMF_STAT CMF_STAT_state
def Mach.setCmfSt (m : Mach) (v : Nat) : Mach := m.fs CMF_STAT CMF_STAT_state v

/-- The upstream port is on the bus: its domain is ON and its pull-up connected. -/
def Mach.attached (m : Mach) : Bool := m.domOn 2 && m.fg HUB_STAT HUB_STAT_pullup == 1

/-- The upstream port runs at high speed. -/
def Mach.upHigh (m : Mach) : Bool := m.fg HUB_STAT HUB_STAT_speed == 3

/-- Something the host sends to the upstream port; without a connection nothing arrives. -/
def State.updUp (s : State) (f : Mach → Mach) : Host.Outcome State Fault Refusal := .next { s with m := if s.m.attached then f s.m else s.m }

/-- Answers to the host on an endpoint: data, ACK, NAK, STALL. -/
def Mach.hostData (m : Mach) (ep : Nat) (bytes : List Byte) : Mach := m.emit .upstream [0, ep] bytes
def Mach.hostAck (m : Mach) (ep : Nat) : Mach := m.emit .upstream [1, ep]
def Mach.hostNak (m : Mach) (ep : Nat) : Mach := m.emit .upstream [2, ep]
def Mach.hostStall (m : Mach) (ep : Nat) : Mach := m.emit .upstream [3, ep]

/-! ### Logical ports (R336) -/

/-- Valid entries of the port map, T. -/
def Mach.mapCount (m : Mach) : Nat := ((upTo 48).filter (fun n => m.fg (HUB_PMAP n) HUB_PMAP_valid == 1)).length

/-- The logical port count, L. -/
def Mach.lcount (m : Mach) : Nat := 1 + m.mapCount

/-- The physical port of a logical port from 2 on. -/
def Mach.physOf (m : Mach) (n : Nat) : Option (Fin 48) :=
  if 2 ≤ n ∧ n ≤ 49 ∧ m.fg (HUB_PMAP (n - 2)) HUB_PMAP_valid = 1 then portNo (m.fg (HUB_PMAP (n - 2)) HUB_PMAP_port) else none

/-- The port map obeys R336: its valid entries are contiguous from 0 and name distinct ports. -/
def Mach.mapOk (m : Mach) : Bool :=
  let l := (upTo m.mapCount).map (fun n => m.fg (HUB_PMAP n) HUB_PMAP_port)
  (upTo m.mapCount).all (fun n => m.fg (HUB_PMAP n) HUB_PMAP_valid == 1) && l.all (fun p => decide (p < 48))
    && (upTo l.length).all (fun i => (upTo i).all (fun j => l[i]? != l[j]?))

/-- The hub-mode ports. -/
def Mach.hubPorts (m : Mach) : List (Fin 48) := (List.finRange 48).filter (fun p => m.isHub p.val)

/-! ### Notifications (R362) -/

/-- The flags of byte 0. -/
def Mach.notifyFlags (m : Mach) : Nat :=
  (upTo 5).foldl (fun v i => v + m.fg (QUE_Q_STAT (51 + i)) QUE_Q_STAT_notice * 2 ^ i) 0
    + 32 * m.fg FLT_FIRST FLT_FIRST_valid + 64 * m.fg HUB_WAKE_REASON HUB_WAKE_REASON_pending

/-- The flags are looked at: a masked flag that rises readies a notification; one that waits follows the flags. -/
def Mach.notifyEval (m : Mach) : Mach :=
  let now := m.notifyFlags
  let rose := now &&& (127 - m.cmf.flags % 128) &&& m.fg CMF_NOTIFY CMF_NOTIFY_mask
  let ev := (m.q 51).packets
  let m := { m with cmf := { m.cmf with flags := now } }
  match m.cmf.notif with
  | some (_, k, _, t) => { m with cmf := { m.cmf with notif := some (now, k, ev, t) } }
  | none =>
    if rose = 0 ∨ m.cmfSt < cConfigured then m
    else { m with cmf := { m.cmf with notif := some (now, m.cmf.seq, ev, m.ctime % 2 ^ 32), seq := (m.cmf.seq + 1) % 256 } }

/-! ### Endpoints of the command function -/

/-- An endpoint's toggle returns to DATA0 (R365). -/
def Mach.clearTog (m : Mach) (ep : Nat) : Mach := { m with cmf := { m.cmf with tog := m.cmf.tog.filter (· != ep) } }

/-- A packet moves on an endpoint: its toggle flips. -/
def Mach.flipEp (m : Mach) (ep : Nat) : Mach :=
  { m with cmf := { m.cmf with tog := if m.cmf.tog.contains ep then m.cmf.tog.filter (· != ep) else m.cmf.tog ++ [ep] } }

/-- A partial command on endpoint 0x01 is discarded. -/
def Mach.dropPart0 (m : Mach) : Mach := { m with cmd := { m.cmd with part0 := [], ended := false } }

/-- A stream endpoint: 0 is 0x03, 1 is 0x83. -/
def Mach.strm (m : Mach) (e : Nat) : Strm := if e = 0 then m.cmf.out3 else m.cmf.in83

/-- Replace a stream endpoint. -/
def Mach.setStrm (m : Mach) (e : Nat) (x : Strm) : Mach :=
  if e = 0 then { m with cmf := { m.cmf with out3 := x } } else { m with cmf := { m.cmf with in83 := x } }

/-- A stream endpoint's binding is released (R367, R396). -/
def Mach.unbind (m : Mach) (e : Nat) : Mach := (m.wr (CMF_STREAM e) 0).setStrm e { next := (m.strm e).next }

/-! ### TTs (R345) -/

/-- The TT that serves a logical port: the single one, or its own. -/
def Mach.ttOf (m : Mach) (n : Nat) : Nat := if m.fg HUB_STAT HUB_STAT_multi_tt = 1 then n else 0

/-- The transactions that a TT holds. -/
def Mach.tt (m : Mach) (k : Nat) : List TtTx := spGet [] m.hub.tts k

/-- Replace them. -/
def Mach.setTt (m : Mach) (k : Nat) (l : List TtTx) : Mach := { m with hub := { m.hub with tts := spSet [] m.hub.tts k l } }

/-- Drop the first element that a test picks. -/
def dropFirst {α : Type} (t : α → Bool) : List α → List α
  | [] => []
  | x :: l => if t x then l else x :: dropFirst t l

/-- The first element that a test picks is changed. -/
def mapFirst {α : Type} (t : α → Bool) (f : α → α) : List α → List α
  | [] => []
  | x :: l => if t x then f x :: l else x :: mapFirst t f l

/-- The header of a transaction's packet between port 48 and a port engine (R346); its layout is the model's own. (DESIGN CHOICE, log 66) -/
def ttHead (dev ep : Nat) (isIn : Bool) : List Byte := [BitVec.ofNat 8 dev, BitVec.ofNat 8 (ep + 128 * b2n isIn)]

/-- The data that a transaction has read. -/
def txBytes : Sys2Proof.TxResult → List Byte
  | .data _ bs => bs
  | _ => []

/-- A transaction of a TT ends on its port (R346): its buffer holds the result, which crosses the crossbar to port 48, for the
complete-split. -/
def Mach.ttDone (m : Mach) (p : Nat) (res : Sys2Proof.TxResult) : Mach :=
  let n := m.logical p
  let l := m.tt (m.ttOf n)
  let mine := fun (x : TtTx) => x.port == n && !x.refused && x.res.isNone
  match l.find? mine with
  | none => m
  | some x => (m.setTt (m.ttOf n) (mapFirst mine (fun y => { y with res := some res }) l)).form p { dst := 48, cls := 2 } (ttHead x.dev x.ep x.isIn ++ txBytes res)

/-! ### Steering (R350-R353) -/

/-- A port holds a steering entry. -/
def steerWord (p : Nat) : Word := BitVec.ofNat 32 (2 ^ 31 + p)

/-- The port that the table holds for an address. -/
def Mach.steered (m : Mach) (a : Nat) : Option Nat :=
  let w := (m.rg (steerAddr a)).toNat
  if 2 ^ 31 ≤ w then some (w % 64) else none

/-- A port becomes the owner of address 0 (R351). -/
def Mach.ownZero (m : Mach) (p : Nat) : Mach := if m.upHigh then m.wr (steerAddr 0) (steerWord p) else m

/-! ### Connecting (R332-R336) -/

/-- The upstream area is carved (R347). -/
def Mach.carve (m : Mach) : Mach :=
  let t := m.mapCount
  (m.fs HUB_CARVE HUB_CARVE_tt_count t).fs HUB_CARVE HUB_CARVE_stream_bufs (min 64 ((98304 - 4096 - 1696 * t) / 512))

/-- The pull-up is connected. -/
def Mach.pullUp (m : Mach) : Mach :=
  if m.fg HUB_STAT HUB_STAT_pullup == 1 then m
  else ((m.fs HUB_STAT HUB_STAT_pullup 1).setHubSt uAttached).emit .upBus [1]

/-- The pull-up is removed: the host sees the hub and every device behind it detach. -/
def Mach.pullDown (m : Mach) : Mach :=
  if m.fg HUB_STAT HUB_STAT_pullup == 0 then m
  else
    let m := ((m.fs HUB_STAT HUB_STAT_pullup 0).setHubSt uNone).fs HUB_STAT HUB_STAT_speed 0
    (m.setCmfSt cDefault).emit .upBus [2]

/-- Hub-mode ports lose VBUS without a holdoff, and every recorded request with it (R340, R367). -/
def Mach.hubPortsOff (m : Mach) : Mach :=
  let m := m.hubPorts.foldl (fun m p => (m.vbusOff p).setPort p.val { (m.vbusOff p).port p.val with testMode := 0 }) m
  forEach (upTo 48) (fun p m => if (m.port p).powerReq then m.setPort p { m.port p with powerReq := false } else m) m

/-- A write of HUB_CTRL.connect (R332, R333): the status, and the state after it. -/
def Mach.connectWrite (m : Mach) (on : Bool) : Nat × Mach :=
  let was := m.fg HUB_CTRL HUB_CTRL_connect == 1
  if on && !was && !m.mapOk then (stBadState, m)
  else
    let m := m.fs HUB_CTRL HUB_CTRL_connect (b2n on)
    if on && !was then
      let m := m.carve.hubPortsOff
      (stOk, if m.fg HUB_STAT HUB_STAT_vbus_det == 1 then m.pullUp else m)
    else if was && !on then (stOk, m.pullDown.clearSteer)
    else (stOk, m)

/-! ### The upstream reset (R367, R368) -/

/-- The policy acts on playout (R368); node 0 of a joined system sends it to every node. (DEDUCED, log 17) -/
def Mach.applyPolicy (m : Mach) : Mach :=
  let p := m.fg CMF_UP_RESET_POLICY CMF_UP_RESET_POLICY_policy
  let m := if p = 1 then (forEach (upTo 128) (fun n m => m.haltAtPick n true) m).afterHalt
    else if p = 2 then (m.haltAllNow 5 true).afterHalt
    else m
  if (p = 1 ∨ p = 2) ∧ m.node = 0 ∧ m.joined then forEach ((m.treeLinks none).filter m.linkUp) (fun k m => m.emit .chainTx [k, 22, p]) m else m

/-- The hub function's part. -/
def Mach.resetHub (m : Mach) : Mach :=
  let m := (m.setHubSt uDefault).fs HUB_STAT HUB_STAT_multi_tt 0
  let m := { m with hub := { m.hub with addr := 0, rwake := false, l1Wake := false, tts := [], tok := none, frame := none, seenReset := none, setup := false,
                                        susp := false, driving := false, before := 0 } }
  let m := m.clearSteer.hubPortsOff
  forEach (upTo 48) (fun p m => if (m.port p).change = 0 then m else m.setPort p { m.port p with change := 0 }) m

/-- The command function's part. -/
def Mach.resetCmf (m : Mach) : Mach :=
  let m := (m.setCmfSt cDefault).dropPart0
  let m := { m with cmf := { m.cmf with addr := 0, l1Wake := false, before := 0, sel := false, tog := [], notif := none },
                    cmd := { m.cmd with held := m.cmd.held.filter (fun e => e.1 != 0) } }
  let m := m.setQ 48 {}
  let m := (m.unbind 0).unbind 1
  let m := (m.fs CMF_STAT CMF_STAT_out_halted 0).fs CMF_STAT CMF_STAT_rwake_en 0
  m.channelReset 0 1

/-- A control transfer cut by a reset had taken effect (R364): its data stage had ended, and it is not SET_ADDRESS. -/
def cutApplied (c : CtrlCut) : Bool := c.stage == 3 && !(c.reqType == 0#8 && c.request == 5#8)

/-- The upstream reset of a kind (R379): 1 bus reset, 2 reset of logical port 1, 3 VBUS loss. -/
def Mach.upReset (m : Mach) (kind : Nat) (cut : CtrlCut) : Mach :=
  let m := if kind = 2 then m else m.resetHub
  let m := m.resetCmf
  let a := CMF_LAST_RESET
  let m := (m.fs a CMF_LAST_RESET_request cut.request.toNat).fs a CMF_LAST_RESET_req_type cut.reqType.toNat
  let m := ((m.fs a CMF_LAST_RESET_applied (b2n (cutApplied cut))).fs a CMF_LAST_RESET_stage cut.stage.val).fs a CMF_LAST_RESET_kind kind
  let m := m.ev CMF_STAT CMF_STAT_reset_ev
  let p := m.fg CMF_UP_RESET_POLICY CMF_UP_RESET_POLICY_policy
  (m.event 0x0A m.hubHandle 0 (m.rgBytes a ++ [BitVec.ofNat 8 p, 0, 0, 0])).applyPolicy

/-! ### Suspend and resume (R354-R358) -/

/-- A device returns to the state it had. -/
def Mach.hubBack (m : Mach) : Mach := (m.setHubSt m.hub.before)
def Mach.cmfBack (m : Mach) : Mach := m.setCmfSt m.cmf.before

/-- After a resume the wake reason is reported (R357). -/
def Mach.reportWake (m : Mach) : Mach :=
  let m := m.notifyEval
  let lost := m.evLost
  let m := m.event 0x09 m.hubHandle 0 (m.rgBytes HUB_WAKE_REASON)
  (if m.evLost ≤ lost then m.fs HUB_WAKE_REASON HUB_WAKE_REASON_pending 0 else m).notifyEval

/-- The upstream bus resumes (R356, R357); `during` says that the host's K began while the hub was driving. -/
def Mach.upResume (m : Mach) (l1 during : Bool) : Mach :=
  let a := HUB_WAKE_REASON
  let drove := m.hub.driving
  let m := ((m.inc a HUB_WAKE_REASON_count).fs a HUB_WAKE_REASON_l1 (b2n l1)).fs a HUB_WAKE_REASON_collided (b2n (drove && during))
  let m := m.fs a HUB_WAKE_REASON_reason (if drove then 2 else 1)
  let woke := drove || m.fg a HUB_WAKE_REASON_pending == 1
  let m := if woke then m else m.fs a HUB_WAKE_REASON_source 0
  let m := { m with hub := { m.hub with susp := false, driving := false, l1Wake := false } }
  let m := (if m.hubSt == uSuspended || m.hubSt == uL1 then m.hubBack else m).ev HUB_STAT HUB_STAT_resume_ev
  let m := if m.cmfSt == cL1 || (m.cmfSt == cSuspended && !m.cmf.sel) then m.cmfBack else m
  if woke then m.reportWake else m.notifyEval

end Sys2Proof.Machine
end

