-- ==== Sys2Proof/Machine/Origin.lean ====
section
/-! DEFINITION. The hub of origin: cutting command packets (R360, R382), the checks of the origin receiver (R385-R390), the
outstanding commands and what reaches their consumer (R387-R389). -/

namespace Sys2Proof.Machine
open Reg

/-! ### Packets -/

/-- The version is 1 and the payload length at most 1,024 (R360). -/
def headerOk (bs : List Byte) : Bool := leAt bs 0 1 == 1 && decide (leAt bs 6 2 ≤ 1024)

/-- The bytes of the packet that a header begins. -/
def packetLen (bs : List Byte) : Nat := 20 + leAt bs 6 2

/-- The command that a packet's bytes spell (R382), with its origin node and arrival channel. -/
def parseCmd (origin : Fin 32) (arrival : Fin 7) (bs : List Byte) : Cmd :=
  let n := leAt bs 6 2
  let f := leAt bs 3 1
  { origin := origin, chan := BitVec.ofNat 4 f, arrival := arrival, opcode := BitVec.ofNat 8 (leAt bs 1 1),
    tag := BitVec.ofNat 8 (leAt bs 2 1), gen := BitVec.ofNat 2 (f / 64), urgent := bitN f 4, target := BitVec.ofNat 16 (leAt bs 4 2),
    params := BitVec.ofNat 64 (leAt bs 8 8), payload := slice bs 16 n, crcOk := crcOkAt bs (16 + n) }

/-- The bytes of a command (R382). -/
def cmdBytes (c : Cmd) : List Byte :=
  let b := fun (n : Nat) => BitVec.ofNat 8 n
  withCrc ([0x01, c.opcode, c.tag, b (c.gen.toNat * 64 + 16 * b2n c.urgent + c.chan.toNat)] ++ leBytes 2 c.target.toNat
    ++ leBytes 2 c.payload.length ++ leBytes 8 c.params.toNat ++ c.payload)

/-! ### Outstanding commands -/

/-- The queue that holds the replies of a channel (R212). -/
def replyQueue (chan : Nat) : Nat := 48 + chan

/-- A reply fits: output 48 begins a packet only with 512 words of room (R213). -/
def Mach.replyRoom (m : Mach) (chan len : Nat) : Bool :=
  if chan = 0 then m.qMayBegin 48 else m.qRoom (replyQueue chan) len

/-- Replies that waited go into the queue of their channel as it has room, in order. -/
def Mach.pumpHeld : Nat → Nat → Mach → Mach
  | 0, _, m => m
  | n + 1, chan, m =>
    match m.cmd.held.find? (fun e => e.1 == chan) with
    | none => m
    | some (_, bs) =>
      if m.replyRoom chan bs.length then
        pumpHeld n chan ({ m with cmd := { m.cmd with held := dropHeld chan m.cmd.held } }.qPut (replyQueue chan) bs)
      else m
where
  /-- The list without its first entry of a channel. -/
  dropHeld (chan : Nat) : List (Nat × List Byte) → List (Nat × List Byte)
    | [] => []
    | e :: l => if e.1 = chan then l else e :: dropHeld chan l

/-- A reply that this hub forms itself is delivered to the consumer of a channel. -/
def Mach.deliverReply (m : Mach) (chan : Nat) (bs : List Byte) : Mach :=
  let m := { m with cmd := { m.cmd with held := m.cmd.held ++ [(chan, bs)] } }
  m.pumpHeld m.cmd.held.length chan

/-- The refusal of an origin receiver, which is not itself outstanding (R387, R390). -/
def Mach.refuseAtOrigin (m : Mach) (ch : Nat) (c : Cmd) (status : Nat) : Mach :=
  (m.emit .delivered [ch, c.tag.toNat, c.gen.toNat, status]).deliverReply ch
    (replyBytes c.opcode.toNat c.tag.toNat c.gen.toNat ch m.node status 0 [])

/-- The outstanding commands of a channel: urgent ones or the others. -/
def Mach.outCount (m : Mach) (chan : Nat) (urgent : Bool) : Nat :=
  (m.cmd.out.filter (fun o => o.chan == chan && o.urgent == urgent)).length

/-- The limit of R387 is reached. -/
def Mach.atLimit (m : Mach) (chan : Nat) (urgent : Bool) : Bool := decide ((if urgent then 4 else 64) ≤ m.outCount chan urgent)

/-- The nodes of the system as discovery last found it, with their join counts (R389, R476). -/
def Mach.systemNodes (m : Mach) : List (Nat × Nat) :=
  if m.joined then ((upTo 32).filter (fun n => m.fg (CHN_ROUTE n) CHN_ROUTE_valid == 1)).map (fun n => (n, m.fg (CHN_ROUTE n) CHN_ROUTE_join))
  else [(m.node, 0)]

/-- An outstanding command no longer awaits a node; after its last one its tag is free. -/
def Mach.answered (m : Mach) (o : Outst) (node : Nat) : Mach :=
  let o' := { o with awaits := o.awaits.filter (fun e => e.1 != node) }
  let l := if o'.awaits.isEmpty then m.cmd.out.filter (fun x => x != o) else m.cmd.out.map (fun x => if x = o then o' else x)
  { m with cmd := { m.cmd with out := l } }

/-- A node is lost (R389, R475): every command that awaits it is answered NODE_UNREACHABLE for it. -/
def Mach.nodeUnreachable (m : Mach) (n : Nat) : Mach :=
  forEach (m.cmd.out.filter (fun o => o.awaits.any (fun e => e.1 == n))) (fun o m =>
    ((m.emit .delivered [o.chan, o.tag, o.gen, stNodeUnreachable]).deliverReply o.chan
      (replyBytes o.opcode o.tag o.gen o.chan n stNodeUnreachable 0 [])).answered o n) m

/-! ### The checks of the origin receiver (R390) -/

/-- An opcode and parameter that may be urgent, without a payload (R401). (DEDUCED, log 44) -/
def urgentAllowed (c : Cmd) : Bool :=
  let op := c.opcode.toNat
  c.payload.isEmpty && (op == 0x33 || op == 0xB1 || op == 0xB0 || (op == 0x51 && c.b 9 == 0))

/-- Opcodes that may not go to every node (R386). -/
def notForAll (op : Nat) : Bool := op == 0x24 || op == 0x60 || op == 0x61 || op == 0xA1 || op == 0xC0

/-- The target names every node, this hub alone, or another node (R386). -/
inductive Target where
  | all | self | node (n : Nat) | unknown
  deriving DecidableEq, Repr

/-- What a target names. -/
def Mach.targetOf (m : Mach) (c : Cmd) : Target :=
  let t := c.target.toNat % 4096
  if t = 0xFFF then .self
  else if t = 0xFFE then .all
  else if 32 ≤ t then .unknown
  else if !m.joined then (if t = 0 then .self else .unknown)
  else if t = m.node then .self
  else if m.fg (CHN_ROUTE t) CHN_ROUTE_valid == 1 then .node t
  else .unknown

/-- An ABORT names a command that is outstanding on its channel (R399). -/
def Mach.abortNames (m : Mach) (ch : Nat) (c : Cmd) : Bool :=
  m.cmd.out.any (fun o => o.chan == ch && o.tag == c.b 8 && o.gen == c.b 9 / 64)

/-- Checks 2-6 at the receiver of a channel, with the NOTHING_TO_ABORT of R399: the status of a refusal. (DEDUCED, log 44) -/
def Mach.originCheck (m : Mach) (ch : Nat) (c : Cmd) : Option Nat :=
  if !c.crcOk then some stBadCrc
  else if c.chan.toNat ≠ ch then some stBadState
  else if c.urgent && !urgentAllowed c then some stBadOpcode
  else if m.cmd.out.any (fun o => o.chan == ch && o.tag == c.tag.toNat) then some stTagInUse
  else match m.targetOf c with
    | .unknown => some stNodeUnreachable
    | .all => if notForAll c.opcode.toNat then some stBadState else abort
    | _ => abort
where
  /-- The check of an ABORT. -/
  abort : Option Nat := if c.opcode.toNat = 0xB0 && !m.abortNames ch c then some stNothingToAbort else none

/-- The crossbar output of the block that executes an opcode. (DEDUCED, log 37) -/
def outputOf (c : Cmd) : Nat :=
  let op := c.opcode.toNat
  if 0x30 ≤ op ∧ op ≤ 0x41 then 54
  else if op = 0x22 ∨ op = 0x23 then 53
  else if (op = 0x50 ∨ op = 0x51 ∨ op = 0x52) ∧ c.b 8 < 48 then c.b 8
  else 55

/-- An accepted command becomes outstanding, and goes over the chain where its target includes another node (R387, R403,
R473). -/
def Mach.acceptOut (m : Mach) (ch : Nat) (c : Cmd) : Mach :=
  let own := (m.node, m.fg (CHN_ROUTE m.node) CHN_ROUTE_join)
  let t := m.targetOf c
  let awaits := match t with
    | .all => m.systemNodes
    | .node n => [(n, m.fg (CHN_ROUTE n) CHN_ROUTE_join)]
    | _ => [own]
  let o : Outst := ⟨ch, c.tag.toNat, c.gen.toNat, c.opcode.toNat, c.urgent, awaits⟩
  let m := { m with cmd := { m.cmd with out := m.cmd.out ++ [o] } }
  let pool := if c.urgent then 5 else 0
  let h : RouteHdr := { dst := 0, port := outputOf c, srcPort := if ch = 0 then 48 else 55 }
  match t with
  | .all => if m.joined then m.chainTree pool 12 [c.opcode.toNat] h (cmdBytes c) else m
  | .node n => m.chainTo n pool 12 [c.opcode.toNat] h (cmdBytes c)
  | _ => m

end Sys2Proof.Machine
end

