-- ==== Sys2Proof/Machine/Discovery.lean ====
section
/-! DEFINITION. Discovery: computing a topology from the reports (R468, R469), running it on node 0, and installing a
topology (R467, R475). -/

namespace Sys2Proof.Machine
open Reg

/-! ### Computing a topology (R468) -/

/-- The report of a node. -/
def repOf (l : List NodeRep) (n : Nat) : Option NodeRep := l.find? (fun r => r.node.val == n)

/-- What a report says of one port: the neighbour and its port, where it is ACTIVE. -/
def repPort (r : NodeRep) (p : Nat) : Option (Nat × Nat) :=
  match r.ports[p]? with
  | some x => if x.active then some (x.node.val, x.port.val) else none
  | none => none

/-- The node and port at the far end of a link that both ends report. -/
def linkEnd (l : List NodeRep) (n p : Nat) : Option (Nat × Nat) :=
  match (repOf l n).bind (fun r => repPort r p) with
  | some (w, q) => if (repOf l w).bind (fun r => repPort r q) = some (n, p) then some (w, q) else none
  | none => none

/-- The neighbours of a node by port: port and node. -/
def nbrs (l : List NodeRep) (n : Nat) : List (Nat × Nat) :=
  (upTo 4).filterMap (fun p => (linkEnd l n p).map (fun e => (p, e.1)))

/-- Breadth-first: every node within reach of a frontier, with its hops. -/
def bfs (l : List NodeRep) : Nat → Nat → List Nat → List (Nat × Nat) → List (Nat × Nat)
  | 0, _, _, seen => seen
  | k + 1, d, front, seen =>
    let seen := seen ++ front.map (fun n => (n, d))
    let next := (upTo 32).filter (fun n => !seen.any (fun e => e.1 == n) && front.any (fun f => (nbrs l f).any (fun e => e.2 == n)))
    if next.isEmpty then seen else bfs l k (d + 1) next seen

/-- Hops from one node to another. -/
def hopsOf (l : List NodeRep) (s t : Nat) : Option Nat := ((bfs l 32 0 [s] []).find? (fun e => e.1 == t)).map (·.2)

/-- The nodes that node 0 reaches, in ascending order. -/
def topoNodes (l : List NodeRep) : List Nat := (upTo 32).filter (fun n => (hopsOf l 0 n).isSome)

/-- The least element of a list. -/
def leastNat : List Nat → Option Nat
  | [] => none
  | a :: l => match leastNat l with | some b => some (min a b) | none => some a

/-- A node's parent node and own port of the tree link to it. -/
def parentOf (l : List NodeRep) (n : Nat) : Option (Nat × Nat) :=
  match hopsOf l 0 n with
  | some (d + 1) =>
    match leastNat (((nbrs l n).map (·.2)).filter (fun w => hopsOf l 0 w == some d)) with
    | some w => (((nbrs l n).find? (fun e => e.2 == w)).map (fun e => (w, e.1)))
    | none => none
  | _ => none

/-- The children of a node: its own ports of the tree links to them. -/
def childPorts (l : List NodeRep) (n : Nat) : List Nat :=
  (upTo 4).filter (fun p => match linkEnd l n p with
    | some (w, q) => parentOf l w == some (n, q)
    | none => false)

/-- The port of the route from a node to another: its lowest port on a shortest path. -/
def routeOf (l : List NodeRep) (n t : Nat) : Option (Nat × Nat) :=
  if n = t then some (4, 0)
  else match hopsOf l n t with
    | some (d + 1) => ((nbrs l n).find? (fun e => hopsOf l e.2 t == some d)).map (fun e => (e.1, d + 1))
    | _ => none

/-- The longest route. -/
def diameterOf (l : List NodeRep) : Nat :=
  (topoNodes l).foldl (fun m n => (bfs l 32 0 [n] []).foldl (fun m e => max m e.2) m) 0

/-- An ACTIVE link lies outside the tree. -/
def offTree (l : List NodeRep) : Bool :=
  (topoNodes l).any (fun n => (nbrs l n).any (fun e => !(childPorts l n).contains e.1 && (parentOf l n).map (·.2) != some e.1))

/-- An ACTIVE port leads to a hub that has not reported it. -/
def halfLinks (l : List NodeRep) : Bool :=
  l.any (fun r => (upTo 4).any (fun p => (repPort r p).isSome && (linkEnd l r.node.val p).isNone))

/-- The join count of a node in a new topology (R468). -/
def Mach.joinOf (m : Mach) (n : Nat) : Nat :=
  let j := spGet 0 m.chn.joins n
  match m.chn.installed with
  | some prev => if prev.contains n then j else (j + 1) % 8
  | none => j

/-- The 24-byte entry of a node (R469). -/
def Mach.topoEntry (m : Mach) (l : List NodeRep) (n : Nat) : List Byte :=
  let b := fun (n : Nat) => BitVec.ofNat 8 n
  match repOf l n with
  | none => []
  | some r =>
    [b n, b (m.joinOf n), b ((hopsOf l 0 n).getD 0), b (match parentOf l n with | some e => e.2 | none => 0xFF)]
      ++ r.ports.map (fun x => b (x.node.val + 32 * x.port.val + 128 * b2n x.active))
      ++ r.ports.flatMap (fun x => leBytes 2 x.delay.toNat) ++ leBytes 8 r.serial.toNat

/-- The node entries of the reply payload (R469), and the topology ID (R468). -/
def Mach.topoEntries (m : Mach) (l : List NodeRep) : List Byte := (topoNodes l).flatMap (m.topoEntry l)
def Mach.topoId (m : Mach) (l : List NodeRep) : Word := crc32c (m.topoEntries l)

/-- The reply payload (R469). -/
def Mach.topoPayload (m : Mach) (l : List NodeRep) (silent : Bool) : List Byte :=
  let b := fun (n : Nat) => BitVec.ofNat 8 n
  [b (topoNodes l).length, b (if silent then 3 else 0), b (diameterOf l), b (b2n (offTree l))]
    ++ leBytes 4 (m.topoId l).toNat ++ m.topoEntries l

/-- What node 0 sends to a hub in step 5. -/
def Mach.topoFor (m : Mach) (l : List NodeRep) (silent : Bool) (n : Nat) : TopoMsg :=
  { routes := (topoNodes l).filterMap (fun t => (routeOf l n t).map (fun e =>
      ⟨Fin.ofNat 32 t, Fin.ofNat 32 e.2, Fin.ofNat 8 (m.joinOf t), Fin.ofNat 5 e.1⟩)),
    parent := (parentOf l n).map (fun e => Fin.ofNat 4 e.2), children := (childPorts l n).map (Fin.ofNat 4),
    topoId := m.topoId l, hubs := (topoNodes l).length, diameter := diameterOf l, silent := silent }

/-! ### Installing a topology -/

/-- A node is lost (R475): commands that await it are answered, and the locks owned through it break. -/
def Mach.nodeLost (m : Mach) (n : Nat) : Mach :=
  ((m.ev CHN_STAT CHN_STAT_lost_ev).nodeUnreachable n).breakLocks (fun k => (m.lockOwner k).1 == n) 4

/-- The nodes of the active topology but for this hub. -/
def Mach.otherNodes (m : Mach) : List Nat := (upTo 32).filter (fun n => n != m.node && m.fg (CHN_ROUTE n) CHN_ROUTE_valid == 1)

/-- The word of a route register (R487). -/
def routeWord (r : RouteTo) : Word := BitVec.ofNat 32 (2 ^ 31 + r.join.val * 2 ^ 13 + r.hops.val * 2 ^ 8 + r.port.val)

/-- The hub changes to a topology (R467 step 6, R480-R482, R487), and nodes that it no longer holds are lost. -/
def Mach.install (m : Mach) (t : TopoMsg) : Mach :=
  let gone := m.otherNodes.filter (fun n => !t.routes.any (fun r => r.node.val == n))
  let m := forEach (upTo 32) (fun n m => m.wr (CHN_ROUTE n) (match t.routes.find? (fun r => r.node.val == n) with | some r => routeWord r | none => 0)) m
  let m := forEach (List.finRange 4) (fun k m =>
    (m.fs (CHN_P_STAT k.val) CHN_P_STAT_tree (b2n (t.children.contains k || t.parent == some k))).fs (CHN_P_STAT k.val) CHN_P_STAT_child (b2n (t.children.contains k))) m
  let m := (m.fs CHN_STAT CHN_STAT_hubs t.hubs).fs CHN_STAT CHN_STAT_diameter t.diameter
  let m := (m.fs CHN_STAT CHN_STAT_has_parent (b2n t.parent.isSome)).fs CHN_STAT CHN_STAT_parent_port (match t.parent with | some k => k.val | none => 0)
  let m := (m.wr CHN_TOPO t.topoId).fs CHN_DISC CHN_DISC_result (if t.silent then 3 else 0)
  let m := (m.inc CHN_DISC CHN_DISC_runs).ev CHN_STAT CHN_STAT_disc_ev
  let m := m.fs GLB_NODE GLB_NODE_joined (b2n (decide (1 < t.hubs)))
  let par := t.parent.map (fun k => m.fg (CHN_P_STAT k.val) CHN_P_STAT_nbr_node)
  let m := { m with chn := { m.chn with pend := none, fresh := m.chn.fresh || m.chn.parent.isNone,
                                        newParent := m.chn.newParent || m.chn.parent != par, parent := par } }
  forEach gone (fun n m => m.nodeLost n) m

/-! ### Running discovery on node 0 (R467) -/

/-- What this hub reports of itself. -/
def Mach.ownRep (m : Mach) : NodeRep :=
  { serial := Config.serial, node := Fin.ofNat 32 m.node,
    ports := (upTo 4).map (fun k => let a := CHN_P_STAT k
      ⟨m.linkUp k, Fin.ofNat 32 (m.fg a CHN_P_STAT_nbr_node), Fin.ofNat 4 (m.fg a CHN_P_STAT_nbr_port), BitVec.ofNat 16 (m.fg a CHN_P_STAT_delay)⟩) }

/-- What a REPORT says (R467), as numbers: node, serial number, and for each port whether it is ACTIVE, the neighbour's node and
port and the link delay. -/
def repNums (r : NodeRep) : List Nat :=
  [r.node.val, r.serial.toNat] ++ r.ports.flatMap (fun x => [b2n x.active, x.node.val, x.port.val, x.delay.toNat])

/-- What node 0 sends to a hub in step 5 (R467), as numbers. -/
def topoNums (t : TopoMsg) : List Nat :=
  [t.topoId.toNat, t.hubs, t.diameter, b2n t.silent, (match t.parent with | some k => k.val | none => 4), t.children.length]
    ++ t.children.map (·.val) ++ t.routes.flatMap (fun r => [r.node.val, r.hops.val, r.join.val, r.port.val])

/-- Replace the discovery in progress. -/
def Mach.setDisc (m : Mach) (d : Option Disc) : Mach := { m with chn := { m.chn with disc := d } }

/-- The reply to the command that asked for a discovery. -/
def Mach.discReply (m : Mach) (d : Disc) (payload : List Byte) : Mach :=
  match d.cmd with | some c => m.reply c stOk 0 payload | none => m

/-- A discovery ends with a duplicate (R468): nothing is installed. -/
def Mach.discDup (m : Mach) (result : Nat) : Mach :=
  let m := (m.ev CHN_STAT CHN_STAT_dup_ev).fs CHN_DISC CHN_DISC_result result
  let m := m.inc CHN_DISC CHN_DISC_runs
  match m.chn.disc with
  | none => m
  | some d =>
    ({ m with chn := { m.chn with disc := none, pend := none, again := false } } : Mach).discReply d
      ([BitVec.ofNat 8 d.reports.length, BitVec.ofNat 8 result] ++ leBytes 6 0)

/-- ACTIVATE goes down the tree and the topology is installed here: the commit point (R467). -/
def Mach.discActivate (m : Mach) (d : Disc) : Mach :=
  let t := m.topoFor d.reports d.silent 0
  let pay := m.topoPayload d.reports d.silent
  let nodes := topoNodes d.reports
  let joins := nodes.foldl (fun j n => spSet 0 j n (m.joinOf n)) m.chn.joins
  let m := forEach t.children (fun k m => m.emit .chainTx [k.val, 10]) m
  let m := { m with chn := { m.chn with joins := joins, installed := some nodes, disc := none } }
  (m.install t).discReply d pay

/-- Steps 4 and 5: the topology is computed and sent, and the answers awaited. -/
def Mach.discSend (m : Mach) (d : Disc) : Mach :=
  let others := (topoNodes d.reports).filter (· != 0)
  let m := forEach others (fun n m => m.emit .chainTx ([((routeOf d.reports 0 n).map (·.1)).getD 0, 9, n] ++ topoNums (m.topoFor d.reports d.silent n))) m
  let d := { d with phase := 5 }
  if others.all d.answered.contains then m.discActivate d else m.setDisc (some d)

/-- Step 4 begins once every hub that a report names has reported. -/
def Mach.discCheck (m : Mach) (d : Disc) : Mach := if halfLinks d.reports then m.setDisc (some d) else m.discSend d

/-- Step 2: PROBE goes to every ACTIVE neighbour. -/
def Mach.discProbe (m : Mach) (d : Disc) : Mach :=
  let m := forEach ((upTo 4).filter m.linkUp) (fun k m => m.emit .chainTx [k, 7, m.chn.run]) m
  m.discCheck { d with phase := 3, reports := [m.ownRep] }

/-- Step 1 ends once every enabled port is ACTIVE. -/
def Mach.discWait (m : Mach) (d : Disc) : Mach :=
  if (upTo 4).all (fun k => !bitN (m.fg CHN_CTRL CHN_CTRL_port_en) k || m.linkUp k) then m.discProbe d else m.setDisc (some d)

/-- Node 0 starts discovery (R467). -/
def Mach.discStart (m : Mach) (c : Option Cmd) : Mach :=
  let m := { m with chn := { m.chn with run := (m.chn.run + 1) % 256, again := false } }
  m.discWait { phase := 1, cmd := c }

/-- A discovery that has ended starts again where a link changed meanwhile (R474). -/
def Mach.discAgain (m : Mach) : Mach :=
  if m.chn.disc.isNone && m.chn.again then m.discStart none else m

/-- Node 0 learns of a link change (R474): a discovery that waits for its ports looks again; with auto_disc at 1 one starts
otherwise, once boot has come to S9. -/
def Mach.linkNews (m : Mach) : Mach :=
  let early := match m.boot.step with | some s => decide (s < 9) | none => false
  if m.node != 0 then m
  else match m.chn.disc with
    | some d =>
      if d.phase = 1 then m.discWait d
      else if m.fg CHN_CTRL CHN_CTRL_auto_disc == 1 then { m with chn := { m.chn with again := true } } else m
    | none => if m.fg CHN_CTRL CHN_CTRL_auto_disc == 1 && !early then m.discStart none else m

/-- An ABORT before ACTIVATE (R400, R467): the pending topology is discarded on every hub. -/
def Mach.discAbort (m : Mach) : Mach :=
  let m := forEach ((m.treeLinks none).filter m.linkUp) (fun k m => m.emit .chainTx [k, 9, 0xFFE]) m
  { m.fs CHN_DISC CHN_DISC_result 4 with chn := { m.chn with disc := none, pend := none, again := false } }

end Sys2Proof.Machine
end

