-- ==== Sys2Proof/Machine/ChainOps.lean ====
section
/-! DEFINITION. Chain links: loss and training (R456, R457, R474), replay and credits (R459, R461). -/

namespace Sys2Proof.Machine
open Reg

/-- Node 0 learns that a link of this hub has changed (R474). -/
def Mach.linkNotice (m : Mach) (k : Nat) (up : Bool) : Mach :=
  if m.node = 0 then m.linkNews
  else match m.routePort 0 with
    | some r => if m.linkUp r then m.emit .chainTx [r, 11, m.node, k, b2n up] else m.inc (CHN_P_DROP r) CHN_P_DROP_count
    | none => m

/-- A link in ACTIVE is lost (R457): its queues are discarded and counted, in the crossbar too, the loss is reported, the locks that came in
through the port break, and the transmitter keeps quiet. (DEDUCED, log 34) -/
def Mach.linkLost (m : Mach) (k : Nat) : Mach :=
  if !m.linkUp k then m
  else
    let x := m.chp k
    let gone := (x.wait.filter (fun f => f.fin != 0 && decide (f.pool < 6))).length
    let m := m.setChp k { quiet := true, rx := x.rx, delays := x.delays }
    let (n, m) := m.flushOutput (49 + k)
    let m := forEach (upTo 57) (fun i m => m.refeed i) m
    let a := CHN_P_STAT k
    let m := ((m.fs a CHN_P_STAT_state 0).fs a CHN_P_STAT_nbr_node 0).fs a CHN_P_STAT_nbr_port 0
    let m := (m.inc (CHN_P_DROP k) CHN_P_DROP_count (gone + n)).inc (CHN_P_DOWN k) CHN_P_DOWN_count
    let m := ((m.ev CHN_STAT CHN_STAT_down_ev).raise fChainDown k).breakArrival (3 + k)
    m.linkNotice k false

/-- A port enters TRAIN (R456): its training sets carry serial number, node ID, port number and topology ID. -/
def Mach.linkTrain (m : Mach) (k : Nat) : Mach :=
  (m.setChp k { m.chp k with quiet := false }).fs (CHN_P_STAT k) CHN_P_STAT_state 2
    |>.emit .chainTx [k, 18, Config.serial.toNat, m.node, k, (m.rg CHN_TOPO).toNat]

/-- A port is enabled in CHN_CTRL (R479). -/
def Mach.chnEnabled (m : Mach) (k : Nat) : Bool := bitN (m.fg CHN_CTRL CHN_CTRL_port_en) k

/-- Enabled ports begin to train; a disabled port's link goes down and it stays in DISABLED (R456, R479). -/
def Mach.chnApply (m : Mach) : Mach :=
  forEach (upTo 4) (fun k m =>
    let st := m.fg (CHN_P_STAT k) CHN_P_STAT_state
    if m.chnEnabled k then (if st == 0 && !(m.chp k).quiet then m.linkTrain k else m)
    else (m.linkLost k).fs (CHN_P_STAT k) CHN_P_STAT_state 0) m

/-- Every link goes down, and no port trains. -/
def Mach.chnDown (m : Mach) : Mach :=
  forEach (upTo 4) (fun k m => ((m.linkLost k).fs (CHN_P_STAT k) CHN_P_STAT_state 0).setChp k {}) m

/-- This hub is the parent of a node (R472). -/
def Mach.isParent (m : Mach) : Bool :=
  (upTo 4).any (fun k => m.fg (CHN_P_STAT k) CHN_P_STAT_tree == 1 && m.fg (CHN_P_STAT k) CHN_P_STAT_child == 1)

end Sys2Proof.Machine
end

