-- ==== Sys2Proof/Machine/ShaftOps.lean ====
section
/-! DEFINITION. The shaft unit: counting (R25-R31), shaft records and locking (R32-R36, R39) and cam channels (R40-R42). -/

namespace Sys2Proof.Machine
open Reg

/-- The configuration of an encoder channel; both have one layout (R51). -/
def encCfg (ch : Nat) : Nat := if ch = 0 then SHF_ENC0_CFG else SHF_ENC1_CFG

/-- The zero offset of an encoder channel (R52). -/
def encZoff (ch : Nat) : Nat := if ch = 0 then SHF_ENC0_ZOFF else SHF_ENC1_ZOFF

/-- An encoder channel. -/
def Mach.enc (m : Mach) (ch : Nat) : Enc := spGet {} m.shf.enc ch

/-- Replace an encoder channel. -/
def Mach.setEnc (m : Mach) (ch : Nat) (e : Enc) : Mach := { m with shf := { m.shf with enc := spSet {} m.shf.enc ch e } }

/-- SHF_CTRL.enable (R49). -/
def Mach.shfOn (m : Mach) : Bool := m.fg SHF_CTRL SHF_CTRL_enable == 1

/-- The channel is the local master. -/
def Mach.isMaster (m : Mach) (ch : Nat) : Bool := m.shfOn && m.fg SHF_CTRL SHF_CTRL_source == ch

/-- The channel is the second channel, in auxiliary or plausibility mode (R48). -/
def Mach.isAux (m : Mach) (ch : Nat) : Bool :=
  let mode := m.fg SHF_CTRL SHF_CTRL_aux_mode
  m.shfOn && (mode == 1 || mode == 2) && ch == (if m.fg SHF_CTRL SHF_CTRL_source = 0 then 1 else 0)

/-- The angle fraction of a count (R28). -/
def Mach.encFrac (m : Mach) (ch count : Nat) : Nat :=
  (m.fg (encZoff ch) SHF_ENC0_ZOFF_zoff + count * 65536 / (m.fg (encCfg ch) SHF_ENC0_CFG_cpr_m1 + 1)) % 65536

/-! ### Lock -/

/-- The homing condition of R35. -/
def Mach.homing (m : Mach) : Bool :=
  if m.fg SHF_CTRL SHF_CTRL_source = 2 then m.shf.recHomed
  else
    let ch := m.fg SHF_CTRL SHF_CTRL_source
    m.fg SHF_STAT SHF_STAT_homed == 1 || m.fg (encCfg ch) SHF_ENC0_CFG_z_en == 0

/-- Every condition of R35 holds at a chain time. -/
def Mach.lockConds (m : Mach) (now : Nat) : Bool :=
  m.shfOn && m.homing && decide (2 * m.window + 1 ≤ m.shf.since) && m.fg SHF_STAT SHF_STAT_reverse == 0
    && (match m.est with | some e => m.fastEnough e.v | none => false)
    && (!m.shf.overdue || (match m.stallSpeed now with | some v => m.fastEnough v | none => false))
    && m.fg SHF_STAT SHF_STAT_time_lock == 1

/-- Lock follows its conditions; its fall is an event, and streams under policy HALT halt (R35, R71). -/
def Mach.evalLock (m : Mach) (now : Nat) : Mach :=
  let ok := m.lockConds now
  if ok == (m.fg SHF_STAT SHF_STAT_lock == 1) then m
  else if ok then m.fs SHF_STAT SHF_STAT_lock 1
  else
    let m := (m.fs SHF_STAT SHF_STAT_lock 0).ev SHF_STAT SHF_STAT_unlock_ev
    { m with shf := { m.shf with since := 0 } }.unlockHalts

/-- Chain time is locked or not (R38, R47). -/
def Mach.setTimeLock (m : Mach) (on : Bool) : Mach :=
  let ok := on && m.shf.synced && !m.shf.phasing
  (m.fs SHF_STAT SHF_STAT_time_lock (b2n ok)).evalLock m.ctime

/-- The direction of counting, and its reversal (R30). -/
def Mach.setBack (m : Mach) (back : Bool) (now : Nat) : Mach :=
  if m.fg SHF_STAT SHF_STAT_reverse == b2n back then m
  else
    let m := (m.fs SHF_STAT SHF_STAT_reverse (b2n back)).ev SHF_STAT SHF_STAT_reverse_ev
    { m with shf := { m.shf with since := 0 } }.evalLock now

/-! ### Cam channels -/

/-- Cam configuration (R61). -/
def Mach.camAction (m : Mach) (n : Nat) : Nat := m.fg (SHF_CAM_CFG n) SHF_CAM_CFG_action

/-- The crossings of cam angles by an advance of the master, in ascending channel order, that fire (R40). -/
def Mach.camsCrossed (m : Mach) (old new : Int) : List (Nat × Int) :=
  if new ≤ old then []
  else (upTo 32).flatMap (fun n =>
    if m.camAction n = 0 then []
    else ((List.range ((new / 65536 - old / 65536).toNat + 1)).map (fun (i : Nat) => old / 65536 + (i : Int))).filterMap (fun (rev : Int) =>
      let tgt := rev * 65536 + m.fg (SHF_CAM_CFG n) SHF_CAM_CFG_angle
      if old < tgt ∧ tgt ≤ new ∧ !m.shf.camFired.contains (n, rev) then some (n, rev) else none))

/-- A firing acts on a reserved action or a reserved GPIO number (R41, R61). (DEDUCED, log 17) -/
def Mach.camReserved (m : Mach) (n : Nat) : Bool :=
  let act := m.camAction n
  act == 7 || (decide (1 ≤ act ∧ act ≤ 5) && decide (24 ≤ m.fg (SHF_CAM_CFG n) SHF_CAM_CFG_gpio))

/-- The level of a GPIO output (R444). -/
def Mach.gpioOut (m : Mach) (g : Nat) : Bool := bitN (m.rg GLB_GPIO_OUT).toNat g

/-- A cam channel drives a GPIO (R41). -/
def Mach.driveGpio (m : Mach) (g : Nat) (level : Bool) : Mach :=
  (m.wr GLB_GPIO_OUT (BitVec.ofNat 32 (setBitN (m.rg GLB_GPIO_OUT).toNat g level))).emit .gpio [g, b2n level]

/-- A pulse starts; its end returns to the level before it (R41), whatever other channels did on the GPIO meanwhile. (DESIGN CHOICE, log 61) -/
def Mach.camPulseStart (m : Mach) (n g : Nat) (level : Bool) : Mach :=
  let k := spGet 0 m.shf.camPulse n
  let before := if k = 0 ∨ (k - 1) / 2 ≠ g then 2 * g + b2n (m.gpioOut g) + 1 else k
  { m with shf := { m.shf with camPulse := spSet 0 m.shf.camPulse n before } }.driveGpio g level

/-- A cam channel fires in a revolution (R40-R42). -/
def Mach.fireCam (m : Mach) (n : Nat) (rev : Int) : Mach :=
  let keep := m.shf.camFired.filter (fun e => decide ((e.2 - rev).natAbs < 32768))
  let m := { m with shf := { m.shf with camFired := keep ++ [(n, rev)] } }
  let m := m.inc (SHF_CAM_CNT n) SHF_CAM_CNT_fired
  let m := if m.fg (SHF_CAM_CFG n) SHF_CAM_CFG_event == 1 then m.emit .notice [0, n] else m
  let g := m.fg (SHF_CAM_CFG n) SHF_CAM_CFG_gpio
  match m.camAction n with
  | 1 => m.driveGpio g true
  | 2 => m.driveGpio g false
  | 3 => m.driveGpio g (!m.gpioOut g)
  | 4 => m.camPulseStart n g true
  | 5 => m.camPulseStart n g false
  | _ => m

/-- The crossing that a cam channel waits for: revolution and unwrapped target. -/
def Mach.camNext (m : Mach) (n : Nat) : Int × Int :=
  let rev := m.shf.pos / 65536
  let tgt := rev * 65536 + m.fg (SHF_CAM_CFG n) SHF_CAM_CFG_angle
  if tgt ≤ m.shf.pos then (rev + 1, tgt + 65536) else (rev, tgt)

/-- The live predicted time of a cam channel's next crossing has come (R40). -/
def Mach.camDue (m : Mach) (n now : Nat) : Bool :=
  let x := m.camNext n
  m.camAction n != 0 && m.fg (SHF_CAM_CFG n) SHF_CAM_CFG_count_mode == 0 && m.fg SHF_STAT SHF_STAT_lock == 1
    && !m.shf.camFired.contains (n, x.1)
    && (match m.shf.hist with
      | r :: _ => (match m.liveTime (x.2 - r.ang) now with | some t => decide (t ≤ now) | none => false)
      | [] => false)

/-! ### The master angle and its records -/

/-- The master angle word changes (R55, R64), with the cams it crosses; idle streams may change their epoch (R97). -/
def Mach.masterAt (m : Mach) (old new : Int) : Mach :=
  let fired := m.camsCrossed old new
  let word : Nat := (new % 2 ^ 32).toNat
  let ext := m.fg REN_PICK REN_PICK_ext + (new / 2 ^ 32 - old / 2 ^ 32)
  let m := m.wr SHF_ANGLE (BitVec.ofNat 32 word)
  let m := m.wr REN_PICK (BitVec.ofNat 32 (twos 16 ext * 65536 + word / 65536))
  let m := { m with shf := { m.shf with pos := new } }.pickReached
  forEach fired (fun e m => m.fireCam e.1 e.2) m

/-- A shaft record is processed (R32-R36): history, speed and acceleration, lock, then freezing and misses. -/
def Mach.recordIn (m : Mach) (t : Nat) : Mach :=
  let m := { m with shf := { m.shf with hist := ((⟨t, m.shf.pos⟩ : ShRec) :: m.shf.hist).take 511, since := m.shf.since + 1, overdue := false } }
  let m := match m.est with
    | some e => (m.wr SHF_SPEED (toReg e.v 65536000)).wr SHF_ACCEL (toReg e.a 65536000000000000)
    | none => m
  (m.evalLock t).freezeAll

/-- The bytes of a shaft record (R39). (DEDUCED, log 36) -/
def recBytes (t word : Nat) (back homed index : Bool) (seq decim : Nat) : List Byte :=
  leBytes 8 t ++ leBytes 4 word ++ [BitVec.ofNat 8 (128 * b2n back + 64 * b2n homed + 32 * b2n index),
    BitVec.ofNat 8 seq, BitVec.ofNat 8 decim, 0]

/-- The quadrature phase of the levels, 0 to 3 in the order of A leading B. -/
def quadPhase (a b : Bool) : Nat :=
  match a, b with
  | false, false => 0
  | true, false => 1
  | true, true => 2
  | false, true => 3

/-- The count and revolution after one count (R28). -/
def Mach.encStep (m : Mach) (ch : Nat) (e : Enc) (back : Bool) : Enc :=
  let n := m.fg (encCfg ch) SHF_ENC0_CFG_cpr_m1 + 1
  let c := (if back then e.count + n - 1 else e.count + 1) % n
  let f0 := m.encFrac ch e.count
  let f1 := m.encFrac ch c
  let rev := if !back && decide (f1 < f0) then e.rev + 1 else if back && decide (f0 < f1) then e.rev - 1 else e.rev
  { e with count := c, rev := rev, back := back, dec := (e.dec + 1) % 2 ^ m.fg (encCfg ch) SHF_ENC0_CFG_decim }

/-- A channel's unwrapped position. -/
def Mach.encPos (m : Mach) (ch : Nat) (e : Enc) : Int := e.rev * 65536 + m.encFrac ch e.count

/-- A counted edge of the second channel (R48, R55); until its first one SHF_AUX_ANGLE keeps what it held. (DESIGN CHOICE, log 59) -/
def Mach.auxEdge (m : Mach) (ch : Nat) (e : Enc) (t : Nat) : Mach :=
  let p := m.encPos ch e
  let m := (m.setEnc ch e).wr SHF_AUX_ANGLE (BitVec.ofInt 32 p)
  if m.fg SHF_CTRL SHF_CTRL_aux_mode == 2 && e.dec == 0 then
    { m with shf := { m.shf with hist2 := ((⟨t, p⟩ : ShRec) :: m.shf.hist2).take 511 } }
  else m

/-- A counted edge of the master channel (R28-R32, R39, R40); the record's index flag says that the index was seen since the
record before. (DESIGN CHOICE, log 58) -/
def Mach.masterEdge (m : Mach) (ch : Nat) (e : Enc) (t : Nat) : Mach :=
  let m := (m.setEnc ch e).setBack e.back t
  let m := m.masterAt m.shf.pos (m.encPos ch e)
  if e.dec != 0 then m
  else
    let decim := m.fg (encCfg ch) SHF_ENC0_CFG_decim
    let homed := e.homed || m.fg (encCfg ch) SHF_ENC0_CFG_z_en == 0
    let seq := m.shf.seq
    let m := (m.setEnc ch { e with indexAt := false })
    let m := { m with shf := { m.shf with seq := (seq + 1) % 256 } }
    let m := if m.fg SHF_CTRL SHF_CTRL_publish == 1 then
        let bs := recBytes t (m.rg SHF_ANGLE).toNat e.back homed e.indexAt seq decim
        (m.emit .shaftRec [m.node] bs).chainTree 0 16 [] { dst := 0, port := 55, srcPort := 55 } bs
      else m
    m.recordIn t

/-- The new levels of an accepted change, and the edge it counts: its new channel state (R25-R27, R30). -/
def Mach.encChange (m : Mach) (ch : Nat) (a b : Bool) : Option Enc :=
  let e := m.enc ch
  let d := (quadPhase a b + 4 - quadPhase e.a e.b) % 4
  if d = 1 ∨ d = 3 then
    let back := (d == 3) != (m.fg (encCfg ch) SHF_ENC0_CFG_reverse == 1)
    some (m.encStep ch { e with a := a, b := b } back)
  else none

/-- The samples of 5 ns for which a new level has to be stable (R26). -/
def Mach.encFilter (m : Mach) (ch : Nat) : Nat := m.fg (encCfg ch) SHF_ENC0_CFG_filter + 1

/-- The time stamp of an edge whose level is accepted at a chain time: the filter's delay is taken off, and 5 ns are the
resolution (R31). (DEDUCED, log 57) -/
def Mach.edgeTime (m : Mach) (ch t : Nat) : Nat := (t - 5 * m.encFilter ch) / 5 * 5

/-- New levels of A and B that have been stable for a number of samples at a chain time (R26-R32). -/
def Mach.encoderEdge (m : Mach) (ch : Nat) (a b : Bool) (samples t0 : Nat) : Mach :=
  let m := m.at_ t0
  let t := m.edgeTime ch t0
  let e := m.enc ch
  let levels := m.setEnc ch { e with a := a, b := b }
  if samples < m.encFilter ch then m
  else if !(m.isMaster ch || m.isAux ch) then levels
  else if e.a != a && e.b != b then
    let f := if ch = 0 then SHF_ENC_ERR_enc0_err else SHF_ENC_ERR_enc1_err
    ((levels.sat SHF_ENC_ERR f).ev SHF_STAT SHF_STAT_enc_ev).raise fShaftEnc ch
  else match m.encChange ch a b with
    | some e' => if m.isMaster ch then m.masterEdge ch e' t else m.auxEdge ch e' t
    | none => levels

/-- The cams that an accepted change fires. -/
def Mach.edgeCams (m : Mach) (ch : Nat) (a b : Bool) (samples : Nat) : List Nat :=
  if m.isMaster ch && decide (m.encFilter ch ≤ samples) then
    match m.encChange ch a b with
    | some e => (m.camsCrossed m.shf.pos (m.encPos ch e)).map (·.1)
    | none => []
  else []

/-- The Z input changes; its rising edge is the index (R29). (DEDUCED, log 36) -/
def Mach.indexPulse (m : Mach) (ch : Nat) (level : Bool) (samples t : Nat) : Mach :=
  let m := m.at_ t
  if samples < m.encFilter ch then m
  else
  let e := m.enc ch
  let rise := level && !e.z
  let e := { e with z := level }
  if !(rise && m.fg (encCfg ch) SHF_ENC0_CFG_z_en == 1 && (m.isMaster ch || m.isAux ch)) then m.setEnc ch e
  else
    let n := m.fg (encCfg ch) SHF_ENC0_CFG_cpr_m1 + 1
    let diff := min e.count (n - e.count)
    let bad := e.homed && decide (1 < diff)
    let m := m.setEnc ch { e with count := 0, homed := true, indexAt := true }
    let m := if m.isMaster ch then m.fs SHF_STAT SHF_STAT_homed 1 else m
    let m := if bad then (m.ev SHF_STAT SHF_STAT_index_ev).raise fShaftIndex ch else m
    m.evalLock t

/-- The unwrapped position that a received angle word names; the first record places the shaft. -/
def Mach.recPos (m : Mach) (word : Nat) : Int :=
  if m.shf.hist.isEmpty then (word : Int) else m.shf.pos + sext 32 (word + 2 ^ 32 - (m.shf.pos % 2 ^ 32).toNat)

/-- Whether a received record is used (R39). -/
def Mach.recUsed (m : Mach) (src : Nat) : Bool :=
  m.domOn 6 && m.shfOn && m.fg SHF_CTRL SHF_CTRL_source == 2 && m.fg SHF_CTRL SHF_CTRL_master_node == src

/-- A received record drives the homed flag, the direction, the master angle and the estimator (R39). -/
def Mach.recordTake (m : Mach) (r : ShaftRec) (t : Nat) : Mach :=
  let m := { m with shf := { m.shf with recHomed := r.homed } }.fs SHF_STAT SHF_STAT_homed (b2n r.homed)
  let m := m.setBack r.reverse t
  let new := m.recPos r.angle.toNat
  (m.masterAt (if m.shf.hist.isEmpty then new else m.shf.pos) new).recordIn r.edge.toNat

/-- No record has come since the lock was lost. -/
def Mach.sinceNone (m : Mach) : Mach := { m with shf := { m.shf with since := 0 } }

/-- A shaft record arrives over the chain (R39): after a gap the predictor locks again 2W + 1 records after the one that
shows it. Nothing arrives while D6 is not ON (R16). (DEDUCED, log 36; DESIGN CHOICE, log 58) -/
def Mach.recordRx (m : Mach) (src : Nat) (r : ShaftRec) (t : Nat) : Mach :=
  let m := m.at_ t
  if !m.recUsed src then m
  else
    let gap := match m.shf.nextSeq with | some s => s != r.seq.toNat | none => false
    let m := { m with shf := { m.shf with nextSeq := some ((r.seq.toNat + 1) % 256) } }
    if gap then ((m.sinceNone.evalLock t).recordTake r t).sinceNone else m.recordTake r t

/-- The cams that a received record fires. -/
def Mach.recordCams (m : Mach) (src : Nat) (r : ShaftRec) : List Nat :=
  if m.recUsed src && !m.shf.hist.isEmpty then (m.camsCrossed m.shf.pos (m.recPos r.angle.toNat)).map (·.1) else []

/-- A record is overdue, or has been and the stall-bound speed falls on (R34, R35). -/
def Mach.recordOverdue (m : Mach) (t : Nat) : Mach :=
  let m := m.at_ t
  match m.lastGap with
  | some (r, q) =>
    if m.shfOn && decide (r.t + 2 * (r.t - q.t) ≤ t) then
      let m := if m.shf.overdue then m else { m with shf := { m.shf with overdue := true } }.ev SHF_STAT SHF_STAT_stall_ev
      m.evalLock t
    else m
  | none => m

/-- A difference of angles as a signed 32-bit one exceeds the tolerance (R48). -/
def angleOver (d : Fr) (tol : Nat) : Bool :=
  let w : Fr := ⟨(d.n + 2 ^ 31 * d.d) % (2 ^ 32 * d.d) - 2 ^ 31 * d.d, d.d⟩
  decide ((tol : Int) * w.d < w.n.natAbs)

/-- The plausibility comparison of R48 at a chain time: detail bits, 0 where nothing exceeds. The speeds' difference is taken
relative to the master's, and nothing is compared before both estimators have 2W + 1 records. (DESIGN CHOICE, log 62) -/
def Mach.plausDetail (m : Mach) (t : Nat) : Nat :=
  match m.est, estimate m.shf.hist2 m.window with
  | some e, some f =>
    let tol := m.fg SHF_PLAUS SHF_PLAUS_angle_tol
    let ang := angleOver ((e.at_ t).sub (f.at_ t)) tol
    let pred := angleOver ((e.at_ (t + 1000000)).sub (f.at_ (t + 1000000))) tol
    let d := e.v.sub f.v
    let spd := decide ((m.fg SHF_PLAUS SHF_PLAUS_speed_tol * e.v.n.natAbs * d.d : Nat) < 256 * d.n.natAbs * e.v.d)
    b2n ang + 2 * b2n pred + 4 * b2n spd
  | _, _ => 0

/-- The 1 ms comparison (R48). -/
def Mach.plausCheck (m : Mach) (t : Nat) : Mach :=
  let m := m.at_ t
  if m.shfOn && m.fg SHF_CTRL SHF_CTRL_aux_mode == 2 && decide (m.fg SHF_CTRL SHF_CTRL_source < 2) then
    let d := m.plausDetail t
    if d = 0 then m else (m.ev SHF_STAT SHF_STAT_plaus_ev).raise fShaftPlaus d
  else m

/-- An encoder channel is enabled (R28): c, the revolution count and homed start at 0. -/
def Mach.encFresh (m : Mach) (ch : Nat) : Mach := m.setEnc ch { a := (m.enc ch).a, b := (m.enc ch).b, z := (m.enc ch).z }

/-- The estimator starts afresh as the master is enabled or another channel becomes the master (R28, R35). The angle word
shows the channel's position at once. (DESIGN CHOICE, log 59) -/
def Mach.shfRestart (m : Mach) : Mach :=
  let src := m.fg SHF_CTRL SHF_CTRL_source
  let e := m.enc src
  let pos : Int := if src < 2 then m.encPos src e else 0
  let m := { m with shf := { m.shf with hist := [], since := 0, nextSeq := none, overdue := false, recHomed := false, pos := pos, camFired := [] } }
  let m := (m.fs SHF_STAT SHF_STAT_homed (b2n (decide (src < 2) && e.homed))).fs SHF_STAT SHF_STAT_reverse (b2n (decide (src < 2) && e.back))
  if src < 2 then (m.wr SHF_ANGLE (BitVec.ofInt 32 pos)).fs REN_PICK REN_PICK_rev (twos 16 (pos / 65536)) else m

/-- A write of SHF_CTRL has taken effect (R49): a channel that was not counted before and is now starts afresh, and so do the
estimators whose channel or mode is new. -/
def Mach.shfCtrlDone (m : Mach) (old : Word) : Mach :=
  let was := m.wr SHF_CTRL old
  let m := forEach [0, 1] (fun ch m => if (m.isMaster ch || m.isAux ch) && !(was.isMaster ch || was.isAux ch) then m.encFresh ch else m) m
  let m := if m.fg SHF_CTRL SHF_CTRL_aux_mode = was.fg SHF_CTRL SHF_CTRL_aux_mode ∧ m.fg SHF_CTRL SHF_CTRL_source = was.fg SHF_CTRL SHF_CTRL_source
      ∧ was.shfOn then m else { m with shf := { m.shf with hist2 := [] } }
  let m := if m.shfOn && (!was.shfOn || m.fg SHF_CTRL SHF_CTRL_source != was.fg SHF_CTRL SHF_CTRL_source) then m.shfRestart else m
  m.evalLock m.ctime

/-! ### The frame grid (R45-R47) -/

/-- A step of chain time leaves every frame timer behind by it, and each takes the smaller correction (R47). -/
def Mach.rephase (m : Mach) (d : Int) : Mach :=
  forEach (upTo 48) (fun p m => m.setPort p { m.port p with phase := (((m.port p).phase - d + 499999) % 1000000) - 499999 }) m

/-- What is left of a frame timer's distance after one frame or microframe: at most 300 ppm of it are made good (R47). -/
def phaseAfter (phase : Int) (hs : Bool) : Int :=
  let s : Int := if hs then 37 else 300
  if 0 < phase then max 0 (phase - s) else min 0 (phase + s)

end Sys2Proof.Machine
end

