-- ==== Sys2Proof/Machine/CmdOps.lean ====
section
/-! DEFINITION. What the executing hub does before a command's own rules (R390, R584, R623), and the reading of its
parameters. -/

namespace Sys2Proof.Machine
open Reg

/-- The hub runs in recovery mode (R584). -/
def Mach.inRecovery (m : Mach) : Bool := m.fg JNL_STAT JNL_STAT_recovery == 1

/-- The commands served in recovery mode, from channel 1 only (R584): register accesses only to the GLB_ and JNL_ blocks. (DEDUCED, log 13) -/
def recoveryServes (c : Cmd) : Bool :=
  let op := c.opcode.toNat
  let a := c.p 8 3
  c.chan == 1#4 && (op == 0x00 || op == 0x01 || op == 0x90 || op == 0xA0 || op == 0xA1
    || ((op == 0x10 || op == 0x11) && (decide (a < 0x10000) || a / 0x10000 == 0x18)))

/-- The checks before a command's own rules, in the order of R390: CRC-32C, payload length and size parameters, every other
parameter, then the mode the hub is in. A core die that is held in reset or powered down executes nothing (R527, R583). A command that an ABORT ended before it was executed has no effect. (DESIGN CHOICE, log 10; DEDUCED, log 12; DEDUCED, log 13; DEDUCED, log 43) -/
def Mach.serve (m : Mach) (c : Cmd) (lenOk parOk : Bool) (f : Mach → Mach) : Mach :=
  if m.boot.stop || m.pwr.off then m
  else if m.cmd.gone.any (·.same c) then { m with cmd := { m.cmd with gone := m.cmd.gone.filter (fun d => !d.same c) } }
  else if !c.crcOk then m.reply c stBadCrc
  else if !lenOk then m.reply c stBadLength
  else if !parOk then m.reply c stBadOpcode
  else if m.inRecovery && !recoveryServes c then m.reply c stBadState
  else f m

/-- As `serve`, at a block behind the crossbar: while its domain is not ON the command's cells are held by back-pressure, and
nothing happens (R16). (DESIGN CHOICE, log 10; DEDUCED, log 11) -/
def Mach.serveIn (m : Mach) (dom : Nat) (c : Cmd) (lenOk parOk : Bool) (f : Mach → Mach) : Mach :=
  if m.domOn dom then m.serve c lenOk parOk f else m

/-- Commands of this hub reach the processor island: it lies in D1, behind output 55 of the crossbar in D3 (head of chapter 11). -/
def Mach.portOn (m : Mach) (direct : Bool) : Bool := direct || (m.domOn 1 && m.domOn 3)

/-- As `serve`, for a command that goes to output 55. It never waits: while D1 or D3 is not ON it is answered DOMAIN_OFF (head
of chapter 11). (DESIGN CHOICE, log 10; DEDUCED, log 11) -/
def Mach.serveCore (m : Mach) (c : Cmd) (lenOk parOk : Bool) (f : Mach → Mach) : Mach :=
  m.serve c lenOk parOk fun m => if m.portOn false then f m else m.reply c stDomainOff

/-- Whether a command has no payload. -/
def cmdBare (c : Cmd) : Bool := c.payload.isEmpty

/-- An effect that reads the DRAM contents. -/
def State.updD (s : State) (f : Sp Byte → Mach → Mach) : Host.Outcome State Fault Refusal := .next { s with m := f s.dram s.m }

end Sys2Proof.Machine
end

