-- ==== Sys2Proof/Machine/DramOps.lean ====
section
/-! DEFINITION. The DRAM controller's operations: geometry and address map (R240-R243), regions (R244), the check order
(R622), replies (R249), ECC and poison (R266-R269), the data effect of a request, and refresh (R262, R263). -/

namespace Sys2Proof

/-- The code of a DRAM reply status (R249). -/
def DramStatus.code : DramStatus → Nat
  | .ok => 0 | .corrected => 1 | .poisoned => 2 | .range => 3 | .denied => 4 | .hung => 5 | .notInit => 6 | .badRequest => 7

end Sys2Proof

namespace Sys2Proof.Machine
open Reg

/-! ### Requests (R246, R247) -/

/-- The requester index of an arrival channel (R246, R253). -/
def reqIndex (ch : Nat) : Nat := if ch = 0 then 6 else if ch ≤ 2 then 1 else ch - 1

/-- The crossbar port of a requester (R253). -/
def reqOut (idx : Nat) : Nat := if idx = 0 then 54 else if idx = 1 then 55 else if idx ≤ 5 then 47 + idx else if idx = 6 then 48 else 56

/-- A request packet read by R247. -/
def reqOf (p : Sys2Proof.DramPk) : DramReq :=
  let op := leAt p.head 0 1
  { requester := dramIndex p.src.val, perm := dramIndex p.src.val, cls := p.cls.val, op := op % 16, ack := bitN op 4, tag := leAt p.head 1 1,
    addr := leAt p.head 2 5, len := leAt p.head 8 2, ctx := leAt p.head 12 4, noDl := p.noDl, dl := p.dl.toNat, data := p.data,
    poison := p.poison, whole := p.whole }

/-- A request is a write. -/
def DramReq.isWrite (r : DramReq) : Bool := r.op == 2

/-- The header of a request is well formed (R248). -/
def DramReq.formOk (r : DramReq) : Bool :=
  (r.op == 1 || r.op == 2) && decide (1 ≤ r.len ∧ r.len ≤ 256 ∧ r.addr % 256 + r.len ≤ 256)

/-- The data of a write whose end mark has arrived are as many as its length says (R248). -/
def DramReq.dataOk (r : DramReq) : Bool := !r.isWrite || !r.whole || r.data.length == r.len

/-- Two requests of one requester in one class (R250). -/
def DramReq.sameStream (a b : DramReq) : Bool := a.requester == b.requester && a.cls == b.cls

/-! ### Geometry -/

/-- log2 of the bank-group count, log2 of the banks per group and the row bits of a configuration (R240), none where it is
not supported. -/
def dramGeom (ddr5 : Bool) (density : Nat) (x16 : Bool) : Option (Nat × Nat × Nat) :=
  match ddr5, density, x16 with
  | false, 0, false => some (2, 2, 16)
  | false, 1, false => some (2, 2, 17)
  | false, 0, true => some (1, 2, 16)
  | false, 1, true => some (1, 2, 17)
  | true, 1, false => some (3, 2, 16)
  | true, 2, false => some (3, 2, 17)
  | true, 1, true => some (2, 2, 16)
  | true, 2, true => some (2, 2, 17)
  | _, _, _ => none

/-- DDR5 rather than DDR4. -/
def Mach.ddr5 (m : Mach) : Bool := m.fg DMC_CFG DMC_CFG_gen == 1

/-- The geometry in force. -/
def Mach.geom (m : Mach) : Option (Nat × Nat × Nat) :=
  dramGeom m.ddr5 (m.fg DMC_CFG DMC_CFG_density) (m.fg DMC_CFG DMC_CFG_org == 1)

/-- The populated capacity in bytes (R243). -/
def Mach.capacity (m : Mach) : Nat :=
  match m.geom with
  | some (g, b, r) => 2 ^ (12 + g + b + m.fg DMC_CFG DMC_CFG_ranks_m1 + r)
  | none => Config.capacityOther (m.rg DMC_CFG)

/-- Code word size in bytes (R266). -/
def Mach.cwSize (m : Mach) : Nat := if m.ddr5 then 64 else 32

/-- Where a byte lies in the memory (R242). -/
structure DramAddr where
  rank : Nat
  group : Nat
  bank : Nat
  row : Nat
  col : Nat
  lane : Nat
  deriving DecidableEq, Repr

/-- The decoding of a byte address (R242). -/
def Mach.locate (m : Mach) (a : Nat) : DramAddr :=
  match m.geom with
  | none => ⟨0, 0, 0, 0, 0, 0⟩
  | some (g, b, r) =>
    let k := m.fg DMC_CFG DMC_CFG_ranks_m1
    let row := a / 2 ^ (12 + g + b + k) % 2 ^ r
    ⟨a / 2 ^ (12 + g + b) % 2 ^ k, Nat.xor (a / 2 ^ 8 % 2 ^ g) (row % 2 ^ g), Nat.xor (a / 2 ^ (8 + g) % 2 ^ b) (row / 2 ^ g % 2 ^ b), row,
      a / 2 ^ (8 + g + b) % 16 * 64 + a / 4 % 64, a % 4⟩

/-- The beat of a byte within its burst: column [2:0] on DDR4, [3:0] on DDR5 (R242). -/
def Mach.beat (m : Mach) (a : Nat) : Nat := (m.locate a).col % (if m.ddr5 then 16 else 8)

/-- The bank of an address among all banks of both ranks, and its row: what one open row is. -/
def Mach.bankRow (m : Mach) (a : Nat) : Nat × Nat := let x := m.locate a; ((x.rank * 8 + x.group) * 4 + x.bank, x.row)

/-- A read or write of a device is shown with where it goes (R242). -/
def Mach.showAccess (m : Mach) (write : Bool) (a : Nat) : Mach :=
  let x := m.locate a
  m.emit .dramDev [if write then 7 else 6, a, x.rank, x.group, x.bank, x.row, x.col, x.lane]

/-- The rank of an address. -/
def Mach.rankOf (m : Mach) (a : Nat) : Nat := (m.locate a).rank

/-- Accesses that a run of bytes touches (64 bytes each). -/
def accesses (a len : Nat) : Nat := if len = 0 then 0 else (a + len - 1) / 64 - a / 64 + 1

/-! ### Checks -/

/-- The lowest-numbered enabled region that contains a firkin (R244). -/
def Mach.regionOf (m : Mach) (firkin : Nat) : Option Nat :=
  (upTo 16).find? (fun n =>
    let base := m.fg (DMC_RGN_BASE n) DMC_RGN_BASE_firkin
    m.fg (DMC_RGN_ACC n) DMC_RGN_ACC_en == 1 && decide (base ≤ firkin)
      && decide (firkin ≤ base + m.fg (DMC_RGN_SIZE n) DMC_RGN_SIZE_size_m1))

/-- Whether a requester may read or write a firkin (R244). -/
def Mach.permitted (m : Mach) (idx firkin : Nat) (write : Bool) : Bool :=
  match m.regionOf firkin with
  | some n => bitN (m.fg (DMC_RGN_ACC n) (if write then DMC_RGN_ACC_wr else DMC_RGN_ACC_rd)) idx
  | none => false

/-- Whether ECC initialisation is complete. -/
def Mach.initDone (m : Mach) : Bool := m.fg DMC_STAT DMC_STAT_init_done == 1

/-- The checks 2 and 3 of R622 on an access, in their order. -/
def Mach.accessCheck (m : Mach) (addr len : Nat) : Option DramStatus :=
  if !m.initDone then some .notInit
  else if m.capacity < addr + len then some .range
  else none

/-- A refusal with DENIED is counted and logged (R244, R290). -/
def Mach.logDenied (m : Mach) (idx firkin : Nat) (write : Bool) : Mach :=
  let n := match m.regionOf firkin with | some n => n | none => 15
  ((m.inc DMC_DENY_CNT DMC_DENY_CNT_count).wr DMC_DENY_LOG
    (BitVec.ofNat 32 (n * 2 ^ 28 + idx * 2 ^ 24 + b2n write * 2 ^ 23 + firkin % 2 ^ 23))).ev DMC_STAT DMC_STAT_deny_ev

/-- The first check of R622 that a request fails as its header cell arrives; the region is checked at its grant (R246). -/
def Mach.reqCheck (m : Mach) (r : DramReq) : Option DramStatus :=
  if !r.formOk || !r.dataOk then some .badRequest else m.accessCheck r.addr r.len

/-- The header cell of a reply (R249). -/
def replyHeader (r : DramReq) (st : DramStatus) : List Byte :=
  [BitVec.ofNat 8 (r.op + 16 * b2n r.ack + 128), BitVec.ofNat 8 r.tag] ++ leBytes 5 r.addr ++ [BitVec.ofNat 8 st.code] ++ leBytes 2 r.len
    ++ [0, 0] ++ leBytes 4 r.ctx

/-- A reply of the controller leaves at input 53 for the port that the request came from, in its class and with its deadline
fields (R249); `bad` is the offset of the first data byte that is poisoned. An unacknowledged write has none, nor has an access of
the controller's own. -/
def Mach.dramReply (m : Mach) (r : DramReq) (st : DramStatus) (data : List Byte) (bad : Option Nat := none) : Mach :=
  if 8 ≤ r.requester ∨ (r.isWrite ∧ !r.ack) then m
  else
    let m := m.emit .dramReply [r.requester, r.cls, st.code, r.tag, r.addr, r.len, r.ctx, if r.noDl then 2 ^ 24 else r.dl] data
    let head := replyHeader r st
    m.form 53 { dst := reqOut r.requester, cls := r.cls, dl := if r.noDl then none else some r.dl }
      (if data.isEmpty then head else head ++ List.replicate 48 0 ++ data) (bad.map (64 + ·))

/-! ### Contents -/

/-- Bytes of the DRAM. (DESIGN CHOICE, log 2) -/
def dramRead (d : Sp Byte) (addr len : Nat) : List Byte := (upTo len).map (fun i => spGet 0 d (addr + i))

/-- Bytes written to the DRAM. -/
def dramWrite (d : Sp Byte) (addr : Nat) : List Byte → Sp Byte
  | [] => d
  | b :: bs => dramWrite (spSet 0 d addr b) (addr + 1) bs

/-- The addresses of the code words that a run of bytes touches. -/
def Mach.codeWords (m : Mach) (addr len : Nat) : List Nat :=
  let n := m.cwSize
  if len = 0 then [] else (upTo ((addr + len - 1) / n - addr / n + 1)).map (fun i => (addr / n + i) * n)

/-- A stored poison mark is set or cleared (R268). -/
def Mach.setBad (m : Mach) (a : Nat) (bad : Bool) : Mach := { m with dmc := { m.dmc with bad := spSet 0 m.dmc.bad a (b2n bad) } }

/-- A code word is stored poisoned. -/
def Mach.isBad (m : Mach) (a : Nat) : Bool := spGet 0 m.dmc.bad a == 1

/-! ### ECC events -/

/-- The kinds of ECC event (R289). -/
def eccCeBit : Nat := 1
def eccCePin : Nat := 2
def eccUe : Nat := 3
def eccStored : Nat := 4

/-- The ECC log (R269): a CE event does not replace a UE or STORED_POISON event while ue_ev is set. -/
def Mach.eccLog (m : Mach) (addr kind idx pin : Nat) (scrub : Bool) : Mach :=
  let old := m.fg DMC_ECC_LOG_HI DMC_ECC_LOG_HI_kind
  if (kind == eccCeBit || kind == eccCePin) && (old == eccUe || old == eccStored) && m.fg DMC_STAT DMC_STAT_ue_ev == 1 then m
  else (m.wr DMC_ECC_LOG_LO (BitVec.ofNat 32 addr)).wr DMC_ECC_LOG_HI (BitVec.ofNat 32
    (kind * 2 ^ 28 + idx * 2 ^ 24 + pin * 2 ^ 18 + b2n scrub * 2 ^ 17 + m.rankOf addr * 2 ^ 16 + addr / 2 ^ 32 % 256))

/-- A correction counts, and is reported where it first exceeds the limit within the window (R269). -/
def Mach.eccCorrected (m : Mach) (addr kind idx pin : Nat) (scrub : Bool) : Mach :=
  let m := (m.inc DMC_CE_CNT DMC_CE_CNT_count).eccLog addr kind idx pin scrub
  let live := m.dmc.ceTimes.filter (fun t => decide (m.ctime < t + m.fg DMC_ECC_CFG DMC_ECC_CFG_window * 1000000))
  let m := { m with dmc := { m.dmc with ceTimes := live ++ [m.ctime] } }
  if live.length = m.fg DMC_ECC_CFG DMC_ECC_CFG_thresh then (m.ev DMC_STAT DMC_STAT_ce_rate_ev).raise fEccCorrRate 0 else m

/-- An uncorrectable code word is counted, logged and reported (R267). -/
def Mach.eccUncorrectable (m : Mach) (addr idx : Nat) (scrub : Bool) : Mach :=
  (((m.inc DMC_UE_CNT DMC_UE_CNT_count).eccLog addr eccUe idx 0x3F scrub).ev DMC_STAT DMC_STAT_ue_ev).raise fEccUncorr idx

/-- A stored poison mark is found (R268). -/
def Mach.eccStoredPoison (m : Mach) (addr idx : Nat) : Mach :=
  (m.inc DMC_POISON_CNT DMC_POISON_CNT_count).eccLog addr eccStored idx 0x3F false

/-- The worse of two statuses of a completed request. -/
def worse (a b : DramStatus) : DramStatus :=
  if a = .poisoned ∨ b = .poisoned then .poisoned else if a = .corrected ∨ b = .corrected then .corrected else .ok

/-- One code word is read: what its reader gets, and the events of it. -/
def Mach.readCw (m : Mach) (a idx : Nat) (e : EccRes) : DramStatus × Mach :=
  if m.isBad a then (.poisoned, m.eccStoredPoison a idx)
  else match e with
    | .clean => (.ok, m)
    | .correctedBit pin => (.corrected, m.eccCorrected a eccCeBit idx pin.val false)
    | .correctedPin pin => (.corrected, m.eccCorrected a eccCePin idx pin.val false)
    | .uncorrectable => (.poisoned, m.eccUncorrectable a idx false)

/-- What ECC finds in the i-th code word of a request; nothing where the list ends. -/
def eccAt (l : List EccRes) (i : Nat) : EccRes := (l[i]?).getD .clean

/-- The earlier of two offsets. -/
def firstOf (a b : Option Nat) : Option Nat := if a.isSome then a else b

/-- The code words of a read, in ascending order (R267): the status and the first code word that is delivered poisoned. -/
def Mach.readCws (idx : Nat) : List Nat → List EccRes → Mach → DramStatus × Option Nat × Mach
  | [], _, m => (.ok, none, m)
  | a :: l, es, m =>
    let (s, m) := m.readCw a idx (eccAt es 0)
    let (s', p, m) := readCws idx l (es.drop 1) m
    (worse s s', firstOf (if s = .poisoned then some a else none) p, m)

/-- A burst is issued: it is shown, and the last 16 are kept for a replay (R271). -/
def Mach.burst (m : Mach) (write : Bool) (a : Nat) (data : List Byte) : Mach :=
  let l := m.dmc.bursts ++ [⟨write, a, data⟩]
  { m with dmc := { m.dmc with bursts := l.drop (l.length - 16) } }.showAccess write a

/-- The code words of a write, in ascending order: one that is covered whole is replaced, one covered in part is read, merged and
written (R251, R268). `poison` is the address from which the data are poisoned, `d` the contents with the data in them. -/
def Mach.writeCws (d : Sp Byte) (idx lo hi : Nat) (poison : Option Nat) : List Nat → List EccRes → Mach → DramStatus × Mach
  | [], _, m => (.ok, m)
  | a :: l, es, m =>
    let n := m.cwSize
    let late := match poison with | some p => decide (p < a + n) | none => false
    let (s, m) := if decide (lo ≤ a) && decide (a + n ≤ hi) then (DramStatus.ok, m.setBad a late)
      else
        let (s, m) := (m.burst false a []).readCw a idx (eccAt es 0)
        (s, m.setBad a (late || s = .poisoned))
    let (s', m) := writeCws d idx lo hi poison l (es.drop 1) (m.burst true a (dramRead d a n))
    (worse s s', m)

/-- A read of at most one block is carried out: status, data, the offset of the first poisoned byte. -/
def Mach.doRead (m : Mach) (d : Sp Byte) (idx addr len : Nat) (es : List EccRes) : DramStatus × List Byte × Option Nat × Mach :=
  let ws := m.codeWords addr len
  let m := forEach ws (fun a m => m.burst false a []) m
  let (s, p, m) := Mach.readCws idx ws es m
  (s, dramRead d addr len, p.map (· - addr), m)

/-- A write is carried out: status and contents. -/
def Mach.doWrite (m : Mach) (d : Sp Byte) (idx addr : Nat) (data : List Byte) (poison : Option Nat) (es : List EccRes) :
    DramStatus × Sp Byte × Mach :=
  let d := dramWrite d addr data
  let (s, m) := Mach.writeCws d idx addr (addr + data.length) (poison.map (addr + ·)) (m.codeWords addr data.length) es m
  (s, d, m)

/-- Data from whole-block reads of more than one request, in order, stopped at the first that fails a check of R622. -/
def Mach.readRun (d : Sp Byte) (idx : Nat) : Nat → Nat → Nat → Mach → DramStatus × List Byte × Mach
  | 0, _, _, m => (.ok, [], m)
  | k + 1, addr, len, m =>
    if len = 0 then (.ok, [], m)
    else
      let n := min len (256 - addr % 256)
      match m.accessCheck addr n, m.permitted idx (addr / 65536) false with
      | some st, _ => (st, [], m)
      | none, false => (.denied, [], m.logDenied idx (addr / 65536) false)
      | none, true =>
        let (s, data, _, m) := m.doRead d idx addr n []
        let (s', rest, m) := readRun d idx k (addr + n) (len - n) m
        (if s' = .range ∨ s' = .denied ∨ s' = .notInit then s' else worse s s', data ++ rest, m)

/-! ### Slots -/

/-- A slot of the bank scheduler. -/
def Mach.slot (m : Mach) (i : Nat) : Option DSlot := spGet none m.dmc.slots i

/-- Fill or free a slot. -/
def Mach.setSlot (m : Mach) (i : Nat) (x : Option DSlot) : Mach := { m with dmc := { m.dmc with slots := spSet none m.dmc.slots i x } }

/-- The granted requests, slot number first. -/
def Mach.held (m : Mach) : List (Nat × DSlot) :=
  (upTo 4).filterMap (fun i => (m.slot i).map (fun x => (i, x)))

/-- Two requests touch a common code word. -/
def Mach.overlap (m : Mach) (a b : DramReq) : Bool :=
  (m.codeWords a.addr a.len).any (fun x => (m.codeWords b.addr b.len).contains x)

/-- A new request goes to its requester's queue at the front arbiter. -/
def Mach.frontAdd (m : Mach) (r : DramReq) : Mach := { m with dmc := { m.dmc with front := m.dmc.front ++ [r] } }

/-- A refused request that no older one of its requester and class precedes: its reply may go (R250). -/
def Mach.mayRefuse (m : Mach) (r : DramReq) : Bool :=
  r.refuse.isSome && m.dmc.front.find? (·.sameStream r) == some r && !m.held.any (fun e => e.2.req.sameStream r)

/-- Refused requests are answered in the order of arrival of their requester and class (R250). -/
def Mach.answerRefused : Nat → Mach → Mach
  | 0, m => m
  | k + 1, m =>
    match m.dmc.front.find? m.mayRefuse with
    | none => m
    | some r => answerRefused k ({ m with dmc := { m.dmc with front := m.dmc.front.erase r } }.dramReply r (r.refuse.getD .ok) [])

/-- The same of granted requests whose data came out too few or too many. -/
def Mach.answerHeld : Nat → Mach → Mach
  | 0, m => m
  | k + 1, m =>
    match m.held.find? (fun e => e.2.req.refuse.isSome && m.held.all (fun x => !(decide (x.2.grant < e.2.grant) && x.2.req.sameStream e.2.req))) with
    | none => m
    | some (i, x) => answerHeld k ((m.setSlot i none).dramReply x.req (x.req.refuse.getD .ok) [])

/-- Answer every refused request whose turn has come. -/
def Mach.answerDue (m : Mach) : Mach := let m := Mach.answerHeld 4 m; Mach.answerRefused m.dmc.front.length m

/-! ### Data that arrive behind their header (R247, R257, R258) -/

/-- What still arrives of a request's packet is discarded up to its end mark (R258). -/
def Mach.drainRest (m : Mach) (r : DramReq) : Mach :=
  if r.whole then m else { m with dmc := { m.dmc with drain := m.dmc.drain ++ [(r.requester, r.cls)] } }

/-- A request is refused: it performs no access, and its reply goes in its turn (R250, R622). -/
def DramReq.refused (r : DramReq) (st : DramStatus) : DramReq := { r with refuse := some st, whole := true, data := [] }

/-- A request with another cell of its data; at the end mark their number is checked (R248). -/
def DramReq.more (r : DramReq) (bytes : List Byte) (poison last : Bool) : DramReq :=
  let r := { r with data := r.data ++ bytes, poison := firstOf r.poison (if poison then some r.data.length else none), whole := last }
  if r.dataOk then r else r.refused .badRequest

/-- A further cell of a request packet reaches output 53. -/
def Mach.dramMore (m : Mach) (src cls : Nat) (bytes : List Byte) (poison last : Bool) : Mach :=
  let idx := dramIndex src
  let mine := fun (r : DramReq) => r.requester == idx && r.cls == cls && !r.whole
  if m.dmc.drain.contains (idx, cls) then
    if last then { m with dmc := { m.dmc with drain := m.dmc.drain.erase (idx, cls) } } else m
  else
    let m := { m with dmc := { m.dmc with front := m.dmc.front.map (fun r => if mine r then r.more bytes poison last else r) } }
    let m := forEach m.held (fun e m => if mine e.2.req then m.setSlot e.1 (some { e.2 with req := e.2.req.more bytes poison last }) else m) m
    m.answerDue

/-! ### Refresh -/

/-- A rank's refresh account. -/
def Mach.acct (m : Mach) (rank : Nat) : Int := if rank = 0 then m.dmc.acct0 else m.dmc.acct1

/-- Set a rank's refresh account. -/
def Mach.setAcct (m : Mach) (rank : Nat) (v : Int) : Mach :=
  if rank = 0 then { m with dmc := { m.dmc with acct0 := v } } else { m with dmc := { m.dmc with acct1 := v } }

/-- F of R262: how many refreshes may be postponed while the rank is busy. -/
def Mach.postponeMax (m : Mach) : Nat := if m.ddr5 && m.fg DMC_CFG DMC_CFG_refresh == 0 then 2 else 4

/-- The granted requests of a rank. -/
def Mach.rankHeld (m : Mach) (rank : Nat) : List (Nat × DSlot) := m.held.filter (fun e => m.rankOf e.2.req.addr == rank)

/-- A refresh would interrupt a class 1 request a second time (R263). -/
def Mach.refreshBlocked (m : Mach) (rank : Nat) : Bool :=
  (m.rankHeld rank).any (fun e => e.2.started && e.2.interrupted && e.2.req.cls == 1)

/-- The rank is taken for a refresh or RFM; started requests on it are interrupted (R259, R262). -/
def Mach.takeRank (m : Mach) (rank : Nat) (rfm : Bool) : Mach :=
  let m := forEach (m.rankHeld rank) (fun e m => if e.2.started then m.setSlot e.1 (some { e.2 with interrupted := true }) else m) m
  { m with dmc := { m.dmc with taken := m.dmc.taken ++ [rank], rfmOn := if rfm then m.dmc.rfmOn ++ [rank] else m.dmc.rfmOn } }.emit .dramDev
    [if rfm then 1 else 0, rank]

/-- The ranks fitted. -/
def Mach.rankCount (m : Mach) : Nat := m.fg DMC_CFG DMC_CFG_ranks_m1 + 1

/-- The refresh engine looks at a rank (R262): an RFM that waits goes first, an idle rank is refreshed early, a busy one
once F refreshes are postponed and one more is due. A rank that the debug port holds is left until it is given back. -/
def Mach.refreshTry (m : Mach) (rank : Nat) : Mach :=
  if m.rankCount ≤ rank ∨ m.dmc.taken.contains rank ∨ m.dmc.alert ∨ m.dmc.debugHeld = some rank ∨ m.fg DMC_STAT DMC_STAT_selfref = 1 then m
  else if m.dmc.rfmDue.contains rank then
    if m.refreshBlocked rank then m
    else { m with dmc := { m.dmc with rfmDue := m.dmc.rfmDue.erase rank } }.takeRank rank true
  else if (m.rankHeld rank).isEmpty then
    if m.acct rank < 4 ∧ m.dmc.debugDue ≠ some rank then (m.setAcct rank (m.acct rank + 1)).takeRank rank false else m
  else if m.acct rank < -(m.postponeMax : Int) && !m.refreshBlocked rank then
    (m.setAcct rank (m.acct rank + 1)).takeRank rank false
  else m

/-- The debug port takes the rank it waits for, unless a refresh holds it (R259). -/
def Mach.debugTry (m : Mach) : Mach :=
  match m.dmc.debugDue with
  | none => m
  | some r => if m.dmc.taken.contains r || m.dmc.alert then m else { m with dmc := { m.dmc with debugHeld := some r, debugDue := none } }

/-- An emergency requester holds a rank (R259). -/
def Mach.rankTaken (m : Mach) (rank : Nat) : Bool := m.dmc.taken.contains rank || m.dmc.debugHeld == some rank

/-- A grant ends: its slot is free, refused requests behind it are answered, and a refresh that waited for it may go. -/
def Mach.freeSlot (m : Mach) (i : Nat) (rank : Nat) : Mach := (m.setSlot i none).answerDue.refreshTry rank

end Sys2Proof.Machine
end

