-- ==== Sys2Proof/Machine/Dram.lean ====
section
/-! DEFINITION. The events of the DRAM controller: requests, grants, completion, the watchdog, refresh, retraining,
temperature, ALERT_N and patrol scrub (R240-R276, R313-R316). -/

namespace Sys2Proof.Machine
open Reg

/-- The DRAM controller's domain is in service. -/
def Mach.dramUp (m : Mach) : Bool := m.domOn 4

/-! ### The memory engine (R252) -/

/-- The status of a command whose DRAM request ended with a status (R395). -/
def memStatus : DramStatus → Nat
  | .ok => stOk
  | .corrected => stOk
  | .poisoned => stMemPoisoned
  | .range => stMemRange
  | .denied => stMemDenied
  | .hung => stMemHung
  | .notInit => stMemNotInit
  | .badRequest => stBadLength

/-- The command is a MEM_FILL rather than a MEM_CRC. -/
def EngRun.fill (r : EngRun) : Bool := r.cmd.opcode == 0x22#8

/-- One past the last byte of its range. -/
def EngRun.stop (r : EngRun) : Nat := r.cmd.p 8 5 + leAt r.cmd.payload 0 8

/-- Bytes 12-15 of its reply: the accesses written, or the CRC-32C of the bytes read (R393, R400). -/
def EngRun.result (r : EngRun) : Nat := if r.fill then f12 ((r.next - r.cmd.p 8 5) / 64) else f12 (~~~r.crc).toNat

/-- The engine's command ends. -/
def Mach.engEnd (m : Mach) (r : EngRun) (status : Nat) : Mach :=
  { m with dmc := { m.dmc with engRun := none } }.reply r.cmd status (if r.fill || status == stOk then r.result else 0)

/-- The access that the engine makes next, as requester 9, under the permissions of the command's channel (R246). -/
def EngRun.req (r : EngRun) : DramReq :=
  { requester := 9, perm := reqIndex r.cmd.arrival.val, cls := 4, op := if r.fill then 2 else 1, addr := r.next, len := 64, noDl := true,
    data := if r.fill then (upTo 16).flatMap (fun _ => slice r.cmd.payload 8 4) else [] }

/-- The engine goes on with its next access, checked by R622, or ends. -/
def Mach.engNext (m : Mach) (r : EngRun) : Mach :=
  if r.stop ≤ r.next then m.engEnd r stOk
  else match m.accessCheck r.next 64 with
    | some st => m.engEnd r (memStatus st)
    | none => { m with dmc := { m.dmc with engRun := some r } }.frontAdd r.req

/-- An access of the engine has been made: a poisoned one ends the command (R395). -/
def Mach.engDid (m : Mach) (st : DramStatus) (data : List Byte) : Mach :=
  match m.dmc.engRun with
  | none => m
  | some r =>
    if st = .poisoned then m.engEnd r stMemPoisoned
    else
      let lo := r.cmd.p 8 5
      let part := if r.fill then [] else slice data (lo - r.next) (min (r.next + 64) r.stop - max r.next lo)
      m.engNext { r with next := r.next + 64, crc := part.foldl (crcByte 0x82F63B78#32) r.crc }

/-- An access of the engine ends without being made. -/
def Mach.engFail (m : Mach) (st : DramStatus) : Mach :=
  match m.dmc.engRun with
  | none => m
  | some r => m.engEnd r (memStatus st)

/-! ### Requests and grants -/

/-- A request reaches output 53 and is checked (R622): one that fails a check is answered in its turn (R250). Outside ON it waits
in the crossbar (R274). -/
def Mach.dramArrive (m : Mach) (p : Sys2Proof.DramPk) : Mach :=
  if !m.dramUp then m
  else
    let r := reqOf p
    match m.reqCheck r with
    | some st => ((m.drainRest r).frontAdd (r.refused st)).answerDue
    | none => if r.isWrite then m.frontAdd r else (m.drainRest r).frontAdd { r with data := [], whole := true }

def execDramRequestArrive (p : DramPk) (s : State) : Host.Outcome State Fault Refusal := s.upd (·.dramArrive p)

/-- A requester's quota: none for an ordinary requester, else what is used and what the window grants (R255). -/
def Mach.quota (m : Mach) (idx : Nat) : Option (Nat × Nat) :=
  let q := if idx = 1 then m.fg DMC_QUOTA DMC_QUOTA_proc else if 2 ≤ idx ∧ idx ≤ 5 then m.fg DMC_QUOTA DMC_QUOTA_chain else 0
  if q = 0 then none else some (if idx = 1 then m.dmc.usedProc else m.dmc.usedChain, q)

/-- A requester is high-priority. -/
def Mach.high (m : Mach) (idx : Nat) : Bool := (m.quota idx).isSome

/-- A requester is masked until the window ends (R255). -/
def Mach.masked (m : Mach) (idx : Nat) : Bool := match m.quota idx with | some (u, q) => decide (q ≤ u) | none => false

/-- A requester's head request: the first that is not refused and has no refused one of its class before it (R250). -/
def headOf (i : Nat) : List Nat → List DramReq → Option DramReq
  | _, [] => none
  | bar, r :: l =>
    if r.requester ≠ i then headOf i bar l
    else if r.refuse.isSome then headOf i (r.cls :: bar) l
    else if bar.contains r.cls then headOf i bar l
    else some r

/-- The head requests that take part in a grant, lowest requester first (R253, R254). -/
def Mach.heads (m : Mach) : List DramReq := (upTo 10).filterMap (fun i => if m.masked i then none else headOf i [] m.dmc.front)

/-- The request with the earliest deadline; no_deadline is later than every stamp, and ties go to the first (R43, R254). -/
def earliest : List DramReq → Option DramReq
  | [] => none
  | r :: l =>
    match earliest l with
    | none => some r
    | some q => if !q.noDl && (r.noDl || stampLt q.dl r.dl) then some q else some r

/-- The request that the front arbiter chooses (R254). -/
def Mach.choose (m : Mach) : Option DramReq :=
  let l := m.heads
  match l.find? (fun r => m.high r.requester) with
  | some r => some r
  | none =>
    let share := m.fg DMC_ARB DMC_ARB_share
    let open' := l.filter (·.noDl)
    if share ≠ 0 ∧ share ≤ m.dmc.stamped ∧ !open'.isEmpty then earliest open' else earliest l

/-- A grant counts against its requester's quota and in the share rule (R255, R256). -/
def Mach.countGrant (m : Mach) (r : DramReq) : Mach :=
  let n := accesses r.addr r.len
  if m.high r.requester then
    if r.requester = 1 then { m with dmc := { m.dmc with usedProc := m.dmc.usedProc + n } }
    else { m with dmc := { m.dmc with usedChain := m.dmc.usedChain + n } }
  else
    let waits := m.heads.any (·.noDl)
    { m with dmc := { m.dmc with stamped := if r.noDl || !waits then 0 else m.dmc.stamped + 1 } }

/-- The free slots of the bank scheduler. -/
def Mach.freeSlots (m : Mach) : List Nat := (upTo 4).filter (fun i => m.slot i = none)

/-- What a receiver puts into the context of a command's DRAM request: the model's own choice (R247 leaves it to the requester). (DEDUCED, log 24) -/
def cmdCtx (c : Cmd) : Nat := 2 ^ 31 + c.origin.val + 32 * c.chan.toNat + 512 * c.gen.toNat

/-- The grant of its first request is the commit point of MEM_WR (R393). -/
def Mach.commitGrant (m : Mach) (r : DramReq) : Mach :=
  { m with cmd := { m.cmd with run := m.cmd.run.map (fun x =>
      if x.cmd.opcode == 0x21#8 && x.cmd.tag.toNat == r.tag && r.ctx == cmdCtx x.cmd then { x with committed := true } else x) } }

/-- The MEM_WR that an ABORT ended before the grant of this request (R398). -/
def Mach.killedBy (m : Mach) (r : DramReq) : Option Cmd :=
  if r.isWrite then m.cmd.killed.find? (fun c => c.tag.toNat == r.tag && r.ctx == cmdCtx c) else none

/-- The request of an aborted MEM_WR goes away ungranted. (DEDUCED, log 43) -/
def Mach.dropKilled (m : Mach) (r : DramReq) (c : Cmd) : Mach :=
  (({ m with cmd := { m.cmd with killed := m.cmd.killed.erase c },
             dmc := { m.dmc with front := m.dmc.front.erase r } } : Mach).drainRest r).answerDue

/-- The regions in force permit the request (R244, R246); patrol scrub is not checked. -/
def Mach.mayAccess (m : Mach) (r : DramReq) : Bool := r.requester == 8 || m.permitted r.perm (r.addr / 65536) r.isWrite

/-- A request is refused DENIED as its grant falls due (R244). -/
def Mach.deny (m : Mach) (r : DramReq) : Mach :=
  let m := m.logDenied r.perm (r.addr / 65536) r.isWrite
  if r.requester = 9 then { m with dmc := { m.dmc with front := m.dmc.front.erase r } }.engFail .denied
  else ({ m with dmc := { m.dmc with front := m.dmc.front.replace r (r.refused .denied) } }.drainRest r).answerDue

/-- With a free slot the front arbiter grants one request, under the permissions in force now (R246, R254). -/
def Mach.frontArbGrant (m : Mach) (t : Nat) : Mach :=
  let m := m.at_ t
  if !m.dramUp || m.dmc.stopGrants then m
  else match m.freeSlots, m.choose with
    | i :: _, some r =>
      if let some c := m.killedBy r then m.dropKilled r c
      else if !m.mayAccess r then m.deny r
      else
        let m := m.countGrant r
        let m := { m with dmc := { m.dmc with front := m.dmc.front.erase r, grants := m.dmc.grants + 1 } }
        (m.setSlot i (some ⟨r, m.dmc.grants, 0, false, false⟩)).commitGrant r
    | _, _ => m

def execFrontArbGrant (t : Nat) (s : State) : Host.Outcome State Fault Refusal := s.upd (·.frontArbGrant t)

/-- A quota window ends (R255). -/
def execQuotaWindowEnd (s : State) : Host.Outcome State Fault Refusal :=
  s.upd (fun m => { m with dmc := { m.dmc with usedProc := 0, usedChain := 0 } })

/-! ### The bank scheduler -/

/-- Cells of a read's reply. -/
def DramReq.replyCells (r : DramReq) : Nat := if 8 ≤ r.requester then 0 else 1 + (r.len + 63) / 64

/-- Input 53 has room for a read's reply beside the replies of the reads that have started (R257). -/
def Mach.readRoom (m : Mach) (r : DramReq) : Bool :=
  let others := (m.held.filter (fun e => e.2.started && !e.2.req.isWrite && e.2.req.cls == r.cls)).foldl (fun n e => n + e.2.req.replyCells) 0
  r.replyCells == 0 || m.roomAt 53 r.cls (others + r.replyCells)

/-- What a request needs before its first access (R257): a write its own data, after those of every write granted before it, since
the write path is one and in order; a read room for its reply. (DEDUCED, log 24) -/
def Mach.dataReady (m : Mach) (x : DSlot) : Bool :=
  if x.req.isWrite then x.req.whole && m.held.all (fun e => !(decide (e.2.grant < x.grant) && e.2.req.isWrite && !e.2.req.whole))
  else m.readRoom x.req

/-- A granted request may start (R250, R257, R259, R271). -/
def Mach.mayStart (m : Mach) (e : Nat × DSlot) : Bool :=
  !e.2.started && e.2.req.refuse.isNone && !m.dmc.alert && !m.rankTaken (m.rankOf e.2.req.addr) && m.dataReady e.2
    && !m.held.any (fun x => decide (x.2.grant < e.2.grant)
        && ((!x.2.started && x.2.req.sameStream e.2.req) || m.overlap x.2.req e.2.req))

/-- A request is due: by passes, or by a deadline no more than the slack ahead (R260). -/
def Mach.due (m : Mach) (x : DSlot) : Bool :=
  decide (m.fg DMC_SCHED DMC_SCHED_pass_max ≤ x.passes)
    || (!x.req.noDl && decide (stampDiff x.req.dl (stamp m.ctime) * 64 ≤ m.fg DMC_SCHED DMC_SCHED_slack * 1000))

/-- The oldest of a list of slots. -/
def oldest : List (Nat × DSlot) → Option (Nat × DSlot)
  | [] => none
  | e :: l => match oldest l with
    | some x => if x.2.grant < e.2.grant then some x else some e
    | none => some e

/-- The request that the bank scheduler starts (R260). `openRows` lists bank and open row, `ready` when each slot's bank is
ready. -/
def Mach.startPick (m : Mach) (openRows : List (Nat × Nat)) (ready : List Nat) : Option (Nat × DSlot) :=
  let l := m.held.filter m.mayStart
  let dues := l.filter (fun e => m.due e.2)
  if !dues.isEmpty then oldest dues
  else
    let hit := l.filter (fun e => openRows.contains (m.bankRow e.2.req.addr))
    if !hit.isEmpty then oldest hit
    else
      let at' := fun (e : Nat × DSlot) => (ready[e.1]?).getD 0
      oldest (l.filter (fun e => l.all (fun x => decide (at' e ≤ at' x))))

/-- The bank scheduler starts a request and counts one pass against each older one that waits (R260, R261). -/
def Mach.bankScheduleStart (m : Mach) (openRows : List (Nat × Nat)) (ready : List Nat) (t : Nat) : Mach :=
  let m := m.at_ t
  match m.startPick openRows ready with
  | none => m
  | some (i, x) =>
    let m := forEach m.held (fun e m =>
      if decide (e.2.grant < x.grant) && !e.2.started then m.setSlot e.1 (some { e.2 with passes := e.2.passes + 1 }) else m) m
    m.setSlot i (some { x with started := true })

def execBankScheduleStart (openRows : List (Nat × Nat)) (ready : List Nat) (t : Nat) (s : State) :
    Host.Outcome State Fault Refusal := s.upd (·.bankScheduleStart openRows ready t)

/-! ### Tracking (R313, R315) -/

/-- The trained value of a lane's read strobe or write level (R315): kept beside the registers. -/
def baseOf (m : Mach) (lane : Nat) (wr : Bool) : Nat := spGet 0 m.dpy.base (2 * lane + b2n wr)

/-- The largest difference, sign kept, of a rank's lanes from their trained values (R315). -/
def Mach.driftOf (m : Mach) (rank : Nat) (wr : Bool) : Int :=
  (upTo 5).foldl (fun (d : Int) l =>
    let n := 5 * rank + l
    let now := if wr then m.fg (DPY_LANE_WR n) DPY_LANE_WR_wr_lvl else m.fg (DPY_LANE_RD n) DPY_LANE_RD_rd_dqs
    let e : Int := (now : Int) - baseOf m n wr
    if d.natAbs < e.natAbs then e else d) 0

/-- A difference as the 8-bit field shows it: one beyond the field is held at its end. (DESIGN CHOICE, log 40) -/
def tap8 (d : Int) : Nat := twos 8 (max (-128) (min 127 d))

/-- The drift of a rank is shown, and reported where it exceeds the limit while drift_ev is clear (R315). -/
def Mach.driftCheck (m : Mach) (rank : Nat) : Mach :=
  let rd := m.driftOf rank false
  let wr := m.driftOf rank true
  let m := (m.fs (DPY_DRIFT rank) DPY_DRIFT_rd_drift (tap8 rd)).fs (DPY_DRIFT rank) DPY_DRIFT_wr_drift (tap8 wr)
  let limit := m.fg DPY_RETRAIN DPY_RETRAIN_limit
  if (decide (limit < rd.natAbs) || decide (limit < wr.natAbs)) && m.fg DPY_STAT DPY_STAT_drift_ev == 0 then
    (m.ev DPY_STAT DPY_STAT_drift_ev).raise fTrainDrift rank
  else m

/-- A delay moves by one tap; at the end of its range it stays, and reaching the end sets range_ev (R315). -/
def Mach.moveTap (m : Mach) (a : Nat) (f : Fd) (top : Nat) (up : Bool) : Mach :=
  let v := m.fg a f
  let n := if up then min (v + 1) top else v - 1
  if n = v then (if m.fg DPY_STAT DPY_STAT_range_ev == 1 then m else m.ev DPY_STAT DPY_STAT_range_ev)
  else if n = 0 ∨ n = top then (m.fs a f n).ev DPY_STAT DPY_STAT_range_ev
  else m.fs a f n

/-- What read tracking finds of a lane: which way its strobe lies. -/
def moveOf (l : List (Nat × Bool)) (lane : Nat) : Option Bool := (l.find? (fun e => e.1 == lane)).map (·.2)

/-- Read tracking at a read burst (R313): each lane of the rank moves its gate and rd_dqs at most one tap, and at most once in
1 µs. (DEDUCED, log 40) -/
def Mach.readTrack (m : Mach) (rank : Nat) (track : List (Fin 10 × Bool)) : Mach :=
  if m.fg DPY_CTRL DPY_CTRL_retrain_en == 0 || m.fg DPY_STAT DPY_STAT_trained == 0 then m
  else
    let l := track.map (fun e => (e.1.val, e.2))
    let m := forEach (upTo 5) (fun k m =>
      let n := 5 * rank + k
      let last := spGet 0 m.dpy.lastTrack n
      match moveOf l n with
      | none => m
      | some up =>
        if last ≠ 0 ∧ m.ctime + 1 < last + 1000 then m
        else
          let m := { m with dpy := { m.dpy with lastTrack := spSet 0 m.dpy.lastTrack n (m.ctime + 1) } }
          (m.moveTap (DPY_LANE_GATE n) DPY_LANE_GATE_gate 4095 up).moveTap (DPY_LANE_RD n) DPY_LANE_RD_rd_dqs 1023 up) m
    if l.isEmpty then m else m.driftCheck rank

/-! ### Completion -/

/-- A started request may make its last access: no emergency requester holds its rank, no alert has stopped issuing, and no older
one of its requester and class is still to be answered (R250, R259, R271). -/
def Mach.mayComplete (m : Mach) (x : DSlot) : Bool :=
  x.started && !m.dmc.alert && !m.rankTaken (m.rankOf x.req.addr)
    && m.held.all (fun e => !(decide (e.2.grant < x.grant) && e.2.req.sameStream x.req))

/-- A request's last access completes (R249-R252): its effect on the contents, ECC, its reply, and the end of its grant. A read of
patrol scrub ends by its own row. -/
def completeReq (m : Mach) (d : Sp Byte) (slot : Nat) (ecc : List EccRes) (track : List (Fin 10 × Bool)) (t : Nat) : Mach × Sp Byte :=
  let m := m.at_ t
  match m.slot slot with
  | none => (m, d)
  | some x =>
    let r := x.req
    let rank := m.rankOf r.addr
    if !m.mayComplete x || r.requester == 8 then (m, d)
    else if r.isWrite then
      let (st, d, m) := m.doWrite d r.requester r.addr r.data r.poison ecc
      let m := (m.dramReply r st []).freeSlot slot rank
      (if r.requester = 9 then m.engDid .ok [] else m, d)
    else
      let (st, data, bad, m) := m.doRead d r.requester r.addr r.len ecc
      let m := ((m.readTrack rank track).dramReply r st data bad).freeSlot slot rank
      (if r.requester = 9 then m.engDid st data else m, d)

def execDramRequestComplete (slot : Fin 4) (ecc : List EccRes) (track : List (Fin 10 × Bool)) (t : Nat) (s : State) :
    Host.Outcome State Fault Refusal :=
  let (m, d) := completeReq s.m s.dram slot.val ecc track t
  .next { s with m := m, dram := d }

/-- The grant-hold watchdog expires (R258): the `done` accesses already made stay, the request ends HUNG, and what still arrives
of its data is discarded. It does not expire while an emergency requester holds the DRAM. -/
def arbHang (m : Mach) (d : Sp Byte) (slot done : Nat) : Mach × Sp Byte :=
  match m.slot slot with
  | none => (m, d)
  | some x =>
    if m.dmc.debugHeld.isSome || !m.dmc.taken.isEmpty then (m, d)
    else
      let r := x.req
      let part := r.data.take (if done = 0 then 0 else 64 * (r.addr / 64 + done) - r.addr)
      let (d, m) := if r.isWrite && x.started then let (_, d, m) := m.doWrite d r.requester r.addr part r.poison []; (d, m) else (d, m)
      let m := (m.inc DMC_HANG_CNT DMC_HANG_CNT_count).wr DMC_HANG_LOG (BitVec.ofNat 32
        (r.requester * 2 ^ 24 + b2n r.isWrite * 2 ^ 23 + r.addr / 65536 % 2 ^ 23))
      let m := (m.ev DMC_STAT DMC_STAT_hang_ev).raise fArbHang r.requester
      let m := ((m.drainRest r).dramReply r .hung []).freeSlot slot (m.rankOf r.addr)
      (if r.requester = 9 then m.engFail .hung else m, d)

def execArbHang (slot done : Fin 4) (s : State) : Host.Outcome State Fault Refusal :=
  let (m, d) := arbHang s.m s.dram slot.val done.val
  .next { s with m := m, dram := d }

/-! ### Refresh, temperature, alert, debug port -/

/-- A refresh or RFM falls due for a fitted rank (R262); a rate change takes effect at this tREFI boundary (R265). -/
def Mach.refreshDue (m : Mach) (rank : Nat) (rfm : Bool) : Mach :=
  if m.fg DMC_STAT DMC_STAT_selfref = 1 ∨ m.rankCount ≤ rank ∨ !m.dramUp then m
  else
    let m := if rfm then { m with dmc := { m.dmc with rfmDue := m.dmc.rfmDue ++ [rank] } }
      else (m.fs DMC_STAT DMC_STAT_hot (b2n m.dmc.hotNext)).setAcct rank (m.acct rank - 1)
    m.refreshTry rank

def execRefreshDue (rank : Fin 2) (rfm : Bool) (s : State) : Host.Outcome State Fault Refusal := s.upd (·.refreshDue rank.val rfm)

/-- A refresh or RFM of a rank ends: the interrupted request goes on, what is due next may follow, and then the debug port has its
turn (R259, R262). -/
def Mach.refreshComplete (m : Mach) (rank : Nat) : Mach :=
  if !m.dmc.taken.contains rank then m
  else ({ m with dmc := { m.dmc with taken := m.dmc.taken.erase rank, rfmOn := m.dmc.rfmOn.erase rank } }.refreshTry rank).debugTry

def execRefreshComplete (rank : Fin 2) (s : State) : Host.Outcome State Fault Refusal := s.upd (·.refreshComplete rank.val)

/-- The free bytes that a DDR4 round leaves in the last 64 bytes of the capacity (R314). (DESIGN CHOICE, log 7) -/
def Mach.freeBytes : Nat → Mach → List Byte × Mach
  | 0, m => ([], m)
  | k + 1, m =>
    let (v, m) := m.takeFree
    let (l, m) := freeBytes k m
    (leBytes 8 v ++ l, m)

/-- A retraining round of a rank may run: with retraining on and a trained PHY, in the slices after a refresh of the rank, which
still holds it (R264, R314, R316). -/
def Mach.roundRuns (m : Mach) (rank : Nat) : Bool :=
  m.dramUp && m.fg DPY_CTRL DPY_CTRL_retrain_en == 1 && m.fg DPY_STAT DPY_STAT_trained == 1 && m.fg DMC_STAT DMC_STAT_selfref == 0
    && m.dmc.taken.contains rank && !m.dmc.rfmOn.contains rank && !m.dmc.alert

/-- A retraining round of a rank (R314, R315): calibration, on DDR4 a write to the last 64 bytes whose data the spec does
not give, and one tap toward the centre for each lane that moves. (DEDUCED, log 40) -/
def retrainRound (m : Mach) (d : Sp Byte) (rank : Nat) (moves : List (Fin 5 × Bool)) : Mach × Sp Byte :=
  if !m.roundRuns rank then (m, d)
  else
    let m := m.emit .dramDev [5, rank]
    let (d, m) := if m.ddr5 then (d, m)
      else
        let (bs, m) := m.freeBytes 8
        let a := m.capacity - 64
        (dramWrite d a bs, (m.setBad a false).setBad (a + 32) false)
    let l := moves.map (fun e => (e.1.val, e.2))
    let m := forEach (upTo 5) (fun k m =>
      let a := DPY_LANE_WR (5 * rank + k)
      match moveOf l k with
      | none => m
      | some up => (m.moveTap a DPY_LANE_WR_wr_lvl 511 up).moveTap a DPY_LANE_WR_wr_dq 1023 up) m
    ((m.sat (DPY_DRIFT rank) DPY_DRIFT_rounds).driftCheck rank, d)

def execRetrainRound (rank : Fin 2) (moves : List (Fin 5 × Bool)) (s : State) : Host.Outcome State Fault Refusal :=
  let (m, d) := retrainRound s.m s.dram rank.val moves
  .next { s with m := m, dram := d }

/-- The highest of a list of device temperatures, `low` where the list is empty. -/
def highest (low : Int) : List Sys2Proof.DevTemp → Int
  | [] => low
  | x :: l => l.foldl (fun h y => max h y.t) x.t

/-- The estimate of the DRAM case temperature (R265): the junction less the offset, or the highest that the devices report. -/
def Mach.estimate (m : Mach) (junction : Int) (devs : List Sys2Proof.DevTemp) : Int :=
  if m.fg DMC_TEMP DMC_TEMP_src == 1 then highest (sext 8 (m.fg DMC_TEMP DMC_TEMP_temp)) devs else junction - m.fg DMC_TEMP DMC_TEMP_offset

/-- The 32 ms temperature estimate (R265): the rate that the next tREFI boundary takes up, and TEMP_HIGH as the range is left. -/
def Mach.tempEstimate (m : Mach) (junction : Int) (devs : List Sys2Proof.DevTemp) : Mach :=
  if !m.dramUp then m
  else
    let est := m.estimate junction devs
    let hot := if m.ddr5 then devs.any (·.hot) else if 85 < est then true else if est < 82 then false else m.dmc.hotNext
    let tooHot := decide (95 < est) || (m.ddr5 && devs.any (·.beyond))
    let m' := m.fs DMC_TEMP DMC_TEMP_temp (tap8 est)
    let m' := { m' with dmc := { m'.dmc with hotNext := hot, tooHot := tooHot } }
    if tooHot && !m.dmc.tooHot then (m'.ev DMC_STAT DMC_STAT_temp_ev).raise fTempHigh 0 else m'

def execTempEstimate (junction : Int) (devs : List DevTemp) (s : State) : Host.Outcome State Fault Refusal :=
  s.upd (·.tempEstimate junction devs)

/-- ALERT_N is in use: DDR4 with write CRC or command/address parity (R241, R271). -/
def Mach.alertUsed (m : Mach) : Bool := !m.ddr5 && (m.fg DMC_CFG DMC_CFG_wcrc == 1 || m.fg DMC_CFG DMC_CFG_capar == 1)

/-- A device asserts ALERT_N: issuing stops; the fourth replay in a row that the same burst alerts is reported (R271). -/
def Mach.dramAlert (m : Mach) (rank burst : Nat) : Mach :=
  if !m.alertUsed then m
  else
    let again := m.dmc.alertBurst == some burst
    let n := if again then m.dmc.replays else 0
    let m := { m with dmc := { m.dmc with alert := true, alertBurst := some burst, replays := n } }
    if n = 4 then (m.ev DMC_STAT DMC_STAT_alert_ev).raise fDramAlert rank else m

def execDramAlert (rank : Fin 2) (burst : Nat) (s : State) : Host.Outcome State Fault Refusal := s.upd (·.dramAlert rank.val burst)

/-- ALERT_N ends: all banks are precharged and the last 16 bursts are replayed in their order (R271). -/
def Mach.alertEnd (m : Mach) (rank : Nat) : Mach :=
  if !m.dmc.alert then m
  else
    let m := { m with dmc := { m.dmc with alert := false, replays := m.dmc.replays + 1 } }
    let m := forEach (upTo m.rankCount) (fun k m => m.emit .dramDev [3, k]) m
    let m := forEach m.dmc.bursts (fun b m => m.emit .dramDev [2, rank, b2n b.write, b.addr] b.data) m
    (((m.inc DMC_ALERT_CNT DMC_ALERT_CNT_count).refreshTry 0).refreshTry 1).debugTry

def execAlertNEnd (rank : Fin 2) (s : State) : Host.Outcome State Fault Refusal := s.upd (·.alertEnd rank.val)

/-- The unlocked debug port asks for a rank, which it takes at the next burst boundary, or gives it back (R259). (DEDUCED, log 41) -/
def Mach.debugAccess (m : Mach) (rank : Nat) (on : Bool) : Mach :=
  if !m.dramUp then m
  else if on then
    if m.rankCount ≤ rank ∨ m.dmc.debugHeld.isSome then m else { m with dmc := { m.dmc with debugDue := some rank } }.debugTry
  else if m.dmc.debugHeld = some rank ∨ m.dmc.debugDue = some rank then
    { m with dmc := { m.dmc with debugHeld := none, debugDue := none } }.refreshTry rank
  else m

def execDebugPortAccess (rank : Fin 2) (on : Bool) (s : State) : Host.Outcome State Fault Refusal := s.upd (·.debugAccess rank.val on)

/-! ### Patrol scrub -/

/-- The DDR5 ECS counts are read into DMC_ECSn: on x16 the fields of devices 3 and 4 of a rank read 0, on DDR4 all (R270,
R291). -/
def Mach.ecsRead (m : Mach) (counts : List Word) : Mach :=
  forEach (upTo 10) (fun n m =>
    let absent := !m.ddr5 || (m.fg DMC_CFG DMC_CFG_org == 1 && decide (3 ≤ n % 5)) || (decide (5 ≤ n) && m.fg DMC_CFG DMC_CFG_ranks_m1 == 0)
    m.wr (DMC_ECS n) (if absent then 0 else (counts[n]?).getD (m.rg (DMC_ECS n)))) m

/-- The request by which patrol scrub, as requester 8, reads the next code word (R253). -/
def Mach.scrubReq (m : Mach) : DramReq :=
  { requester := 8, perm := 8, cls := 4, op := 1, addr := m.dmc.scrub, len := m.cwSize, noDl := true }

/-- Patrol scrub moves on; at the end of a sweep the ECS counts are read (R270, R272). -/
def Mach.scrubNext (m : Mach) (counts : List Word) : Mach :=
  let next := m.dmc.scrub + m.cwSize
  if m.capacity ≤ next then { m with dmc := { m.dmc with scrub := 0 } }.ecsRead counts
  else { m with dmc := { m.dmc with scrub := next } }

/-- What patrol scrub does with the code word it has read (R272): a correction is written back within the same access, an
uncorrectable one is left, a stored poison mark is counted only. -/
def Mach.scrubWord (m : Mach) (d : Sp Byte) (a : Nat) (ecc : EccRes) : Mach :=
  let back := fun (m : Mach) => m.burst true a (dramRead d a m.cwSize)
  let m := m.burst false a []
  if m.isBad a then m.inc DMC_POISON_CNT DMC_POISON_CNT_count
  else match ecc with
    | .clean => m
    | .correctedBit pin => back (m.eccCorrected a eccCeBit 8 pin.val true)
    | .correctedPin pin => back (m.eccCorrected a eccCePin 8 pin.val true)
    | .uncorrectable => m.eccUncorrectable a 8 true

/-- Patrol scrub (R253, R272): a read that falls due asks the front arbiter, and once the bank scheduler has started it, it is
made. (DEDUCED, log 40) -/
def Mach.patrolScrub (m : Mach) (d : Sp Byte) (ecc : EccRes) (counts : List Word) (track : List (Fin 10 × Bool)) (t : Nat) : Mach :=
  let m := m.at_ t
  match m.held.find? (fun e => e.2.req.requester == 8) with
  | some (i, x) =>
    if !m.mayComplete x then m
    else
      let a := x.req.addr
      let rank := m.rankOf a
      (((m.scrubWord d a ecc).readTrack rank track).scrubNext counts).freeSlot i rank
  | none =>
    if !m.dramUp || !m.initDone || m.fg DMC_SCRUB DMC_SCRUB_enable == 0 || m.fg DMC_STAT DMC_STAT_selfref == 1 then m
    else if m.dmc.front.any (fun r => r.requester == 8) then m
    else m.frontAdd m.scrubReq

def execPatrolScrubRead (ecc : EccRes) (counts : List Word) (track : List (Fin 10 × Bool)) (t : Nat) (s : State) :
    Host.Outcome State Fault Refusal := s.updD (fun d m => m.patrolScrub d ecc counts track t)

/-- The memory engine has written every code word with zeros (R273). -/
def execEccInitDone (s : State) : Host.Outcome State Fault Refusal :=
  if s.m.dmc.initing then
    .next { s with m := { s.m with dmc := { s.m.dmc with initing := false, bad := [] } }.fs DMC_STAT DMC_STAT_init_done 1, dram := [] }
  else .next s

end Sys2Proof.Machine
end

