-- ==== Sys2Proof/Machine/TrainOps.lean ====
section
/-! DEFINITION. The boot journal (R591, R592) and training: the cache (R301-R305), the choice of the bin (R307-R310) and the
run of sub-steps (R297, R298, R304, R312). -/

namespace Sys2Proof.Machine
open Reg

/-! ### The boot journal -/

/-- Record kinds (R591). -/
def jStart : Nat := 1
def jPass : Nat := 2
def jFail : Nat := 3
def jAlt : Nat := 4
def jSkipped : Nat := 5
def jCached : Nat := 6
def jInfo : Nat := 7

/-- The bytes of a record. -/
def jBytes (r : JRec) : List Byte :=
  let b := leBytes 4 r.boot ++ leBytes 2 r.index ++ leBytes 1 r.step ++ leBytes 1 r.kind ++ leBytes 1 r.attempt ++ leBytes 3 0
    ++ leBytes 4 r.time ++ leBytes 4 r.detail
  b ++ leBytes 4 (crc32c b).toNat

/-- Records that a 64 KiB block holds, and the blocks of the ring (R592). -/
def jPerBlock : Nat := 65536 / 24

/-- Append to the flash journal; the oldest block is erased when the ring is full. -/
def jAppend (l : List JRec) (rs : List JRec) : List JRec :=
  let n := l ++ rs
  if 32 * jPerBlock < n.length then n.drop jPerBlock else n

/-- JNL_RAM follows the records (R600). -/
def Mach.showRam (m : Mach) : Mach := (m.fs JNL_RAM JNL_RAM_unflushed m.boot.unflushed).fs JNL_RAM JNL_RAM_held m.boot.ram.length

/-- Write a record: to retention RAM at once, and to flash from S3 onward (R592). -/
def Mach.journal (m : Mach) (step kind attempt detail : Nat) : Mach :=
  let b := m.boot
  let r : JRec := ⟨b.count, b.index, step, kind, attempt, b.time, detail % 2 ^ 32⟩
  let ram := b.ram ++ [r]
  let b := { b with index := b.index + 1, ram := ram.drop (ram.length - 256) }
  let b := if b.toFlash then { b with flash := jAppend b.flash [r] } else { b with unflushed := min 256 (b.unflushed + 1) }
  ({ m with boot := b }.fs JNL_STAT JNL_STAT_last_step step).showRam

/-- Records from before S3 go to flash once S3 has read the slot state (R592). -/
def Mach.flushJournal (m : Mach) : Mach :=
  let b := m.boot
  { m with boot := { b with toFlash := true, flash := jAppend b.flash (b.ram.drop (b.ram.length - b.unflushed)), unflushed := 0 } }.showRam

/-- The time since the reset ended, as a step's end gives it. -/
def Mach.bootTime (m : Mach) (t : Nat) : Mach := { m with boot := { m.boot with time := max m.boot.time t } }

/-! ### The training cache -/

/-- The bins that S5 tries, in descending order (R307). -/
def Mach.trainBins (m : Mach) : List Nat :=
  let top := m.fg DMC_CFG DMC_CFG_bin
  let l := if m.ddr5 then [6, 5, 4] else [2, 1, 0]
  if l.contains top then l.filter (fun b => decide (b ≤ top)) else []

/-- Number of a bin within its generation, 0 for the highest (R589). -/
def binIndex (bin : Nat) : Nat := if 4 ≤ bin then 6 - bin else 2 - bin

/-- The sector of an entry's copy (R589). -/
def cacheSector (band bin copy : Nat) : Nat := 2 * (3 * band + binIndex bin) + copy

/-- The band of this boot (R301). -/
def Mach.band (m : Mach) : Nat := m.fg DPY_STAT DPY_STAT_band
def bandOf (temp : Int) : Nat := if temp < 10 then 0 else if temp < 45 then 1 else if temp < 80 then 2 else 3

/-- A copy in flash is a whole entry for this machine, this band and a bin (R303). -/
def Mach.entryGood (m : Mach) (bin : Nat) (bs : List Byte) : Bool :=
  let n := 32 + 168 * m.rankCount
  bs.length == n + 4 && crcOkAt bs n && leAt bs 0 2 == 0x4354 && leAt bs 2 1 == 1
    && leAt bs 3 1 == m.band && leAt bs 4 1 == bin && leAt bs 8 4 == (m.rg DMC_CFG).toNat && leAt bs 12 4 == (m.rg DPY_BOARD).toNat
    && leAt bs 16 8 == Config.serial.toNat

/-- An entry is valid for a bin (R303), and has not been set aside in this boot (R304). -/
def Mach.entryValid (m : Mach) (bin : Nat) (bs : List Byte) : Bool :=
  m.fg DPY_CTRL DPY_CTRL_cache_en == 1 && !m.dpy.aside.contains bin && m.entryGood bin bs

/-- The entry that S5 uses for a bin: of two valid copies the one with the higher boot count (R303). -/
def Mach.entryFor (m : Mach) (bin : Nat) : Option (List Byte) :=
  let a := spGet [] m.dpy.cache (cacheSector m.band bin 0)
  let b := spGet [] m.dpy.cache (cacheSector m.band bin 1)
  match m.entryValid bin a, m.entryValid bin b with
  | true, true => some (if leAt a 24 4 < leAt b 24 4 then b else a)
  | true, false => some a
  | false, true => some b
  | false, false => none

/-- The block of a rank (R302). -/
def Mach.rankBytes (m : Mach) (r : Nat) : List Byte :=
  let w := fun (a : Nat) => leBytes 4 (m.rg a).toNat
  (upTo 5).flatMap (fun l => let n := 5 * r + l; w (DPY_LANE_GATE n) ++ w (DPY_LANE_RD n) ++ w (DPY_LANE_WR n) ++ w (DPY_LANE_VREF n))
    ++ (upTo 40).flatMap (fun b => leBytes 2 (m.rg (DPY_BIT (40 * r + b))).toNat) ++ w (DPY_CA r) ++ leBytes 4 0

/-- The entry that firmware writes after a full training (R302). -/
def Mach.entryBytes (m : Mach) : List Byte :=
  let b := leBytes 2 0x4354 ++ leBytes 1 1 ++ leBytes 1 m.band ++ leBytes 1 (m.fg DMC_STAT DMC_STAT_bin_act) ++ leBytes 3 0
    ++ leBytes 4 (m.rg DMC_CFG).toNat ++ leBytes 4 (m.rg DPY_BOARD).toNat ++ leBytes 8 Config.serial.toNat ++ leBytes 4 m.boot.count
    ++ leBytes 1 (twos 8 m.pdi.temp) ++ leBytes 3 0 ++ (upTo m.rankCount).flatMap m.rankBytes
  b ++ leBytes 4 (crc32c b).toNat

/-- Every delay of a rank is loaded from an entry (R304). -/
def Mach.loadRank (m : Mach) (bs : List Byte) (r : Nat) : Mach :=
  let o := 32 + 168 * r
  let w := fun (k : Nat) => BitVec.ofNat 32 (leAt bs (o + k) 4)
  let m := forEach (upTo 5) (fun l m =>
    let n := 5 * r + l
    (((m.wr (DPY_LANE_GATE n) (w (16 * l))).wr (DPY_LANE_RD n) (w (16 * l + 4))).wr (DPY_LANE_WR n) (w (16 * l + 8))).wr (DPY_LANE_VREF n) (w (16 * l + 12))) m
  let m := forEach (upTo 40) (fun b m => m.wr (DPY_BIT (40 * r + b)) (BitVec.ofNat 32 (leAt bs (o + 80 + 2 * b) 2))) m
  m.wr (DPY_CA r) (w 160)

/-- The copy of a bin's slot that a new entry goes into: an invalid one, or the older (R305). -/
def Mach.entryCopy (m : Mach) (bin : Nat) : Nat :=
  let copy := fun c => spGet [] m.dpy.cache (cacheSector m.band bin c)
  if !m.entryGood bin (copy 0) then 0 else if !m.entryGood bin (copy 1) then 1 else if leAt (copy 0) 24 4 ≤ leAt (copy 1) 24 4 then 0 else 1

/-- DPY_STAT.flash_busy follows the flash (R305, R306). -/
def Mach.showFlash (m : Mach) : Mach := m.fs DPY_STAT DPY_STAT_flash_busy (b2n (!m.dpy.flashOps.isEmpty))

/-- A flash operation of the training cache begins, or waits behind the one in progress (R305, R306). -/
def Mach.startFlash (m : Mach) (op : FlashOp) : Mach :=
  { m with dpy := { m.dpy with flashOps := m.dpy.flashOps ++ [op] } }.showFlash

/-- After a full training the entry is written in S6 (R305). -/
def Mach.saveIfDue (m : Mach) : Mach :=
  match m.dpy.saveDue with
  | none => m
  | some bs =>
    let bin := leAt bs 4 1
    { m with dpy := { m.dpy with saveDue := none } }.startFlash (.entry (cacheSector m.band bin (m.entryCopy bin)) bs)

/-- A write that a chip reset cuts short leaves a copy that fails its crc (R305). -/
def cutFlash (cache : Sp (List Byte)) : List FlashOp → Sp (List Byte)
  | .entry k bs :: _ => spSet [] cache k bs.dropLast
  | _ => cache

/-- DDR_RESET_N takes a level (R297, R308, R311). -/
def Mach.setResetN (m : Mach) (v : Bool) : Mach := { m with dpy := { m.dpy with resetN := v } }.emit .dramDev [9, b2n v]

/-! ### The run of sub-steps -/

/-- The detail of a journal record of S5 (R591). -/
def Mach.trainDetail (m : Mach) (lane : Nat) : Nat :=
  m.fg DMC_STAT DMC_STAT_bin_act + 16 * m.band + 64 * m.fg DPY_STAT DPY_STAT_source + 256 * lane

/-- The journal code of a sub-step. -/
def stepCode (s : Nat) : Nat := 0x50 + s

/-- Replace the run. -/
def Mach.setTrain (m : Mach) (r : Option TrainRun) : Mach := { m with dpy := { m.dpy with run := r } }

/-- The result of a sub-step in DPY_STEPs (R324). -/
def Mach.stepResult (m : Mach) (s result attempts duration lane : Nat) : Mach :=
  if s = 10 then m
  else m.wr (DPY_STEP s) (BitVec.ofNat 32 (duration % 2 ^ 16 + attempts * 2 ^ 16 + result * 2 ^ 20 + lane * 2 ^ 24))

/-- S5.3 runs on DDR5, and on DDR4 when capar is 1 (R297). -/
def Mach.cmdPathRuns (m : Mach) : Bool := m.ddr5 || m.fg DMC_CFG DMC_CFG_capar == 1

/-- A sub-step starts: it is shown and recorded (R298). -/
def Mach.stepStart (m : Mach) (r : TrainRun) : Mach :=
  let m := if r.step = 10 then m else m.fs DPY_STAT DPY_STAT_step r.step
  (m.journal (stepCode r.step) jStart r.attempt (m.trainDetail 0xF)).setTrain (some r)

/-- The step after S5.2 or at the start of a rank: S5.3, or where it is SKIPPED the one after it. -/
def Mach.stepThree (m : Mach) (r : TrainRun) : Mach :=
  if m.cmdPathRuns then m.stepStart { r with step := 3, attempt := 1 }
  else
    let m := (m.stepResult 3 3 0 0 0xF).journal (stepCode 3) jSkipped 0 (m.trainDetail 0xF)
    m.stepStart { r with step := if r.cached then 10 else 4, attempt := 1 }

/-- The PHY is in service (R315, R318): the trained strobe delays are the base of drift, and a full training is an entry for the
cache (R305). -/
def Mach.trainDone (m : Mach) (source : Nat) : Mach :=
  let base := (upTo 10).foldl (fun s n => spSet 0 (spSet 0 s (2 * n) (m.fg (DPY_LANE_RD n) DPY_LANE_RD_rd_dqs)) (2 * n + 1)
    (m.fg (DPY_LANE_WR n) DPY_LANE_WR_wr_lvl)) ([] : Sp Nat)
  let m := (m.fs DPY_STAT DPY_STAT_source source).fs DPY_STAT DPY_STAT_trained 1
  let m := { m with dpy := { m.dpy with run := none, base := base, saveDue := if source = 1 then some m.entryBytes else none } }
  (m.driftCheck 0).driftCheck 1

/-- Every bin has failed (R310). -/
def Mach.trainFail (m : Mach) (last : Nat) : Mach :=
  ((m.setTrain none).ev DPY_STAT DPY_STAT_fail_ev).raise fTrainFail last

/-- Firmware loads the timings of a bin (R279, R280, R307). -/
def Mach.loadTimings (m : Mach) (bin : Nat) : Mach :=
  let density := m.fg DMC_CFG DMC_CFG_density
  ((m.wr DMC_TCORE0 (Config.romTiming 0 bin density)).wr DMC_TCORE1 (Config.romTiming 1 bin density)).wr DMC_TREF
    (Config.romRefresh bin density (m.fg DMC_CFG DMC_CFG_refresh))

/-- The first bin of a list that may be tried (R307-R309): with a valid entry or without its mark. It begins with DDR_RESET_N
asserted (R308, R311). -/
def Mach.tryBins (last : Nat) : List Nat → Mach → Mach
  | [], m => m.trainFail last
  | b :: bs, m =>
    let m := ((m.fs DMC_STAT DMC_STAT_bin_act b).fs DPY_STAT DPY_STAT_falls (m.fg DMC_CFG DMC_CFG_bin - b)).loadTimings b
    match m.entryFor b with
    | some _ => ((m.setResetN false).fs DPY_STAT DPY_STAT_source 2).stepStart { cached := true }
    | none =>
      if m.dpy.marks.contains (16 * m.band + b) then tryBins last bs m
      else ((m.setResetN false).fs DPY_STAT DPY_STAT_source 1).stepStart { cached := false }

/-- The bins below the one in service. -/
def Mach.lowerBins (m : Mach) : List Nat := m.trainBins.filter (fun b => decide (b < m.fg DMC_STAT DMC_STAT_bin_act))

/-- What firmware writes from the configuration in flash as S5 begins: DMC_CFG (R240), each lane's bit exchange (R296) and the
board identity (R302). -/
def Mach.dramConfig (m : Mach) : Mach :=
  let c := m.boot.cfg
  let w := fun k => BitVec.ofNat 32 (leAt c.dram (4 * k) 4)
  let m := m.wr DMC_CFG (w 0)
  let m := forEach (upTo 5) (fun l m => m.wr (DPY_SWAP l) (w (l + 1) &&& 0xFFFFFF)) m
  m.wr DPY_BOARD (crc32c (c.board ++ c.dram))

/-- Region 15 over the top 32 firkins of the capacity, for the processor alone (R245). -/
def Mach.regionTop (m : Mach) : Mach :=
  let m := ((m.fs (DMC_RGN_BASE 15) DMC_RGN_BASE_firkin (m.capacity / 65536 - 32)).fs (DMC_RGN_SIZE 15) DMC_RGN_SIZE_size_m1 31)
  ((m.fs (DMC_RGN_ACC 15) DMC_RGN_ACC_en 1).fs (DMC_RGN_ACC 15) DMC_RGN_ACC_rd 2).fs (DMC_RGN_ACC 15) DMC_RGN_ACC_wr 2

/-- DPY_STEPs hold no result of this boot (R324). -/
def Mach.clearSteps (m : Mach) : Mach := forEach (upTo 9) (fun i m => m.stepResult (i + 1) 0 0 0 0xF) m

/-- ZQ calibration of every rank, then the read-gate check (R274, R312). -/
def Mach.gateCheck (m : Mach) (r : TrainRun) : Mach :=
  (forEach (upTo m.rankCount) (fun k m => m.emit .dramDev [5, k]) m).stepStart { r with step := 10, cached := true }

/-- D4 leaves RETENTION (R274). -/
def Mach.exitStart (m : Mach) : Mach := m.gateCheck { exit := true }

/-- S5 begins (R301, R309, R311, R312). -/
def Mach.trainStart (m : Mach) (retained : Bool) : Mach :=
  let m := (m.fs DPY_STAT DPY_STAT_band (bandOf m.pdi.temp)).clearSteps
  if retained then (m.fs DPY_STAT DPY_STAT_source 3).gateCheck { retained := true }
  else
    let m := (((m.fs DPY_STAT DPY_STAT_trained 0).fs DMC_STAT DMC_STAT_init_done 0).fs DMC_STAT DMC_STAT_selfref 0).dramConfig.regionTop
    let stale := m.dpy.cache.any (fun e => decide (12 ≤ e.2.length) && leAt e.2 8 4 != (m.rg DMC_CFG).toNat)
    let m := if stale then { m with dpy := { m.dpy with marks := [] } } else m
    m.tryBins 1 m.trainBins

end Sys2Proof.Machine
end

