-- ==== Sys2Proof/Machine/PwrOps.lean ====
section
/-! DEFINITION. The power manager: domains and what each depends on (R511, R512), refusers (R521-R524), entering and leaving
RETENTION and OFF (R517-R520), and core off (R527). Domains are numbered 0-14 for D0-D14 and 15-18 for P0-P3. -/

namespace Sys2Proof.Machine
open Reg

/-! ### Domains -/

/-- Domain states. -/
def dsOn : Nat := 0
def dsRet : Nat := 1
def dsOff : Nat := 2

/-- The domain that a code names (R393). -/
def domOfCode (b : Nat) : Option Nat := if b ≤ 14 then some b else if 0x80 ≤ b ∧ b ≤ 0x83 then some (b - 0x80 + 15) else none

/-- The code of a domain (R532). -/
def domCode (d : Nat) : Nat := if d < 15 then d else 0x80 + (d - 15)

/-- What a domain depends on (R511), without what those depend on in turn. -/
def domDeps (d : Nat) : List Nat :=
  if d = 1 ∨ d = 3 ∨ d = 6 ∨ d = 14 then [0]
  else if d = 2 ∨ d = 7 then [0, 3, 14]
  else if d = 4 then [0, 3]
  else if d = 5 then [0, 3, 6, 4]
  else if 8 ≤ d ∧ d ≤ 13 then [0, 14]
  else if 16 ≤ d ∧ d ≤ 18 then [15]
  else []

/-- The domains that depend on one. -/
def domUsers (d : Nat) : List Nat := (upTo 19).filter (fun u => (domDeps u).contains d)

/-- The states that a domain offers (R511); D0 is OFF by core off only. -/
def domOffers (d s : Nat) : Bool :=
  s == dsOn || (decide (1 ≤ d ∧ d ≤ 14) && decide (s ≤ 2)) || ((d == 0 || d == 16 || d == 17) && s == dsOff)

/-- The state of a domain (R534). -/
def Mach.domState (m : Mach) (d : Nat) : Nat := m.fg (pwrStat d) PWR_D_STAT_state

/-- Set a domain's transition. -/
def Mach.setMove (m : Mach) (d : Nat) (x : Option DomMove) : Mach :=
  { m with pwr := { m.pwr with move := spSet none m.pwr.move d x } }.fs (pwrStat d) PWR_D_STAT_trans
    (match x with | some y => if y.entering then 1 else 2 | none => 0)

/-- The counters of a domain (R535). -/
def pwrCnt (d : Nat) : Nat := if d < 15 then PWR_D_CNT d else PWR_P_CNT (d - 15)

/-! ### Refusals -/

/-- A lock of this hub is held with a given origin channel of this hub or through a given arrival channel (R521). -/
def Mach.lockBars (m : Mach) (d : Nat) : Bool :=
  (upTo 32).any (fun n => m.lockHeld n &&
    (let ar := m.fg (LCK_LOCK n) LCK_LOCK_arrival
     (d == 1 && m.lockOwner n == (m.node, 2)) || (d == 2 && ar == 0) || (d == 7 && decide (3 ≤ ar ∧ ar ≤ 6))))

/-- The die link carries something still (R521). -/
def Mach.dieBusy (m : Mach) : Bool := !m.cmd.rind.isEmpty || !m.dl.down.held.isEmpty || !m.dl.up.held.isEmpty

/-- The reply to a request would leave through the domain (R521). -/
def replyPath (d ch : Nat) : Bool :=
  match ch with
  | 0 => d == 2 || d == 14
  | 1 => d == 14
  | 2 => d == 1
  | _ => d == 7

/-- A port keeps its domain ON (R159). -/
def Mach.portBars (m : Mach) (p : Nat) : Bool :=
  let s := m.pst p
  !(s == pOff || s == pHold || s == pDisabled || s == pSusp)

/-- The upstream port keeps D2 ON (R521). -/
def Mach.upBars (m : Mach) (target : Nat) : Bool :=
  let vb := m.fg HUB_STAT HUB_STAT_vbus_det == 1
  if target = dsRet then vb && m.fg HUB_STAT HUB_STAT_state != 5 else vb && m.fg HUB_CTRL HUB_CTRL_connect == 1

/-- The refusers of R521 that hold for an entry, by code: `woke` says that an enabled wake source is asserted; `entry` leaves
out what only the check of a request meets. (DEDUCED, log 32) -/
def Mach.barred (m : Mach) (d target ch : Nat) (woke request : Bool) (code : Nat) : Bool :=
  match code with
  | 0x01 => woke
  | 0x02 => (decide (8 ≤ d ∧ d ≤ 13) && (upTo 8).any (fun i => m.portBars (8 * (d - 8) + i))) || (d == 2 && m.upBars target)
  | 0x03 => (d == 5 || d == 4) && (upTo 128).any (fun n => m.strState n == stRunning)
  | 0x05 => m.lockBars d
  | 0x06 => d == 0 && m.dieBusy
  | 0x07 => (d == 6 || d == 7) && m.isParent
  | 0x08 => (d == 3 && (!m.xbr.voq.isEmpty || !m.xbr.lock.isEmpty)) || (d == 14 && (upTo 56).any (fun n => !(m.q n).words.isEmpty))
      || (d == 4 && request && m.dmc.front.any (fun r => r.requester != 8))
  | 0x09 => d != 0 && (domUsers d).any m.domOn
  | 0x0A => (d == 16 || d == 0) && allHoops.any m.swLive
  | 0x0B => d == 17 && allVbus.any m.swLive
  | 0x0C => request && (if d = 0 then ch != 1 else replyPath d ch)
  | 0x0D => d == 1 && (upTo 48).any (fun p => (upTo 8).any (fun s => m.devSt p s == 1))
  | 0x0E => d == 1 && (m.fg DPY_STAT DPY_STAT_flash_busy == 1 || !m.boot.fw.isEmpty)
  | 0x11 => request && !domOffers d target
  | _ => false

/-- The lowest code that applies (R521). -/
def Mach.refuser (m : Mach) (d target ch : Nat) (woke request : Bool) : Option Nat :=
  (upTo 18).find? (m.barred d target ch woke request)

/-- A refusal or an abort is counted and logged (R522). -/
def Mach.countRefuser (m : Mach) (d target ch code : Nat) (aborted : Bool) : Mach :=
  let m := (m.inc (PWR_REFCNT code) PWR_REFCNT_count).sat (pwrCnt d) PWR_D_CNT_refusals
  let m := (m.ev (pwrStat d) (if aborted then PWR_D_STAT_abort_ev else PWR_D_STAT_refuse_ev)).fs (pwrStat d) PWR_D_STAT_last_refuser code
  m.wr PWR_REFUSE_LOG (BitVec.ofNat 32 (domCode d * 2 ^ 24 + target * 2 ^ 22 + b2n aborted * 2 ^ 21 + ch * 2 ^ 16 + code * 2 ^ 8))

/-- The reply to a refused request. -/
def Mach.refusedReply (m : Mach) (c : Option Cmd) (code : Nat) : Mach :=
  match c with | some c => m.reply c stRefused code | none => m

/-! ### What a domain loses -/

/-- The Tally blocks of a domain (R434). -/
def domBlocks (d : Nat) : List Nat := (upTo 64).filter (fun i => domOf (tallyBase i) == some d)

/-- D4 loses its state (R519): commands that wait for the memory engine or run in it are answered MEM_NOT_INIT (R252, R273). What
the flash holds or is writing, and what is kept for the whole boot, stays (R304, R306). -/
def Mach.dramReset (m : Mach) : Mach :=
  let lost := (match m.dmc.engRun with | some r => [r.cmd] | none => []) ++ m.dmc.engine.map (·.1)
  let m := forEach lost (fun c m => m.reply c stMemNotInit) m
  { m with dmc := {}, dpy := { cache := m.dpy.cache, marks := m.dpy.marks, flashOps := m.dpy.flashOps, aside := m.dpy.aside } }.showFlash.setResetN false

/-- A domain reset (R519, R520): every register of the domain takes its reset value, its blocks start afresh, and Tally
marks them uncommitted. (DEDUCED, log 32) -/
def Mach.domReset (m : Mach) (d : Nat) : Mach :=
  let keep := fun (a : Nat) => domOf a != some d
  let m := { m with regs := spKeep keep m.regs, evCnt := spKeep keep m.evCnt, evAt := spKeep (fun k => keep (k / 32)) m.evAt,
                    pair := spKeep (fun k => keep (k % 2 ^ 24)) m.pair }
  let m := match d with
    | 1 => { m with cmd := { m.cmd with keyed := none } }
    | 2 => { m with hub := {}, cmf := {}, cmd := { m.cmd with part0 := [], ended := false } }
    | 3 => { m with xbr := { feed := m.xbr.feed }, tap := [] }
    | 4 => m.dramReset
    | 5 => { m with ren := {} }.fs REN_STAT REN_STAT_stop (m.fg FLT_STAT FLT_STAT_stop_playout)
    | 6 => { m with shf := {} }
    | 7 => { m with chn := { run := m.chn.run, joins := m.chn.joins, installed := m.chn.installed } }
    | 14 => { m with que := [] }
    | _ => if 8 ≤ d ∧ d ≤ 13 then { m with prt := spKeep (fun p => decide (p / 8 + 8 ≠ d)) m.prt } else m
  forEach (domBlocks d) (fun i m => m.setUncom i true) { m with tlySeen := m.tlySeen.filter (fun i => !(domBlocks d).contains i) }

/-! ### Leaving RETENTION and OFF -/

/-- The order in which domains come ON (R512). -/
def domOrder : List Nat := [15, 0, 3, 14, 6, 4, 1, 2, 5, 7, 8, 9, 10, 11, 12, 13, 16, 17]

/-- A domain is ON and no entry of it is in progress. -/
def Mach.domReady (m : Mach) (d : Nat) : Bool := m.domOn d && !m.domLeaving d

/-- The domains to turn ON for one: what it depends on first. -/
def Mach.domNeeds (m : Mach) (d : Nat) : List Nat :=
  domOrder.filter (fun e => (e == d || (domDeps d).contains e || (domDeps d).any (fun f => (domDeps f).contains e)) && !m.domReady e)

/-- A domain begins to leave RETENTION or OFF (R519). -/
def Mach.domExit (m : Mach) (d : Nat) : Mach := m.setMove d (some { entering := false, target := dsOn, cmd := none, chan := 0 })

/-- D4 does what comes before it is back: out of OFF S5 (R517), out of RETENTION the exit sequence of R274. -/
def Mach.dramExit (m : Mach) (x : DomMove) (temp : Int) : Mach :=
  let off := m.domState 4 == dsOff
  let m := m.setMove 4 (some { x with begun := true })
  let m := { m with pdi := { m.pdi with temp := temp } }
  if off then (m.domReset 4).trainStart false else m.exitStart

/-- The waiting lists go on (R512): one whose domains are all ON is answered, and the next domain of each other one begins to
come ON once an entry of its own has ended. -/
def Mach.domPump (m : Mach) : Mach :=
  let l := m.pwr.turnOn.map (fun e => (e.1.filter (fun d => !m.domReady d), e.2))
  let m := { m with pwr := { m.pwr with turnOn := l.filter (fun e => !e.1.isEmpty) } }
  let m := forEach (l.filter (·.1.isEmpty)) (fun e m => match e.2 with | some c => m.reply c stOk | none => m) m
  forEach m.pwr.turnOn (fun e m =>
    match e.1 with
    | d :: _ => if (m.domMove d).isSome then m else m.domExit d
    | [] => m) m

/-- A domain waits to come ON, or one that depends on it does (R512). -/
def Mach.domWanted (m : Mach) (d : Nat) : Bool := m.pwr.turnOn.any (fun e => e.1.any (fun w => w == d || (domUsers d).contains w))

/-- Turn a domain ON with everything it depends on (R512); the command is answered when the last is ON. -/
def Mach.domTurnOn (m : Mach) (d : Nat) (c : Option Cmd) : Mach :=
  let need := m.domNeeds d
  if need.isEmpty then (match c with | some c => m.reply c stOk | none => m)
  else { m with pwr := { m.pwr with turnOn := m.pwr.turnOn ++ [(need, c)] } }.domPump

/-- A domain cannot come ON: the requests that wait for it fail (R512). -/
def Mach.domFailed (m : Mach) (d status : Nat) : Mach :=
  let l := m.pwr.turnOn
  let m := { m with pwr := { m.pwr with turnOn := l.filter (fun e => !e.1.contains d) } }
  (forEach (l.filter (fun e => e.1.contains d)) (fun e m => match e.2 with | some c => m.reply c status | none => m) m).domPump

/-! ### Entering RETENTION and OFF -/

/-- An accepted entry begins (R518 step 1); D4 stops granting (R274). -/
def Mach.domEnter (m : Mach) (d target : Nat) (c : Option Cmd) (ch : Nat) : Mach :=
  let m := m.setMove d (some { entering := true, target := target, cmd := c, chan := ch })
  if d = 4 then { m with dmc := { m.dmc with stopGrants := true } } else m

/-- An entry is given up and the domain is ON again (R518); one that was in RETENTION comes ON. -/
def Mach.domGiveUp (m : Mach) (d : Nat) : Mach :=
  let m := m.setMove d none
  let m := if d = 4 && m.domOn 4 then { m with dmc := { m.dmc with stopGrants := false } } else m
  (if m.domOn d then m else m.domTurnOn d none).domPump

/-- An entry is aborted with a refuser (R518, R521, R522). -/
def Mach.domAbort (m : Mach) (d code : Nat) : Mach :=
  match m.domMove d with
  | some x =>
    if x.entering then
      let m := (m.domGiveUp d).countRefuser d x.target x.chan code true
      let m := if code = 0x10 then m else m.refusedReply x.cmd code
      match m.pwr.coreOff with
      | some c => if d < 15 then ({ m with pwr := { m.pwr with coreOff := none } } : Mach).refusedReply (some c) code else m
      | none => m
    else m
  | none => m

/-- A chain time that begins afresh is not locked: a joined hub other than node 0 waits for its parent, and the port engines
are out of phase (R38, R47, R472, R520). (DEDUCED, log 32) -/
def Mach.timeAfresh (m : Mach) : Mach :=
  { m with shf := { m.shf with synced := m.node == 0 || !m.joined, phasing := true } }.setTimeLock false

/-- The shaft unit stops (R511): chain time is not kept, and so neither is any record that it dates. (DEDUCED, log 32) -/
def Mach.shaftStopped (m : Mach) : Mach :=
  { m with running := false, chn := { m.chn with fresh := true },
           shf := { m.shf with hist := [], hist2 := [], since := 0, nextSeq := none, overdue := false } }.timeAfresh

/-- What stops or is lost as a domain leaves ON (R518 steps 3 and 4, R520). -/
def Mach.domStopped (m : Mach) (d target : Nat) : Mach :=
  match d with
  | 4 => if target = dsRet then m.fs DMC_STAT DMC_STAT_selfref 1 else m
  | 6 => m.shaftStopped
  | 7 => m.chnDown
  | 16 => forEach allHoops (fun w m => (m.fs (swStat w) PDI_HOOP_STAT_state swOff).setSw w {}) m
  | 17 => forEach allVbus (fun w m => (m.fs (swStat w) PDI_HOOP_STAT_state swOff).setSw w {}) m
  | _ => m

/-- The domain is in the requested state (R517): the commit point. -/
def Mach.domEntered (m : Mach) (d : Nat) (x : DomMove) : Mach :=
  let a := pwrStat d
  let m := (m.domStopped d x.target).setMove d none
  let m := (m.fs a PWR_D_STAT_state x.target).setIsls d (if x.target = dsRet then 3 else 4)
  let m := m.sat (pwrCnt d) PWR_D_CNT_entries
  match x.cmd with | some c => m.reply c stOk | none => m

/-! ### Core off (R527) -/

/-- Core domains in reverse dependency order. -/
def coreOrder : List Nat := [13, 12, 11, 10, 9, 8, 7, 2, 5, 4, 6, 14, 3, 1]

/-- The core die is powered down: PWR_CORE_WAKE goes to Rind, P3 goes OFF, the monitor is disarmed and ALIVE stops, and Rind has
the reply to send. -/
def Mach.corePowerDown (m : Mach) (c : Cmd) : Mach :=
  let m := { m with pwr := { m.pwr with wake := m.rg PWR_CORE_WAKE, coreOff := none, off := true }, dl := { inService := false },
                    pdi := { m.pdi with armed := false }, flt := { m.flt with hbOn := false },
                    cmd := { m.cmd with rindOut := replyBytes c.opcode.toNat c.tag.toNat c.gen.toNat c.chan.toNat m.node stOk 0 [] } }
  let m := forEach [0, 18] (fun d m =>
    ((m.fs (pwrStat d) PWR_D_STAT_state dsOff).setIsls d 4).sat (pwrCnt d) PWR_D_CNT_entries) m
  (m.setMove 0 none).reply c stOk

/-- A domain of the core has a transition in progress. -/
def Mach.coreMoving (m : Mach) : Bool := (upTo 15).any (fun d => (m.domMove d).isSome)

/-- A domain of the core waits to come ON. -/
def Mach.coreWanted (m : Mach) : Bool := m.pwr.turnOn.any (fun e => e.1.any (fun d => decide (d < 15)))

/-- Core off goes on: the next core domain begins its entry under its own refusers, and after the last D0 itself, which
HOOPS_ON and DIELINK_BUSY refuse. (DEDUCED, log 32) -/
def Mach.coreOffNext (m : Mach) : Mach :=
  match m.pwr.coreOff with
  | none => m
  | some c =>
    let stop := fun (d code : Nat) (m : Mach) =>
      ({ m with pwr := { m.pwr with coreOff := none } }.countRefuser d dsOff c.arrival.val code false).refusedReply (some c) code
    if m.coreMoving || m.coreWanted then m
    else
      let d := (coreOrder.find? (fun d => m.domState d != dsOff)).getD 0
      match m.refuser d dsOff 1 false false with
      | some code => stop d code m
      | none => m.domEnter d dsOff none 1

end Sys2Proof.Machine
end

