-- ==== Sys2Proof/Machine/RenTables.lean ====
section
/-! DEFINITION. Rennet's banked tables: who owns a table (R92), where a write is stored (R94, R394), the copies between the
banks (R93, R99), and the checks of R67. -/

namespace Sys2Proof.Machine
open Reg

/-- A stream's state makes its group own its tables (R92). -/
def ownsTables (st : Nat) : Bool := st == stArmed || st == stRunning || st == stHalted

/-- The groups that own a table: kind and index as in R95. -/
def Mach.owners (m : Mach) (kind index : Nat) : List Nat :=
  (upTo 128).foldl (fun l n =>
    let names := fun b => if kind = 1 then n == index
      else if kind = 2 then m.kind n == kSel && m.seMap n b == index
      else m.kind n == kProf && m.seTable n b == index
    if ownsTables (m.strState n) && (names 0 || names 1) then insNat (m.strGroup n) l else l) []

/-- The 16-bit ID of a table (R95). -/
def tableId (kind index : Nat) : Nat := kind * 4096 + index

/-- Where a write to a set of tables goes (R94): the banks it is stored in and the tables each group finds dirty, or none
where it is answered TABLE_BUSY. `addressed` is the bank of a write by address. (DEDUCED, log 38) -/
def Mach.tableRoute (m : Mach) (tables : List (Nat × Nat)) (addressed : Option Nat) : Option (List Nat × List (Nat × Nat)) :=
  let marks := tables.flatMap (fun t => (m.owners t.1 t.2).map (fun g => (g, tableId t.1 t.2)))
  if marks.isEmpty then some ([0, 1], [])
  else if marks.any (fun e => !m.isSettled e.1) then none
  else
    let shadow := fun (g : Nat) => 1 - m.grpEpoch g
    let banks := [0, 1].filter (fun b => marks.all (fun e => shadow e.1 == b))
    match banks with
    | [b] => if addressed = none ∨ addressed = some b then some ([b], marks) else none
    | _ => none

/-- Tables become dirty (R94). -/
def Mach.markDirty (m : Mach) (marks : List (Nat × Nat)) : Mach :=
  forEach marks (fun e m =>
    let x := m.grp e.1
    (m.setGrp e.1 { x with dirty := insNat e.2 x.dirty }).fs (REN_GRP_STAT e.1) REN_GRP_STAT_dirty 1) m

/-- Store one byte of a table; a reserved bit is not stored and reads 0 (R5). -/
def Mach.putByte (m : Mach) (a v : Nat) : Mach :=
  m.fs (a / 4 * 4) ⟨8 * (a % 4), 8⟩ (v &&& (tableMask (a / 4 * 4)).toNat / 2 ^ (8 * (a % 4)) % 256)

/-- Store bytes in the register space. (DEDUCED, log 18) -/
def Mach.putBytes (m : Mach) : Nat → List Byte → Mach
  | _, [] => m
  | a, b :: bs => (m.putByte a b.toNat).putBytes (a + 1) bs

/-- The entry-store indices that a map's directory entry names in one bank. -/
def Mach.mapCovers (m : Mach) (k i : Nat) : Bool :=
  [0, 1].any (fun b => decide (m.dirBase k b ≤ i) && decide (i < m.dirBase k b + m.dirCount k b))

/-- The maps that cover one of a run of entry-store words in either bank (R94). -/
def Mach.mapsOver (m : Mach) (lo n : Nat) : List (Nat × Nat) :=
  ((upTo 64).filter (fun k => (upTo n).any (fun i => m.mapCovers k (lo + i)))).map (fun k => (2, k))

/-- Whether a write lies within a table's image in one bank (R394). -/
def Mach.imageFits (m : Mach) (kind index bank off len : Nat) : Bool :=
  if kind = 1 then decide (off + len ≤ 128)
  else if kind = 3 then decide (off + len ≤ 16)
  else decide (off + len ≤ 8 ∨ 4 * m.dirBase index bank + off + len - 8 ≤ 4 * 32768)

/-- A table image's bytes are stored in one bank (R394): a hook map's entries at the base the directory holds there. -/
def Mach.imagePut (m : Mach) (kind index bank off : Nat) (data : List Byte) : Mach :=
  if kind = 1 then m.putBytes (seAddr index bank + off) data
  else if kind = 3 then m.putBytes (descAddr index bank + off) data
  else
    let base := m.dirBase index bank
    let head := data.take (8 - off)
    let rest := data.drop (8 - off)
    (m.putBytes (dirAddr index bank + off) head).putBytes (entAddr base bank + (off - 8)) rest

/-- The entry-store words that a write of a hook map's image stores, in the banks it may go to. -/
def Mach.imageMaps (m : Mach) (index off len : Nat) : List (Nat × Nat) :=
  if off + len ≤ 8 then []
  else
    let lo := (off - 8) / 4
    let n := (off + len - 8 + 3) / 4 - lo
    let g := (m.owners 2 index).head?
    let banks := match g with | some g => [1 - m.grpEpoch g] | none => [0, 1]
    (banks.flatMap (fun b => m.mapsOver (m.dirBase index b + lo) n)).filter (fun t => t.2 != index)

/-- Copy a table from one bank over the other (R93, R99). -/
def Mach.copyTable (m : Mach) (id src : Nat) : Mach :=
  let dst := 1 - src
  let i := id % 4096
  let copy := fun (a b n : Nat) (m : Mach) => m.putBytes b ((upTo n).map (fun k => BitVec.ofNat 8 (m.byteAt (a + k))))
  if id / 4096 = 1 then copy (seAddr i src) (seAddr i dst) 128 m
  else if id / 4096 = 3 then copy (descAddr i src) (descAddr i dst) 16 m
  else
    let spans := [0, 1].map (fun b => (m.dirBase i b, min (m.dirCount i b) (32768 - m.dirBase i b)))
    let m := copy (dirAddr i src) (dirAddr i dst) 8 m
    forEach spans (fun e m => copy (entAddr e.1 src) (entAddr e.1 dst) (4 * e.2) m) m

/-- Copy every dirty table of a group from bank G over the other; none is dirty then. -/
def Mach.copyDirty (m : Mach) (g : Nat) : Mach :=
  let m := forEach (m.grp g).dirty (fun id m => m.copyTable id (m.grpEpoch g)) m
  (m.setGrp g { m.grp g with dirty := [] }).fs (REN_GRP_STAT g) REN_GRP_STAT_dirty 0

/-! ### Designs and points -/

/-- A design header (R77). -/
structure Design where
  fmt : Nat
  w : Nat
  h : Nat
  indexOff : Nat
  /-- DRAM address of the data region -/
  data : Nat
  len : Nat
  crc : Nat
  pa : Nat
  pb : Nat
  deriving DecidableEq, Repr

/-- A header's 64 bytes, where they are valid (R77). -/
def readHeader (addr : Nat) (b : List Byte) : Option Design :=
  let d : Design := ⟨leAt b 3 1, leAt b 4 2, leAt b 6 2, leAt b 8 4, addr + leAt b 12 4, leAt b 16 4, leAt b 20 4, leAt b 24 2, leAt b 26 2⟩
  if addr % 64 = 0 ∧ leAt b 0 2 = 0x5244 ∧ leAt b 2 1 = 1 ∧ 1 ≤ d.fmt ∧ d.fmt ≤ 4 ∧ 1 ≤ d.w ∧ 1 ≤ d.h ∧ leAt b 12 4 % 64 = 0
      ∧ (d.fmt = 2 ∨ d.fmt = 3 ∨ d.indexOff = 0) ∧ (d.fmt = 3 ∨ d.fmt = 4 ∨ d.pa = 0) ∧ (d.fmt = 3 ∨ d.pb = 0)
      ∧ leAt b 28 36 = 0 then some d else none

/-- A profile descriptor is valid (R87). -/
def Mach.descOk (m : Mach) (k b : Nat) : Bool :=
  m.descPoints k b % 16 == 0 && decide (2 ≤ m.descCount k b ∧ m.descCount k b ≤ 4096)

/-- Whether the angles of a point array's bytes increase strictly (R87). -/
def anglesRise (bs : List Byte) (n : Nat) : Bool := (upTo (n - 1)).all (fun i => decide (leAt bs (16 * i) 2 < leAt bs (16 * i + 16) 2))

/-! ### The checks of R67 -/

/-- A read failed rather than gave data. -/
def readFailed (s : DramStatus) : Bool := !(s == .ok || s == .corrected)

/-- Check numbers (R393). -/
def Mach.entryCheck (m : Mach) (n : Nat) : Nat := if m.kind n == kProf then 2 else 1

/-- Every field of a stream entry lies within its range in a bank (R106). -/
def Mach.entryOk (m : Mach) (n b : Nat) : Bool :=
  if m.kind n == kSel then
    decide (1 ≤ m.seHooks n b ∧ m.seHooks n b ≤ 8192) && decide (m.seMap n b < 64)
      && decide (1 ≤ m.sePayload n b ∧ m.sePayload n b ≤ 64)
  else decide (m.seTable n b < 64) && decide (m.seChannel n b < 16)

/-- The design header or profile descriptor that an entry names is valid. -/
def Mach.namedOk (m : Mach) (d : Sp Byte) (n b : Nat) : Bool × Mach :=
  if m.kind n == kSel then
    let a := m.seDesign n b
    if a % 64 ≠ 0 then (false, m)
    else
      let (st, bs, m) := Mach.readRun d 0 2 a 64 m
      (!readFailed st && (readHeader a bs).isSome, m)
  else (m.descOk (m.seTable n b) b, m)

/-- The table that an entry names is owned by no other group. -/
def Mach.ownedOk (m : Mach) (n b : Nat) : Bool :=
  let t := if m.kind n == kSel then (2, m.seMap n b) else (3, m.seTable n b)
  (m.owners t.1 t.2).all (fun g => g == m.strGroup n)

/-- Every hook-map entry that acts names a bit within the payload (R67, R85). -/
def Mach.bitsOk (m : Mach) (n b : Nat) : Bool :=
  m.kind n != kSel ||
    ((m.mapEntries (m.seMap n b) b).zipIdx).all (fun e =>
      getF e.1 heValid == 0 || (decide (m.dirLogical (m.seMap n b) b ≤ e.2) && getF e.1 hePark == 0)
        || decide (getF e.1 heBit < 8 * m.sePayload n b))

/-- The data that verify reads are right: a design's data_crc, or rising angles of a point array. -/
def Mach.verifyOk (m : Mach) (d : Sp Byte) (n b : Nat) : Bool × Mach :=
  if m.kind n == kSel then
    match readHeader (m.seDesign n b) (dramRead d (m.seDesign n b) 64) with
    | none => (false, m)
    | some h =>
      let (st, bs, m) := Mach.readRun d 0 (h.len / 256 + 2) h.data h.len m
      (!readFailed st && (crc32c bs).toNat == h.crc, m)
  else
    let k := m.seTable n b
    let (st, bs, m) := Mach.readRun d 0 (m.descCount k b / 16 + 2) (m.descPoints k b) (16 * m.descCount k b) m
    (!readFailed st && anglesRise bs (m.descCount k b), m)

/-- The first check that fails in one of a list of banks: its number, else 0. -/
def inBanks (num : Nat) (f : Nat → Mach → Bool × Mach) : List Nat → Mach → Nat × Mach
  | [], m => (0, m)
  | b :: bs, m => let (ok, m) := f b m; if ok then inBanks num f bs m else (num, m)

/-- Checks one after another until one fails. -/
def runChecks : List (Mach → Nat × Mach) → Mach → Nat × Mach
  | [], m => (0, m)
  | f :: fs, m => let (k, m) := f m; if k = 0 then runChecks fs m else (k, m)

/-- The checks of R67 on a stream in the banks listed, in their order: the number of the first that fails, or 0. -/
def Mach.armCheck (m : Mach) (d : Sp Byte) (n : Nat) (banks : List Nat) (verify : Bool) : Nat × Mach :=
  let e := m.entryCheck n
  if m.kind n != kSel && m.kind n != kProf then (7, m)
  else runChecks [
    inBanks e (fun b m => (m.entryOk n b, m)) banks,
    inBanks e (fun b m => m.namedOk d n b) banks,
    fun m => (if m.kind n == kProf && decide (m.step n ≤ m.phase n) then 2 else 0, m),
    inBanks 3 (fun b m => (m.ownedOk n b, m)) banks,
    inBanks 4 (fun b m => (m.bitsOk n b, m)) banks,
    fun m => (if m.uncommitted 3 then 5 else 0, m),
    fun m => if verify then inBanks (if m.kind n == kSel then 6 else 2) (fun b m => m.verifyOk d n b) banks m else (0, m)] m

/-- The destination count of a stream in a bank (R76). -/
def Mach.destCount (m : Mach) (n b : Nat) : Nat := if m.kind n == kSel then (m.destSet (m.seMap n b) b).length else 1

/-- Rennet records a stream's destination count of a bank it has checked (R76). -/
def Mach.recordDest (m : Mach) (n b : Nat) : Mach :=
  let x := m.str n
  m.setStr n (if b = 0 then { x with dest0 := m.destCount n b } else { x with dest1 := m.destCount n b })

end Sys2Proof.Machine
end

