-- ==== Sys2Proof/Machine/RenDesign.lean ====
section
/-! DEFINITION. What a stream engine computes: a design's row in each of the four formats (R78-R81), the value of a hook
(R82), the bodies that a hook map makes of them (R85, R86), the setpoint of a profile (R88-R91) and the work item (R74). -/

namespace Sys2Proof.Machine
open Reg

/-! ### Rows -/

/-- A little-endian number in the DRAM. (DESIGN CHOICE, log 2) -/
def dramNat (d : Sp Byte) (a n : Nat) : Nat := leNat (dramRead d a n)

/-- The stride of stored rows of a width (R78). -/
def rowStride (w : Nat) : Nat := (w + 63) / 64 * 8

/-- A number of `n` ones. -/
def ones (n : Nat) : Nat := 2 ^ n - 1

/-- A run code sequence from an offset (R79): the row, or none where the runs do not total exactly w, or where the codes run
past data_len. (DESIGN CHOICE, log 64) -/
def runRow (d : Sp Byte) (h : Design) : Nat → Nat → Nat → Nat → Option Nat
  | 0, _, pos, row => if pos = h.w then some row else none
  | k + 1, off, pos, row =>
    if h.w ≤ pos then (if pos = h.w then some row else none)
    else if h.len ≤ off then none
    else
      let c := dramNat d (h.data + off) 1
      let long := c % 128 = 127
      if long ∧ h.len < off + 3 then none
      else
        let n := (if long then dramNat d (h.data + off + 1) 2 else c % 128) + 1
        runRow d h k (off + if long then 3 else 1) (pos + n) (if c / 128 = 1 then row + ones n * 2 ^ pos else row)

/-- A run of bits repeated as a whole. -/
def repeatBits (seg len : Nat) : Nat → Nat
  | 0 => 0
  | k + 1 => seg + repeatBits seg len k * 2 ^ len

/-- The segments of a row program from an offset (R80). -/
def segRow (d : Sp Byte) (h : Design) : Nat → Nat → Nat → Nat → Option Nat
  | 0, _, pos, row => if pos = h.w then some row else none
  | k + 1, off, pos, row =>
    let at' := fun i => dramNat d (h.data + off + 2 * i) 2
    let sr := at' 0
    let sc := at' 1
    let len := at' 2
    let reps := at' 3
    if h.pb ≤ sr ∨ h.pa < sc + len ∨ len = 0 ∨ reps = 0 ∨ h.w < pos + len * reps then none
    else
      let motif := dramNat d (h.data + sr * rowStride h.pa) ((h.pa + 7) / 8)
      segRow d h k (off + 8) (pos + len * reps) (row + repeatBits (motif / 2 ^ sc % 2 ^ len) len reps * 2 ^ pos)

/-- A row program at an offset (R80); one that runs past data_len is malformed. (DESIGN CHOICE, log 64) -/
def programRow (d : Sp Byte) (h : Design) (off : Nat) : Option Nat :=
  let n := dramNat d (h.data + off) 2
  if h.len < off + 2 ∨ n < 1 ∨ 256 < n ∨ h.len < off + 2 + 8 * n then none else segRow d h n (off + 2) 0 0

/-- Row r as a number whose bit c is column c, or none where it is malformed (R78, R81): an index entry that points outside
data_len, or one that itself lies outside it. (DESIGN CHOICE, log 64) -/
def rowOf (d : Sp Byte) (h : Design) (r : Nat) : Option Nat :=
  if h.fmt = 1 ∨ h.fmt = 4 then some (dramNat d (h.data + r * rowStride h.w) ((h.w + 7) / 8))
  else
    let p := h.indexOff + 4 * r
    if h.len < p + 4 then none
    else
      let off := dramNat d (h.data + p) 4
      if h.len ≤ off then none
      else if h.fmt = 2 then runRow d h h.w off 0 0
      else programRow d h off

/-- Where a run code sequence ends: the offset after the codes that total the width, or after the region's last (R79). -/
def runEnd (d : Sp Byte) (h : Design) : Nat → Nat → Nat → Nat
  | 0, off, _ => off
  | k + 1, off, pos =>
    if h.w ≤ pos ∨ h.len ≤ off then off
    else
      let c := dramNat d (h.data + off) 1
      if c % 128 = 127 then runEnd d h k (off + 3) (pos + dramNat d (h.data + off + 1) 2 + 1) else runEnd d h k (off + 1) (pos + c % 128 + 1)

/-- The motif rows that a row program's segments name within the motif plane (R80). -/
def motifReads (d : Sp Byte) (h : Design) (off n : Nat) : List (Nat × Nat) :=
  ((upTo n).map (fun i => dramNat d (h.data + off + 2 + 8 * i) 2)).filterMap (fun sr =>
    if sr < h.pb then some (h.data + sr * rowStride h.pa, (h.pa + 7) / 8) else none)

/-- The reads of row r after the header, stage by stage (R78-R81): address and length of each. -/
def rowReads (d : Sp Byte) (h : Design) (r : Nat) : List (List (Nat × Nat)) :=
  if h.fmt = 1 ∨ h.fmt = 4 then [[(h.data + r * rowStride h.w, (h.w + 7) / 8)]]
  else
    let p := h.indexOff + 4 * r
    if h.len < p + 4 then []
    else
      let index := [(h.data + p, 4)]
      let off := dramNat d (h.data + p) 4
      if h.len ≤ off then [index]
      else if h.fmt = 2 then [index, [(h.data + off, min (runEnd d h h.w off 0) h.len - off)]]
      else
        let n := min 256 (dramNat d (h.data + off) 2)
        [index, [(h.data + off, min (2 + 8 * n) (h.len - off))], motifReads d h off n]

/-! ### Selection -/

/-- k of R82. -/
def Mach.rowCount (m : Mach) (cp : CommitPt) (b : Nat) : Nat :=
  let base := if bitN (m.seXform cp.stream b) 3 then 0 else cp.base
  ((cp.pick + 2 ^ 32 - base) % 2 ^ 32 * m.cpCount cp.stream + cp.idx + m.seYoff cp.stream b) % 2 ^ 32

/-- r of R82 in a design of `rows` rows. -/
def Mach.designRow (m : Mach) (cp : CommitPt) (rows : Nat) : Nat :=
  let r0 := m.rowCount cp cp.epoch % rows
  if bitN (m.seXform cp.stream cp.epoch) 1 then rows - 1 - r0 else r0

/-- The design value of stream hook i in a row (R82). -/
def Mach.hookValue (m : Mach) (h : Design) (n b k row i : Nat) : Bool :=
  let q := if h.fmt = 4 then k / h.h else 0
  let c0 := (i + m.seXoff n b + q * h.pa) % h.w
  let c := if bitN (m.seXform n b) 0 then h.w - 1 - c0 else c0
  Bool.xor (bitN row c) (bitN (m.seXform n b) 2)

/-- The body that a map's entries make for one handle (R85): later entries win, unnamed bits are 0. An entry written after
STREAM_ARM's checks whose bit lies beyond the payload is ignored. (DESIGN CHOICE, log 64) -/
def bodyFor (entries : List Word) (logical payload handle : Nat) (value : Nat → Bool) : Nat :=
  entries.zipIdx.foldl (fun body e =>
    if getF e.1 heValid = 0 ∨ getF e.1 heHandle ≠ handle ∨ 8 * payload ≤ getF e.1 heBit then body
    else if getF e.1 hePark = 1 then setBitN body (getF e.1 heBit) (getF e.1 heParkValue == 1)
    else if e.2 < logical then setBitN body (getF e.1 heBit) (Bool.xor (value e.2) (getF e.1 heInv == 1))
    else body) 0

/-- The bodies of a selection stream's commit point in ascending handle order, or none where it is malformed (R81). -/
def Mach.selection (m : Mach) (d : Sp Byte) (cp : CommitPt) : Option (List (Nat × List Byte)) :=
  let n := cp.stream
  let b := cp.epoch
  if !m.entryOk n b then none
  else match readHeader (m.seDesign n b) (dramRead d (m.seDesign n b) 64) with
    | none => none
    | some h =>
      let k := m.rowCount cp b
      match rowOf d h (m.designRow cp h.h) with
      | none => none
      | some row =>
        let map := m.seMap n b
        let es := m.mapEntries map b
        some ((m.destSet map b).map (fun hd =>
          (hd, leBytes (m.sePayload n b) (bodyFor es (m.dirLogical map b) (m.sePayload n b) hd (m.hookValue h n b k row)))))

/-! ### Profiles -/

/-- A point of a point array (R87): angle, value, slope. -/
structure Point where
  a : Nat
  v : Int
  s : Int
  deriving DecidableEq, Repr

/-- A point array in the DRAM. -/
def readPoints (d : Sp Byte) (addr n : Nat) : List Point :=
  (upTo n).map (fun i => ⟨dramNat d (addr + 16 * i) 2, sext 32 (dramNat d (addr + 16 * i + 4) 4), sext 32 (dramNat d (addr + 16 * i + 8) 4)⟩)

/-- Round a quotient to the nearest integer, halves away from zero. -/
def roundAway (num : Int) (den : Nat) : Int :=
  let q : Int := ((2 * num.natAbs + den) / (2 * den) : Nat)
  if num < 0 then -q else q

/-- Saturate to the signed 32-bit range. -/
def sat32 (i : Int) : Int := max (-(2 ^ 31 : Nat)) (min (2 ^ 31 - 1 : Nat) i)

/-- The raw value between two points at an angle fraction (R88). x has 32 fraction bits and the rest is exact. -/
def interpolate (p q : Point) (theta : Nat) : Int :=
  let da := (q.a + 65536 - p.a) % 65536
  let f : Int := (2 ^ 32 : Nat)
  let x : Int := ((theta + 65536 - p.a) % 65536 * 2 ^ 32 / da : Nat)
  let h00 := 2 * x * x * x - 3 * x * x * f + f * f * f
  let h10 := x * x * x - 2 * x * x * f + x * f * f
  let h01 := 3 * x * x * f - 2 * x * x * x
  let h11 := x * x * x - x * x * f
  sat32 (roundAway ((h00 * p.v + h01 * q.v) * 65536 + (h10 * p.s + h11 * q.s) * da) (2 ^ 96 * 65536))

/-- The raw value of a point array at an angle fraction (R88): the table is periodic over one revolution. -/
def rawValue (ps : List Point) (theta : Nat) : Int :=
  let before := ps.filter (fun p => decide (p.a ≤ theta))
  match before.getLast?, ps.getLast?, ps.head? with
  | some p, _, some f => interpolate p ((ps[before.length]?).getD f) theta
  | none, some l, some f => interpolate l f theta
  | _, _, _ => 0

/-- The raw value of a profile stream at a commit index, or none where the commit point is malformed (R81). -/
def Mach.profileRaw (m : Mach) (d : Sp Byte) (n b idx : Nat) : Option Int :=
  let k := m.seTable n b
  if !m.entryOk n b || !m.descOk k b then none
  else
    let addr := m.descPoints k b
    if !anglesRise (dramRead d addr (16 * m.descCount k b)) (m.descCount k b) then none
    else some (rawValue (readPoints d addr (m.descCount k b)) (m.cpAngle n idx))

/-- A clamp of R89: a bound of 0 is off. -/
def clampTo (on : Nat) (lo hi d : Int) : Int := if on = 0 then d else max lo (min hi d)

/-- The setpoint of a commit point (R89-R91): the item's body, and the stream's history after it. -/
def Mach.setpoint (m : Mach) (d : Sp Byte) (cp : CommitPt) (y : Int) : List Byte × Mach :=
  let n := cp.stream
  let b := cp.epoch
  let x := m.str n
  let x := if x.fresh then { x with outPrev := (m.profileRaw d n b 0).getD y, dPrev := 0, fresh := false } else x
  let jerk := m.seJerk n b
  let rate := m.seRate n b
  let d0 := y - x.outPrev
  let d1 := clampTo jerk (x.dPrev - jerk) (x.dPrev + jerk) d0
  let d2 := clampTo rate (-rate) rate d1
  let out := sat32 (x.outPrev + d2)
  let clamped := d1 != d0 || d2 != d1
  let run := if clamped then x.clampRun + 1 else 0
  let m := m.setStr n { x with outPrev := out, dPrev := out - x.outPrev, clampRun := run }
  let m := if clamped then m.inc (REN_S_CLAMP n) REN_S_CLAMP_count else m
  let m := if clamped && run == m.seClampLimit n b then
      ((m.ev (REN_S_STAT n) REN_S_STAT_clamp_ev).ev REN_STAT REN_STAT_clamp_ev).raise fRenClamp n
    else m
  ([BitVec.ofNat 8 (m.seChannel n b), BitVec.ofNat 8 (b2n (d2 != d1) + 2 * b2n (d1 != d0)), 0, 0] ++ leBytes 4 (twos 32 out), m)

/-! ### Work items -/

/-- A work item (R74). -/
def workItem (cp : CommitPt) (handle : Nat) (sel : Bool) (body : List Byte) : List Byte :=
  let head := [BitVec.ofNat 8 (cp.epoch * 128 + cp.stream), BitVec.ofNat 8 (cp.idx % 4 * 16 + if sel then 1 else 2)] ++ leBytes 4 cp.pick
  leBytes 2 handle ++ head ++ leBytes 8 cp.time ++ leBytes 3 cp.dl ++ [0] ++ leBytes 2 body.length ++ [0, 0] ++ body
    ++ leBytes 4 (crc32c (head ++ body)).toNat

end Sys2Proof.Machine
end

