-- ==== Sys2Proof/Machine/Rennet.lean ====
section
/-! DEFINITION. Rennet's commands and events (R63-R104). A write of a REN_ register stands with the register file. -/

namespace Sys2Proof.Machine
open Reg

/-- Rennet's power domain. -/
def domRen : Nat := 5

/-- The DRAM status of a failed read as the reason of R72. -/
def dropReason : DramStatus → Nat
  | .poisoned => 2
  | .hung => 8
  | _ => 7

/-! ### Stream commands -/

/-- The parameters of STREAM_DEFINE lie within their ranges (R623): kind, unlock, step_log2, lead and prep. -/
def defineOk (c : Cmd) : Bool :=
  let ctrl : Word := BitVec.ofNat 32 (leAt c.payload 0 4)
  let tim : Word := BitVec.ofNat 32 (leAt c.payload 4 4)
  let kind := getF ctrl REN_S_CTRL_kind
  let lead := getF tim REN_S_TIMING_lead
  let prep := getF tim REN_S_TIMING_prep
  decide (c.b 8 < 128) && decide (kind < 3) && decide (getF ctrl REN_S_CTRL_unlock < 2)
    && (kind != kProf || decide (6 ≤ getF ctrl REN_S_CTRL_step_log2 ∧ getF ctrl REN_S_CTRL_step_log2 ≤ 14))
    && decide (10 ≤ lead ∧ lead ≤ 40000) && decide (1 ≤ prep ∧ prep < 10 * lead)

/-- Bits of REN_Sn_CTRL that are fields (R116). -/
def ctrlMask : Word := 0xFFF00003#32

/-- STREAM_DEFINE (R66). -/
def Mach.streamDefine (m : Mach) (c : Cmd) : Mach :=
  m.serveIn domRen c (c.payload.length == 16) (defineOk c) (fun m =>
    let n := c.b 8
    let ctrl : Word := BitVec.ofNat 32 (leAt c.payload 0 4) &&& ctrlMask
    let kind := getF ctrl REN_S_CTRL_kind
    let st := m.strState n
    if st == stRunning || (st == stFree && kind == 0) then m.reply c stBadState
    else
      let old := m.strGroup n
      let m := ((m.wr (REN_S_CTRL n) ctrl).wr (REN_S_TIMING n) (BitVec.ofNat 32 (leAt c.payload 4 4))).setUncom 3 true
      let m := (m.wr (REN_S_ANGLE01 n) (BitVec.ofNat 32 (leAt c.payload 8 4))).wr (REN_S_ANGLE23 n) (BitVec.ofNat 32 (leAt c.payload 12 4))
      let st := if kind == 0 then stFree else stDefined
      let m := ((m.fs (REN_S_STAT n) REN_S_STAT_state st).setStr n { m.str n with reg := none, haltAt := none }).regroup old
      m.reply c stOk st)

def execStreamDefine (c : Cmd) (s : State) : Host.Outcome State Fault Refusal := s.upd (·.streamDefine c)

/-- A stream that is armed takes its group's epoch; a pending change that is due takes it on from there (R66, R97). (DEDUCED, log 38) -/
def Mach.joinEpoch (m : Mach) (n : Nat) : Mach :=
  let g := m.strGroup n
  let m := m.fs (REN_S_STAT n) REN_S_STAT_epoch (m.grpEpoch g)
  ((m.setGrp g { m.grp g with changed := (m.grp g).changed.filter (· != n) }).settleCheck g).pickReached

/-- STREAM_ARM (R67): the checks in both banks, then ARMED with the group's epoch. (DEDUCED, log 38) -/
def Mach.streamArm (m : Mach) (d : Sp Byte) (c : Cmd) : Mach :=
  m.serveIn domRen c (cmdBare c) (decide (c.b 8 < 128)) (fun m =>
    let n := c.b 8
    if m.strState n != stDefined && m.strState n != stHalted then m.reply c stBadState
    else
      let (k, m) := m.armCheck d n [0, 1] (bitN (c.b 9) 0)
      if k ≠ 0 then m.reply c stBadState k
      else
        let m := ((m.recordDest n 0).recordDest n 1).fs (REN_S_STAT n) REN_S_STAT_state stArmed
        (m.joinEpoch n).reply c stOk)

def execStreamArm (c : Cmd) (s : State) : Host.Outcome State Fault Refusal := s.updD (fun d m => m.streamArm d c)

/-- The streams that byte 8 names: a stream, or every stream of a group. -/
def Mach.named (m : Mach) (b : Nat) : List Nat :=
  if bitN b 7 then (upTo 128).filter (fun n => m.inGroup (b % 128) n) else [b]

/-- Byte 8 names a stream or a group. -/
def nameOk (b : Nat) : Bool := !bitN b 7 || decide (b % 128 < 16)

/-- The freezing moment of a stream's first commit point in a pick has passed (R68). -/
def Mach.startPassed (m : Mach) (n s : Nat) : Bool :=
  decide (m.cpAhead n (s, 0) ≤ 0) || (m.fg SHF_STAT SHF_STAT_lock == 1 && (m.freezeTime n (s, 0)).isSome)

/-- An armed stream starts at a pick (R68, R90). -/
def Mach.startStream (m : Mach) (s n : Nat) : Mach :=
  let m := (m.fs (REN_S_STAT n) REN_S_STAT_state stRunning).wr (REN_S_ORIGIN n) (BitVec.ofNat 32 s)
  m.setStr n { m.str n with reg := some (s, 0), haltAt := none, fresh := true, anyFrozen := false }

/-- STREAM_START (R68). A domain D5 that is entering RETENTION or OFF accepts no new work (R102, R518): the command's cells
wait there (R16). -/
def Mach.streamStart (m : Mach) (c : Cmd) : Mach :=
  if m.domLeaving domRen then m
  else m.serveIn domRen c (cmdBare c) (nameOk (c.b 8)) (fun m =>
    let s := c.p 12 4
    let l := (m.named (c.b 8)).filter (fun n => m.strState n == stArmed)
    if l.isEmpty || m.fg REN_STAT REN_STAT_stop == 1 || m.fg REN_CTRL REN_CTRL_enable == 0 || l.any (fun n => m.startPassed n s) then
      m.reply c stBadState
    else (forEach l (fun n m => m.startStream s n) m).reply c stOk)

def execStreamStart (c : Cmd) (s : State) : Host.Outcome State Fault Refusal := s.upd (·.streamStart c)

/-- STREAM_HALT (R100), acted on at ingress (R402). -/
def Mach.streamHalt (m : Mach) (c : Cmd) : Mach :=
  m.serveIn domRen c (cmdBare c) (nameOk (c.b 8) && decide (c.b 9 < 2)) (fun m =>
    let l := (m.named (c.b 8)).filter (fun n => m.strState n == stRunning)
    if l.isEmpty && !bitN (c.b 8) 7 then m.reply c stBadState
    else
      let m := forEach l (fun n m => if c.b 9 = 0 then m.haltNow n 5 false else m.haltAtPick n false) m
      m.afterHalt.reply c stOk)

def execStreamHalt (c : Cmd) (s : State) : Host.Outcome State Fault Refusal := s.upd (·.streamHalt c)

/-- HALT_ALL (R100). -/
def Mach.haltAll (m : Mach) (c : Cmd) : Mach :=
  m.serve c (cmdBare c) true (fun m => (m.haltAllNow 5 false).afterHalt.reply c stOk)

def execHaltAll (c : Cmd) (s : State) : Host.Outcome State Fault Refusal := s.upd (·.haltAll c)

/-! ### Switches and tables -/

/-- The streams of a group that own tables. -/
def Mach.members (m : Mach) (g : Nat) : List Nat :=
  (upTo 128).filter (fun n => m.inGroup g n && ownsTables (m.strState n))

/-- Whether the shadow bank of a group passes the checks of R67 for every member, without verify (R96). -/
def Mach.shadowOk (m : Mach) (d : Sp Byte) (g : Nat) : Bool × Mach :=
  (m.members g).foldl (fun r n => if r.1 then let (k, m) := r.2.armCheck d n [1 - r.2.grpEpoch g] false; (k == 0, m) else r) (true, m)

/-- The checks that STREAM_SWITCH and TABLE_FLIP share (R96, R98): the status that refuses, none where they pass. -/
def Mach.switchRefusal (m : Mach) (d : Sp Byte) (g : Nat) : Option Nat × Mach :=
  if m.fg (REN_GRP_STAT g) REN_GRP_STAT_pending == 1 then (some stBusy, m)
  else if !m.isSettled g then (some stTableBusy, m)
  else
    let (ok, m) := m.shadowOk d g
    (if ok then none else some stBadState, m)

/-- A running stream has frozen a commit point of pick p or later (R96). -/
def Mach.frozePast (m : Mach) (p n : Nat) : Bool :=
  ((m.str n).anyFrozen && decide (pickDiff p (m.rg (REN_S_PICK n)).toNat ≤ 0))
    || m.shf.bus.any (fun b => b.stream == n && b.cp.isSome && decide (pickDiff p b.pick ≤ 0))

/-- A change of a group is accepted: it is pending and the shadow bank's destination counts are known. -/
def Mach.acceptChange (m : Mach) (g : Nat) (flip : Bool) : Mach :=
  let m := forEach (m.members g) (fun n m => m.recordDest n (1 - m.grpEpoch g)) m
  (m.fs (REN_GRP_STAT g) REN_GRP_STAT_pending 1).setGrp g { m.grp g with flip := flip, changed := [] }

/-- STREAM_SWITCH (R96, R97). -/
def Mach.streamSwitch (m : Mach) (d : Sp Byte) (c : Cmd) : Mach :=
  m.serveIn domRen c (cmdBare c) (decide (c.b 8 < 16)) (fun m =>
    let g := c.b 8
    let p := c.p 12 4
    match m.switchRefusal d g with
    | (some st, m) => m.reply c st
    | (none, m) =>
      if (m.members g).any (fun n => m.strState n == stRunning && m.frozePast p n) then m.reply c stBadState
      else (((m.acceptChange g false).wr (REN_GRP_SWPICK g) (BitVec.ofNat 32 p)).pickReached).reply c stOk)

def execStreamSwitch (c : Cmd) (s : State) : Host.Outcome State Fault Refusal := s.updD (fun d m => m.streamSwitch d c)

/-- TABLE_FLIP (R98). (DEDUCED, log 38) -/
def Mach.tableFlip (m : Mach) (d : Sp Byte) (c : Cmd) : Mach :=
  m.serveIn domRen c (cmdBare c) (c.p 8 2 / 4096 == 0xF && decide (c.p 8 2 % 4096 < 16)) (fun m =>
    let g := c.p 8 2 % 4096
    match m.switchRefusal d g with
    | (some st, m) => m.reply c st
    | (none, m) => ((m.acceptChange g true).pickReached).reply c stOk)

def execTableFlip (c : Cmd) (s : State) : Host.Outcome State Fault Refusal := s.updD (fun d m => m.tableFlip d c)

/-- The table that TABLE_WRITE names exists (R95). -/
def tableOk (id : Nat) : Bool :=
  (id / 4096 == 1 && decide (id % 4096 < 128)) || ((id / 4096 == 2 || id / 4096 == 3) && decide (id % 4096 < 64))

/-- TABLE_WRITE (R94, R394). (DEDUCED, log 38) -/
def Mach.tableWrite (m : Mach) (c : Cmd) : Mach :=
  let n := c.payload.length
  m.serveIn domRen c (decide (4 ≤ n ∧ n ≤ 1024) && n % 4 == 0) (tableOk (c.p 8 2)) (fun m =>
    let kind := c.p 8 2 / 4096
    let i := c.p 8 2 % 4096
    let off := c.p 12 4
    let tables := (kind, i) :: (if kind = 2 then m.imageMaps i off n else [])
    let route := m.tableRoute tables none
    let banks := match route with | some r => r.1 | none => [0, 1]
    if !banks.all (fun b => m.imageFits kind i b off n) then m.reply c stBadLength
    else match route with
      | none => m.reply c stTableBusy
      | some (banks, marks) => ((forEach banks (fun b m => m.imagePut kind i b off c.payload) m).markDirty marks).reply c stOk)

def execTableWrite (c : Cmd) (s : State) : Host.Outcome State Fault Refusal := s.upd (·.tableWrite c)

/-- The resync copy ends: the group settles, unless a stream of the other epoch has joined it meanwhile; then it settles
after a copy that follows once the group has drained again (R93). -/
def Mach.resyncDone (m : Mach) (g : Nat) : Mach :=
  if !(m.grp g).copying then m
  else
    let m := m.copyDirty g
    if m.drained g then (m.setGrp g { m.grp g with copying := false, draining := false }).ev (REN_GRP_STAT g) REN_GRP_STAT_switched_ev
    else m.setGrp g { m.grp g with copying := false }

def execResyncCopyDone (g : Fin 16) (s : State) : Host.Outcome State Fault Refusal := s.upd (·.resyncDone g.val)

/-! ### Commit points -/

/-- The word that Rennet receives next from the time bus, where a test picks it: words arrive in the order in which they
were sent (R15), and none arrives while D5 is not ON (R16). -/
def Mach.takeBus (m : Mach) (t : BusMsg → Bool) : Option BusMsg × Mach :=
  match m.shf.bus with
  | b :: l => if t b && m.domOn domRen then (some b, { m with shf := { m.shf with bus := l } }) else (none, m)
  | [] => (none, m)

/-- Rennet takes the frozen commit point of a stream from the time bus (R69). -/
def Mach.commitFrozen (m : Mach) (n : Nat) : Mach :=
  match m.takeBus (fun b => b.stream == n && b.cp.isSome) with
  | (some ⟨_, _, _, some cp⟩, m) => m.frozen cp
  | _ => m

def execRenCommitFrozen (n : Fin 128) (s : State) : Host.Outcome State Fault Refusal := s.upd (·.commitFrozen n.val)

/-- Rennet takes the report of a missed commit point (R69, R71). -/
def Mach.commitMissed (m : Mach) (n : Nat) : Mach :=
  match m.takeBus (fun b => b.stream == n && b.cp.isNone) with
  | (some b, m) => m.missed n (b.pick, b.idx)
  | (none, _) => m

def execRenCommitMissed (n : Fin 128) (s : State) : Host.Outcome State Fault Refusal := s.upd (·.commitMissed n.val)

/-- An engine is in service (R104, R107). -/
def Mach.inService (m : Mach) (e : Nat) : Bool :=
  bitN (m.fg REN_CTRL REN_CTRL_engine_en) e && !bitN (m.fg REN_STAT REN_STAT_engine_fail) e

/-- The queued commit point with the earliest deadline, the lower stream first (R63). -/
def nextWork : List CommitPt → Option CommitPt
  | [] => none
  | c :: l => match nextWork l with
    | none => some c
    | some x => if stampLt x.dl c.dl || (x.dl == c.dl && decide (x.stream < c.stream)) then some x else some c

/-- The DRAM reads of a run of bytes, split at blocks, as they leave input 54 with the deadline D (R69, R70, R395). (DEDUCED, log 38) -/
def Mach.renReads (dl : Nat) : Nat → Nat → Nat → Mach → Mach
  | 0, _, _, m => m
  | k + 1, a, len, m =>
    if len = 0 then m
    else
      let n := min len (256 - a % 256)
      Mach.renReads dl k (a + n) (len - n) (m.dramAsk 54 1 1 false 0 a n 0 (some dl) [])

/-- A commit point is dropped with a reason, with the fault and the halt that the reason carries (R72). -/
def Mach.dropFor (m : Mach) (cp : CommitPt) (issued : Nat) (begun : Bool) (reason : Nat) : Mach :=
  let m := m.dropCp cp issued begun reason
  if reason = 1 then m.raise fDeadlineMiss cp.stream
  else if reason = 3 then m.raise fBufParity 54
  else if reason = 4 ∨ reason = 7 then
    let m := m.raise fRenFormat cp.stream
    if m.strState cp.stream == stRunning then (m.haltStream cp.stream true).afterHalt else m
  else m

/-- A queued commit point need not wait: its items fit beside those in flight, or its deadline has passed (R72, R76). (DEDUCED, log 38) -/
def Mach.startable (m : Mach) (cp : CommitPt) : Bool :=
  dlPassed m.ctime cp.dl || decide (m.fg (REN_GRP_FLIGHT cp.group) (flightFd cp.epoch) + cp.dest ≤ 4095)

/-- Reads of runs of bytes of a commit point: address and length. -/
def Mach.readSpans (m : Mach) (cp : CommitPt) (l : List (Nat × Nat)) : Mach :=
  forEach l (fun e m => Mach.renReads cp.dl (e.2 / 256 + 2) e.1 e.2 m) m

/-- What a commit point reads first: the design header, or the point array. -/
def Mach.firstReads (m : Mach) (cp : CommitPt) : List (Nat × Nat) :=
  if m.kind cp.stream == kSel then [(m.seDesign cp.stream cp.epoch, 64)]
  else
    let k := m.seTable cp.stream cp.epoch
    [(m.descPoints k cp.epoch, 16 * m.descCount k cp.epoch)]

/-- What a commit point reads after that, stage by stage (R78-R80): the row, or the row's index entry, its codes or program
and the motif rows that the program names. -/
def Mach.laterReads (m : Mach) (d : Sp Byte) (cp : CommitPt) : List (List (Nat × Nat)) :=
  if m.kind cp.stream != kSel then []
  else match readHeader (m.seDesign cp.stream cp.epoch) (dramRead d (m.seDesign cp.stream cp.epoch) 64) with
    | none => []
    | some h => rowReads d h (m.designRow cp h.h)

/-- A free engine takes queued work that need not wait and starts its reads (R63, R76). (DEDUCED, log 38) -/
def Mach.engineStart (m : Mach) (t : Nat) : Mach :=
  let m := m.at_ t
  match nextWork (m.ren.queue.filter m.startable), (upTo 8).find? (fun e => m.inService e && (m.eng e).work = none && !(m.eng e).katDue) with
  | some cp, some e =>
    let rest := { m with ren := { m.ren with queue := m.ren.queue.erase cp } }
    if dlPassed m.ctime cp.dl then rest.dropFor cp 0 false 1
    else
      let f := flightFd cp.epoch
      let n := m.fg (REN_GRP_FLIGHT cp.group) f + cp.dest
      let m := (rest.fs (REN_GRP_FLIGHT cp.group) f n).setEng e { m.eng e with work := some cp, stage := 0, issued := 0 }
      m.readSpans cp (m.firstReads cp)
  | _, _ => m

def execRenEngineStart (t : Nat) (s : State) : Host.Outcome State Fault Refusal := s.upd (·.engineStart t)

/-- The items of a commit point: handle and body, and the stream's history after them; none where it is malformed. -/
def Mach.itemsOf (m : Mach) (d : Sp Byte) (cp : CommitPt) : Option (List (Nat × List Byte)) × Mach :=
  if m.kind cp.stream == kSel then (m.selection d cp, m)
  else match m.profileRaw d cp.stream cp.epoch cp.idx with
    | none => (none, m)
    | some y => let (body, m) := m.setpoint d cp y; (some [(m.seHandle cp.stream cp.epoch, body)], m)

/-- An engine is done with its commit point. -/
def Mach.freeEng (m : Mach) (e : Nat) : Mach := m.setEng e { m.eng e with work := none, stage := 0, issued := 0 }

/-- The crossbar output of a handle (R74): its port on this hub, or the chain port of the route to its node; without a route
a reserved port, where the item is misrouted. (DEDUCED, log 38) -/
def Mach.itemPort (m : Mach) (h : Nat) : Nat :=
  if h / 2048 % 32 = m.node ∨ !m.joined then h / 32 % 64
  else match m.routePort (h / 2048 % 32) with
    | some k => 49 + k
    | none => 63

/-- Items are issued (R74): each goes out whole as a packet at input 54, and none is presented before the cells of the one
before it have entered (R208). The number issued. -/
def Mach.issue (cp : CommitPt) (sel : Bool) : List (Nat × List Byte) → Nat → Mach → Nat × Mach
  | [], k, m => (k, m)
  | x :: l, k, m =>
    if !(m.feed 54 1).isEmpty then (k, m)
    else
      let w := workItem cp x.1 sel x.2
      let m := (m.emit .item [m.itemPort x.1, cp.group, cp.epoch] w).form 54
        { dst := m.itemPort x.1, cls := 1, dl := some cp.dl, epoch := cp.epoch, group := cp.group } w
      Mach.issue cp sel l (k + 1) m

/-- Read data arrive for an engine's commit point, the table words it reads passing parity or not: the next reads follow, or
up to `count` more of its items are issued, or the rest are dropped (R72, R74). -/
def Mach.renData (m : Mach) (d : Sp Byte) (e : Nat) (st : DramStatus) (parityOk : Bool) (count t : Nat) : Mach :=
  let m := m.at_ t
  match (m.eng e).work with
  | none => m
  | some cp =>
    let issued := (m.eng e).issued
    let stage := (m.eng e).stage
    if readFailed st then (m.freeEng e).dropFor cp issued true (dropReason st)
    else if !parityOk then (m.freeEng e).dropFor cp issued true 3
    else if dlPassed m.ctime cp.dl then (m.freeEng e).dropFor cp issued true 1
    else match (m.laterReads d cp)[stage]? with
      | some l => (m.setEng e { m.eng e with stage := stage + 1 }).readSpans cp l
      | none =>
        if count = 0 then m
        else match m.itemsOf d cp with
          | (none, m) => (m.freeEng e).dropFor cp issued true 4
          | (some items, m) =>
            let (k, m) := Mach.issue cp (m.kind cp.stream == kSel) ((items.drop issued).take count) 0 m
            let done := issued + k
            if items.length ≤ done then
              let m := m.freeEng e
              if done < cp.dest then m.flightDown cp.group cp.epoch (cp.dest - done) else m
            else m.setEng e { m.eng e with issued := done }

def execRenDramData (e : Fin 8) (st : DramStatus) (parityOk : Bool) (count : Nat) (t : Nat) (s : State) : Host.Outcome State Fault Refusal :=
  s.updD (fun d m => m.renData d e.val st parityOk count t)

/-- The result of a known-answer test of an engine (R103, R104). -/
def Mach.katResult (m : Mach) (e : Nat) (pass : Bool) : Mach :=
  if pass then m.inc REN_KAT_CNT REN_KAT_CNT_passed
  else ((m.fs REN_STAT REN_STAT_engine_fail (setBitN (m.fg REN_STAT REN_STAT_engine_fail) e true)).ev REN_STAT REN_STAT_kat_ev).raise fRenKat e

/-- A known-answer test (R103, R104): an engine that is not idle runs it before its next commit point. -/
def Mach.katRun (m : Mach) (e : Nat) (pass : Bool) : Mach :=
  if m.fg REN_CTRL REN_CTRL_kat_en == 0 || !m.inService e || !m.domOn domRen then m
  else if (m.eng e).work ≠ none then m.setEng e { m.eng e with katDue := true }
  else (m.setEng e { m.eng e with katDue := false }).katResult e pass

def execRenKatRun (e : Fin 8) (pass : Bool) (s : State) : Host.Outcome State Fault Refusal := s.upd (·.katRun e.val pass)

end Sys2Proof.Machine
end

