-- ==== Sys2Proof/Machine/TallyOps.lean ====
section
/-! DEFINITION. Tally: the reference of a block, committing it, and the sweep (R430-R434). -/

namespace Sys2Proof.Machine
open Reg

/-- The addresses of the registers of a row. -/
def RegRow.addrs (r : RegRow) : List Nat :=
  (upTo r.c1).flatMap (fun i => (upTo r.c2).map (fun j => r.base + r.s1 * i + r.s2 * j))

/-- Put an address in ascending order. -/
def addrInsert (a : Nat) : List Nat → List Nat
  | [] => [a]
  | b :: l => if a ≤ b then a :: b :: l else b :: addrInsert a l

/-- The CONFIG registers of a block in ascending order of address (R430). -/
def configAddrs (i : Nat) : List Nat :=
  (((rowsAt (tallyBase i)).filter (·.config)).flatMap (·.addrs)).foldr (fun a l => if tallyIdx a == some i then addrInsert a l else l) []

/-- The bits of a register's RW and guarded fields. -/
def RegRow.ownMask (r : RegRow) : Word :=
  BitVec.ofNat 32 (r.fields.foldl (fun s f => if f.acc == .rw || f.acc == .key then s + (2 ^ f.n - 1) * 2 ^ f.lo else s) 0)

/-- The reference over a block's present contents (R430). -/
def Mach.tallyRef (m : Mach) (i : Nat) : Word :=
  match configAddrs i with
  | [] => 0
  | l => crc32c (l.flatMap (fun a => leBytes 4 (a - tallyBase i)
      ++ leBytes 4 (m.rg a &&& (match regRow a with | some r => r.ownMask | none => 0)).toNat))

/-- A block is committed (R432). -/
def Mach.tallyCommit (m : Mach) (i : Nat) : Mach :=
  ({ m with tlySeen := m.tlySeen.filter (· != i) }.wr (TLY_REF i) (m.tallyRef i)).setUncom i false

/-- Tally compares a block now (R433, R434). -/
def Mach.tallyChecked (m : Mach) (i : Nat) : Bool :=
  !m.uncommitted i && (match domOf (tallyBase i) with | some d => m.domOn d | none => false) && (i != 12 || m.dl.inService)

/-- One sweep (R433). -/
def Mach.tallySweep (m : Mach) : Mach :=
  let m := forEach (upTo 64) (fun i m =>
    if m.tallyChecked i && m.tallyRef i != m.rg (TLY_REF i) && !m.tlySeen.contains i then
      let m := { m with tlySeen := m.tlySeen ++ [i] }
      ((m.ev TLY_STAT TLY_STAT_mismatch_ev).fs TLY_STAT TLY_STAT_mis_block i).raise fTallyMismatch i
    else m) m
  m.inc TLY_SWEEP TLY_SWEEP_count

/-- The commit timer of a block ends (R431). (DESIGN CHOICE, log 5) -/
def Mach.commitTimeout (m : Mach) (i : Nat) : Mach :=
  if !m.uncommitted i then m
  else ((m.ev TLY_STAT TLY_STAT_uncommitted_ev).fs TLY_STAT TLY_STAT_unc_block i).raise fTallyUncommitted i

end Sys2Proof.Machine
end

