-- ==== Sys2Proof/Machine/XbarOps.lean ====
section
/-! DEFINITION. The crossbar: eligibility and matching (R197-R202), and delivery (R195, R205, R210). -/

namespace Sys2Proof.Machine
open Reg

/-! ### Eligibility (R197-R199) -/

/-- A port's line rate in units of 100 bytes a second (R199). (DEDUCED, log 37) -/
def Mach.lineRate (m : Mach) (p : Nat) : Nat :=
  if p < 48 then
    if m.pst p != pEnabled then 1875
    else match m.fg (PRT_STAT p) PRT_STAT_speed with
      | 3 => 600000
      | 2 => 15000
      | _ => 1875
  else if p = 48 then (if m.fg HUB_STAT HUB_STAT_speed == 3 then 600000 else 15000)
  else if p < 53 then 9800000
  else if p = 53 then
    match m.fg DMC_STAT DMC_STAT_bin_act with
    | 0 => 106640000
    | 1 => 117320000
    | 2 => 128000000
    | 4 => 160000000
    | 5 => 176000000
    | _ => 192000000
  else 256000000

/-- The power domain of a crossbar port's block (R14, R17). -/
def xPortDom (p : Nat) : Nat :=
  if p < 48 then 8 + p / 8 else if p = 48 then 2 else if p < 53 then 7 else if p = 53 then 4 else if p = 54 then 5
  else if p = 55 then 1 else 3

/-- The pool that a cell needs a credit of (R197). -/
def XCell.pool (c : XCell) : Nat := if c.cls = 0 then b2n c.rpt else c.cls + 1

/-- Credits of an output's pool. (DESIGN CHOICE, log 51) -/
def Mach.credit (m : Mach) (o pool : Nat) : Nat := spGet 0 m.xbr.credit (o * 5 + pool)

/-- Replace credits. -/
def Mach.setCredit (m : Mach) (o pool n : Nat) : Mach :=
  { m with xbr := { m.xbr with credit := spSet 0 m.xbr.credit (o * 5 + pool) n } }

/-- The output grants the cell (R197, R213): a credit of its pool; output 48 grants the first cell of a class 0 packet only
while queue 48 or 51 has room for 512 more words, output 56 a sample record's while its capture queue has room. -/
def Mach.granted (m : Mach) (o : Nat) (c : XCell) : Bool :=
  m.credit o c.pool != 0 && m.domOn (xPortDom o)
    && (o != 48 || c.cls != 0 || !c.first || m.qMayBegin (if c.rpt then 51 else 48))
    && (o != 56 || c.cls != 3 || !c.first || m.qRoom (52 + leAt c.data 13 1 % 4) 80)

/-- An input's request to an output in a class (R198, R200): the cell at the head of the queue, where it may leave. -/
def Mach.request (m : Mach) (i o c : Nat) : Option XCell :=
  match m.voq i o c with
  | [] => none
  | h :: l =>
    if !m.granted o h then none
    else match m.lockOf o c with
      | some k => if k.inp == i && !k.gone then some h else none
      | none =>
        if (h :: l).any (·.last) then some h
        else if m.fg XBR_CTRL XBR_CTRL_ct_en == 1 && decide (m.lineRate o ≤ m.lineRate i) && (o != 48 || (c == 2 && decide (i < 48))) then some h
        else none

/-! ### Matching (R200, R201) -/

/-- A request among others. -/
structure XReq where
  inp : Nat
  out : Nat
  cell : XCell
  deriving DecidableEq, Repr

/-- Every request of a cell time. -/
def Mach.requests (m : Mach) : List XReq :=
  m.xbr.voq.filterMap (fun e => (m.request (e.1 / 256) (e.1 / 4 % 64) (e.1 % 4)).map (fun h => ⟨e.1 / 256, e.1 / 4 % 64, h⟩))

/-- Round-robin distance from a pointer. -/
def rrDist (ptr n : Nat) : Nat := (n + 64 - ptr % 64) % 64

/-- A class 2 or 3 has been refused `share` times at an output (R201). -/
def Mach.boosted (m : Mach) (o c : Nat) : Bool :=
  let share := m.fg XBR_CTRL XBR_CTRL_share
  share != 0 && decide (share ≤ spGet 0 m.xbr.refused (o * 4 + c))

/-- A class's rank at an output among its requests (R200, R201): a class 2 or 3 refused often enough goes before classes 0 and
1, and a class 2 that waits beside such a class 3 goes before it. -/
def Mach.classRank (m : Mach) (l : List XReq) (o c : Nat) : Nat :=
  if c = 2 then (if m.boosted o 2 || (m.boosted o 3 && l.any (fun r => r.out == o && r.cell.cls == 3)) then 0 else 4)
  else if c = 3 then (if m.boosted o 3 then 1 else 5)
  else c + 2

/-- One cell's deadline goes before another's (R43). -/
def dlBefore (a b : XCell) : Bool := !a.noDl && (b.noDl || stampLt a.dl b.dl)

/-- Request `a` goes before `b`, by rank, within class 1 by deadline, then by round-robin distance. -/
def reqBefore (rank : XReq → Nat) (dist : XReq → Nat) (a b : XReq) : Bool :=
  if rank a < rank b then true
  else if rank b < rank a then false
  else if a.cell.cls = 1 ∧ b.cell.cls = 1 ∧ dlBefore a.cell b.cell then true
  else if a.cell.cls = 1 ∧ b.cell.cls = 1 ∧ dlBefore b.cell a.cell then false
  else decide (dist a < dist b)

/-- The first of a list by an order. -/
def bestReq (before : XReq → XReq → Bool) : List XReq → Option XReq
  | [] => none
  | a :: l => some (l.foldl (fun x y => if before y x then y else x) a)

/-- What an output grants among requests. -/
def Mach.grantOf (m : Mach) (l : List XReq) (o : Nat) : Option XReq :=
  bestReq (reqBefore (fun r => m.classRank l o r.cell.cls) (fun r => rrDist (spGet 0 m.xbr.rr o) r.inp)) (l.filter (fun r => r.out == o))

/-- What an input accepts among grants `g` of requests `l`. -/
def Mach.acceptOf (m : Mach) (l g : List XReq) (i : Nat) : Option XReq :=
  bestReq (reqBefore (fun r => m.classRank l r.out r.cell.cls) (fun r => rrDist (spGet 0 m.xbr.rr (64 + i)) r.out)) (g.filter (fun r => r.inp == i))

/-- What the outputs grant in a round. -/
def Mach.grants (m : Mach) (l : List XReq) : List XReq := (upTo 57).filterMap (m.grantOf l)

/-- What the inputs accept of a round's grants. -/
def Mach.accepts (m : Mach) (l g : List XReq) : List XReq := (upTo 57).filterMap (m.acceptOf l g)

/-- Requests whose input and output are still unmatched. -/
def unmatched (l acc : List XReq) : List XReq := l.filter (fun r => !acc.any (fun x => x.inp == r.inp || x.out == r.out))

/-- Count a cell time in which an output granted no request of a class 2 or 3, or forget the count where it granted one or,
below the share, where the class did not request (R201). -/
def Mach.countRefusals (m : Mach) (l given : List XReq) : Mach :=
  forEach (upTo 57) (fun o m => forEach [2, 3] (fun c m =>
    let asked := l.any (fun r => r.out == o && r.cell.cls == c)
    let got := given.any (fun r => r.out == o && r.cell.cls == c)
    let n := spGet 0 m.xbr.refused (o * 4 + c)
    let k := if got then 0 else if asked then n + 1 else if m.boosted o c then n else 0
    { m with xbr := { m.xbr with refused := spSet 0 m.xbr.refused (o * 4 + c) k } }) m) m

/-- A cell time: three rounds of request, grant and accept; the pointers move for accepts of the first (R200). -/
def Mach.cellTime (m : Mach) : Mach :=
  let l := m.requests
  let g1 := m.grants l
  let r1 := m.accepts l g1
  let l2 := unmatched l r1
  let g2 := m.grants l2
  let r2 := m.accepts l2 g2
  let l3 := unmatched l (r1 ++ r2)
  let g3 := m.grants l3
  let r3 := m.accepts l3 g3
  let m := m.countRefusals l (g1 ++ g2 ++ g3)
  let m := forEach r1 (fun r m =>
    { m with xbr := { m.xbr with rr := spSet 0 (spSet 0 m.xbr.rr r.out ((r.inp + 1) % 64)) (64 + r.inp) ((r.out + 1) % 64) } }) m
  { m with xbr := { m.xbr with matched := (r1 ++ r2 ++ r3).map (fun r => (r.inp, r.out, r.cell.cls)) } }

/-! ### Delivery -/

/-- Drop the rest of a packet from a virtual output queue, and what of it still arrives. -/
def Mach.dropRest (m : Mach) (i o c : Nat) : Mach :=
  let l := m.voq i o c
  let rest := l.dropWhile (fun x => !x.last)
  let m := m.setVoq i o c (rest.drop 1)
  if rest.isEmpty then m.setDiscard i o c else m

/-- The DRAM request that came in through a chain port and that a reply answers. -/
def Mach.askOf (m : Mach) (k cls : Nat) (data : List Byte) : Option DramFrom :=
  (m.chp k).asks.find? (fun a => a.cls == cls && a.tag == leAt data 1 1 && a.ctx == leAt data 12 4)

/-- A packet that leaves by a chain port takes its route header (R464): a work item to the node and port of its handle, a report
to the node that its queue names (R218), a DRAM request of a stream endpoint to the node of its window, a reply of the DRAM
controller to where the request came from. For any other packet the spec does not say where it goes. (DEDUCED, log 33) -/
def Mach.chainLeave (m : Mach) (k : Nat) (c : XCell) (data : List Byte) (bad : Bool) : Mach :=
  let hd : RouteHdr := { dst := 0, port := 48, cls := c.cls, srcPort := c.src, rpt := c.rpt, noDl := c.noDl, epoch := c.epoch, group := c.group, deadline := c.dl }
  if c.src = 54 ∧ c.cls = 1 then
    let h := leAt data 0 2
    m.chainOut k c.pool 13 [h] (m.ownHdr { hd with dst := h / 2048 % 32, port := h / 32 % 64 }) data bad
  else if c.src < 48 ∧ c.cls = 0 ∧ c.rpt then
    let n := m.fg (QUE_Q_CFG c.src) QUE_Q_CFG_fwd_node
    m.chainOut k c.pool 14 [n, b2n bad] (m.ownHdr { hd with dst := n }) data bad
  else if c.src = 48 ∧ c.cls = 2 then
    let n := (if leAt data 12 4 = 0 then m.cmf.out3 else m.cmf.in83).node
    m.chainOut k c.pool 15 [n] (m.ownHdr { hd with dst := n, port := 53 }) data bad
  else match (if c.src = 53 then m.askOf k c.cls data else none) with
    | some a =>
      let x := m.chp k
      (m.setChp k { x with asks := x.asks.erase a }).chainOut k c.pool 19 [a.node] (m.ownHdr { hd with dst := a.node, port := a.port }) data bad
    | none =>
      let (n, m) := m.takeFree
      let (p, m) := m.takeFree
      m.chainOut k c.pool 19 [n % 32] (m.ownHdr { hd with dst := n % 32, port := p % 56 }) data bad

/-- What an output does with a whole packet that has been delivered (R205, R213, R220). -/
def Mach.packetOut (m : Mach) (o : Nat) (c : XCell) (data : List Byte) (bad : Bool) : Mach :=
  if 49 ≤ o ∧ o ≤ 52 then m.chainLeave (o - 49) c data bad
  else if o = 56 ∧ c.cls = 3 then m.qPut (52 + leAt data 13 1 % 4) data
  else if !bad then m
  else if o < 48 ∧ c.cls = 1 ∧ m.isDel o then m.countDrop o 1 7
  else if o < 48 ∧ c.cls = 2 then m.emit .portTx [o, 16]
  else if o = 48 ∧ c.cls = 2 then m.emit .upstream [5, 0]
  else m

/-- Output 48 begins a packet for a queue: 512 words of it are promised (R213). -/
def Mach.promise (m : Mach) (o : Nat) (c : XCell) : Mach :=
  if o = 48 ∧ c.cls = 0 ∧ c.first then
    let n := if c.rpt then 51 else 48
    { m with que := spSet {} m.que n { m.q n with owed := (m.q n).owed ++ [512] } }
  else m

/-- The head cell of a matched queue reaches its output (R195): delivered, poisoned or, on a dst mismatch, discarded with the
rest of its packet, whose flight ends there (R210); where the packet already holds the output's lock, the lock's timeout ends
it with poison (R202). `bufOk` says that the input buffer's word passes parity (R205). -/
def Mach.deliver (m : Mach) (i o c : Nat) (h : XCell) (parityOk dstOk bufOk : Bool) : Mach :=
  let m := (m.setVoq i o c ((m.voq i o c).drop 1)).setCredit o h.pool (m.credit o h.pool - 1)
  if !dstOk then
    let m := (m.xbrErr o i c 2).inc XBR_MISR_CNT XBR_MISR_CNT_count
    let m := (m.ev XBR_STAT XBR_STAT_misroute_ev).flightReturn i o c h.group h.epoch
    let m := match m.lockOf o c with | some l => m.setLock o c (some { l with gone := true }) | none => m
    let m := if h.last then m else m.dropRest i o c
    m.raise fXbarMisroute o
  else
    let old := m.lockOf o c
    let was := match old with | some l => l.bad | none => false
    let data := (match old with | some l => l.acc | none => []) ++ h.data
    let bad := was || h.poison || !parityOk || !bufOk
    let acc := if 49 ≤ o ∧ o ≤ 52 ∨ o = 56 then data else []
    let m := m.setLock o c (if h.last then none else some { inp := i, group := h.group, epoch := h.epoch, bad := bad, acc := acc })
    let m := (m.emit .cellOut [o, i, c, b2n bad, b2n h.last, ({ h with poison := bad } : XCell).tag] h.data).promise o h
    let m := if o = 53 && !h.first then m.dramMore i c h.data bad h.last else m
    let m := if h.last then (m.flightReturn i o c h.group h.epoch).packetOut o h data bad else m
    let m := if bad && h.last then m.poisoned else m
    let m := if bufOk then m else m.raise fBufParity i
    if parityOk then m
    else (((m.xbrErr o i c 1).inc XBR_PERR_CNT XBR_PERR_CNT_count).ev XBR_STAT XBR_STAT_parity_ev).raise fXbarParity o

/-- A cell moves (R195, R200): one of the pairs still to move in the cell time, or of the next cell time. -/
def Mach.cellDeliver (m : Mach) (i o c : Nat) (parityOk dstOk bufOk : Bool) : Mach :=
  let m' := if m.xbr.matched.contains (i, o, c) then m else m.cellTime
  if !m'.xbr.matched.contains (i, o, c) then m
  else match m'.request i o c with
    | none => m
    | some h =>
      (({ m' with xbr := { m'.xbr with matched := m'.xbr.matched.erase (i, o, c) } }.deliver i o c h parityOk dstOk bufOk).refeed i).tapsFeed

/-- A locked output has received no cell for 8 µs (R202): the packet ends with poison. (DESIGN CHOICE, log 5) -/
def Mach.lockTimeout (m : Mach) (o c : Nat) : Mach :=
  match m.lockOf o c with
  | none => m
  | some l =>
    let m := m.setLock o c none
    let m := if l.gone then m else (m.dropRest l.inp o c).flightReturn l.inp o c l.group l.epoch
    let m := (m.emit .cellOut [o, l.inp, c, 1, 1]).xbrErr o l.inp c 3
    let m := if o = 53 then m.dramMore l.inp c [] true true else m
    (((m.poisoned).ev XBR_STAT XBR_STAT_lock_to_ev).refeed l.inp).tapsFeed

/-- An output's block grants credits (R197). A port engine that accepts no class 1 cell grants none in class 1 (R151). (DESIGN CHOICE, log 51) -/
def Mach.creditReturn (m : Mach) (o pool n : Nat) : Mach :=
  if decide (o < 48) && pool == 2 && m.itemsFull o then m else m.setCredit o pool (m.credit o pool + n)

end Sys2Proof.Machine
end

