-- ==== Sys2Proof/Machine/BootOps.lean ====
section
/-! DEFINITION. Chip resets (R576-R581), firmware slots (R586, R587) and the boot steps (R582-R585, R529). -/

namespace Sys2Proof.Machine
open Reg

/-- Change the boot state. -/
def Mach.boots (m : Mach) (f : Boot → Boot) : Mach := { m with boot := f m.boot }

/-- Reset causes (R591). -/
def rsPowerOn : Nat := 1
def rsCold : Nat := 2
def rsWarm : Nat := 3
def rsWatchdog : Nat := 4
def rsRetain : Nat := 5
def rsRetainFailed : Nat := 6
def rsCoreWake : Nat := 7
def rsFwActivate : Nat := 8

/-! ### Firmware slots -/

/-- Bytes of a slot; an erased byte reads 0xFF. -/
def Mach.slotBytes (m : Mach) (n off len : Nat) : List Byte :=
  (upTo len).map (fun i => spGet 0xFF#8 m.boot.slots (n * 2 ^ 22 + off + i))

/-- The slot holds nothing. -/
def Mach.slotEmpty (m : Mach) (n : Nat) : Bool := (m.slotBytes n 0 192).all (· == 0xFF#8)

/-- Authentication (R586): the result. (DEDUCED, log 30) -/
def Mach.authSlot (m : Mach) (n : Nat) : Nat :=
  let h := m.slotBytes n 0 192
  let len := leAt h 4 4
  if m.boot.invalid.contains n then 7
  else if m.slotEmpty n then 1
  else if leAt h 0 2 != 0x4657 || leAt h 2 1 != 1 || decide (4194048 < len) then 2
  else if Config.sha256 (slice h 48 64) != Config.keyHash then 3
  else if !Config.signatureOk (h.take 112) (slice h 48 64) (slice h 112 64) then 4
  else if leAt h 3 1 < Config.rollbackMin then 5
  else if Config.sha256 (m.slotBytes n 256 len) != slice h 16 32 then 6
  else 0

/-- The firmware version of a slot's header, 0 for an empty slot. -/
def Mach.slotVersion (m : Mach) (n : Nat) : Nat := if m.slotEmpty n then 0 else leNat (m.slotBytes n 8 2)

/-- JNL_SLOTn shows a slot (R599). (DEDUCED, log 30) -/
def Mach.showSlot (m : Mach) (n result : Nat) : Mach :=
  let st := if m.slotEmpty n then 0 else if result != 0 || m.boot.invalid.contains n then 1
    else if m.boot.trial == some n then 4 else if m.boot.active = n then 3 else 2
  m.wr (JNL_SLOT n) (BitVec.ofNat 32 (st * 2 ^ 29 + result * 2 ^ 16 + m.slotVersion n))

/-- The detail of a journal record about a slot (R591). -/
def Mach.slotDetail (m : Mach) (n result : Nat) : Nat :=
  n + 2 * b2n (m.boot.trial == some n) + 256 * result + 65536 * m.slotVersion n

/-- Bytes are programmed into a slot. (DEDUCED, log 30) -/
def slotWrite (d : Sp Byte) (a : Nat) : List Byte → Sp Byte
  | [] => d
  | b :: bs => slotWrite (spSet 0xFF#8 d a b) (a + 1) bs

/-- The slot that a FW_WRITE names, and the address of its first byte among the slots' bytes. -/
def fwSlot (c : Cmd) : Nat := c.b 8
def fwAddr (c : Cmd) : Nat := fwSlot c * 2 ^ 22 + c.p 12 4

/-- The FW_WRITE in progress is cut short: an open number of its bytes have been programmed. Those behind it have not begun.
(DEDUCED, log 30) -/
def Mach.cutFw (m : Mach) : Mach :=
  match m.boot.fw with
  | [] => m
  | c :: _ =>
    let (v, m) := m.takeFree
    m.boots (fun b => { b with fw := [], slots := slotWrite b.slots (fwAddr c) (c.payload.take (v % (c.payload.length + 1))) })

/-- An ABORT ends a FW_WRITE: where its bytes were being programmed, the slot is marked invalid (R400). -/
def Mach.fwWithdraw (m : Mach) (c : Cmd) : Mach :=
  match m.boot.fw with
  | [] => m
  | d :: l =>
    if d.same c then m.cutFw.boots (fun b => { b with fw := l, invalid := if b.invalid.contains (fwSlot c) then b.invalid else fwSlot c :: b.invalid })
    else m.boots (fun b => { b with fw := d :: l.filter (fun e => !e.same c) })

/-- The FW_WRITE in progress has programmed its last byte (R393). -/
def Mach.fwDone (m : Mach) : Mach :=
  match m.boot.fw with
  | [] => m
  | c :: l =>
    let b := m.boot
    let invalid := if c.p 12 4 = 0 then b.invalid.filter (· != fwSlot c) else b.invalid
    ({ m with boot := { b with fw := l, slots := slotWrite b.slots (fwAddr c) c.payload, invalid := invalid } } : Mach).reply c stOk

/-! ### A chip reset -/

/-- What a chip reset leaves of the registers and of the D4 units (R578): after a warm-retain reset D4 keeps its own. A supply that is still out of range is raised once the collector runs (R538). (DESIGN CHOICE, log 28) -/
def Mach.afterReset (m : Mach) (keep4 : Bool) : Mach :=
  let k := fun (a : Nat) => keep4 && domOf a == some 4
  { regs := spKeep k m.regs, evCnt := spKeep k m.evCnt, evAt := spKeep (fun a => k (a / 32)) m.evAt,
    free := m.free, out := m.out,
    pdi := { badSupply := m.pdi.badSupply, temp := m.pdi.temp },
    flt := { strapFactory := m.flt.strapFactory,
             early := m.pdi.badSupply.map (fun e => (if e % 2 = 1 then fSupplyOv else fSupplyUv, e / 2)) },
    dmc := if keep4 then { bad := m.dmc.bad, scrub := m.dmc.scrub } else {},
    dpy := { cache := cutFlash m.dpy.cache m.dpy.flashOps, marks := m.dpy.marks, base := if keep4 then m.dpy.base else [],
             resetN := keep4 && m.dpy.resetN },
    boot := m.boot }

/-- The count of incomplete boots as this reset leaves it (R585). -/
def Mach.incompleteNext (m : Mach) (byJnlReset : Bool) : Nat :=
  if m.fg JNL_STAT JNL_STAT_recovery == 1 && byJnlReset then 0 else if m.boot.done then 0 else min 3 (m.boot.incomplete + 1)

/-- The boot state at the start of the next boot (R576, R587, R591). -/
def Mach.bootNext (m : Mach) (cause refuser : Nat) (byJnlReset : Bool) : Boot :=
  let b := m.boot
  let por := cause == rsPowerOn
  let lost := b.fromTrial && !b.done
  { step := some 0, coreWake := cause == rsCoreWake, retained := cause == rsRetain,
    ram := if por then [] else b.ram, unflushed := if por then 0 else b.unflushed, flash := b.flash, count := (b.count + 1) % 2 ^ 32,
    active := b.active, trial := if lost then none else b.trial, incomplete := m.incompleteNext byJnlReset, slots := b.slots,
    invalid := b.invalid, cfg := b.cfg, cfg2 := b.cfg2, prevLast := m.fg JNL_STAT JNL_STAT_last_step, prevDone := b.done, straps := b.straps, cause := cause,
    refuser := refuser }

/-- The outputs of the power die go low (R577), and ALIVE is low. -/
def Mach.outputsLow (m : Mach) : Mach :=
  let m := forEach (allVbus ++ allHoops) (fun w m => if m.swLive w then m.emit .switchOut [b2n (decide (48 ≤ swKey w)), swKey w % 48, 0] else m) m
  if m.flt.alive then m.emit .alive [0] else m

/-! ### Boot steps -/

/-- JNL_STAT shows an event of the boot. -/
def Mach.bootEv (m : Mach) (f : Fd) : Mach := m.ev JNL_STAT f

/-- A step ends ALT or DEGRADED (R583). -/
def Mach.degraded (m : Mach) (step kind attempt detail : Nat) : Mach :=
  (m.journal step kind attempt detail).bootEv JNL_STAT_alt_ev

/-- A step ends STOP: the core die is held in reset. (DEDUCED, log 48) -/
def Mach.bootStop (m : Mach) (step attempt detail : Nat) : Mach :=
  ((m.journal step jFail attempt detail).bootEv JNL_STAT_fail_ev).boots (fun b => { b with step := none, stop := true })

/-- Recovery mode (R584): the boot ends here and no step follows. -/
def Mach.enterRecovery (m : Mach) : Mach :=
  (m.fs JNL_STAT JNL_STAT_recovery 1).boots (fun b => { b with step := none, slot := none })

/-- A domain is left OFF. -/
def Mach.leaveOff (m : Mach) (d : Nat) : Mach :=
  (m.fs (pwrStat d) PWR_D_STAT_state dsOff).setIsls d 4

/-- The domain that a step needs (R529). -/
def stepDom (s : Nat) : Option Nat :=
  match s with
  | 5 => some 4
  | 6 => some 4
  | 7 => some 3
  | 8 => some 5
  | 9 => some 7
  | 10 => some 1
  | 11 => some 2
  | _ => none

/-- The step is skipped: its domain is not ON (R529), or S6 after a kept DRAM (R312) or a failed training (R310). -/
def Mach.stepSkipped (m : Mach) (s : Nat) : Bool :=
  (match stepDom s with | some d => !m.domOn d | none => false)
    || (s == 6 && (m.initDone || m.fg DPY_STAT DPY_STAT_trained == 0))

/-- What a step begins with. -/
def Mach.stepAction (m : Mach) (s : Nat) (x : BootRes) : Mach :=
  match s with
  | 3 => (m.fs JNL_WDOG JNL_WDOG_enable 1).fs JNL_WDOG JNL_WDOG_period 2000
  | 5 => ({ m with pdi := { m.pdi with temp := x.temp } }).trainStart m.boot.retained
  | 6 => ({ m with dmc := { m.dmc with initing := true } } : Mach).saveIfDue
  | 9 =>
    let m := (m.fs GLB_NODE GLB_NODE_node m.boot.cfg.node).chnApply
    if m.node = 0 then m.discStart none else m
  | 11 => (m.connectWrite true).2
  | _ => m

/-- The boot is complete (R585, R587). -/
def Mach.bootComplete (m : Mach) : Mach :=
  let act := if m.boot.fromTrial then m.boot.slot.getD m.boot.active else m.boot.active
  let m := m.boots (fun b => { b with step := none, done := true, incomplete := 0, active := act, trial := if b.fromTrial then none else b.trial })
  let m := m.fs JNL_STAT JNL_STAT_incomplete 0
  match m.boot.slot with
  | some n => m.showSlot n 0
  | none => m

/-- The boot goes on with the first step from `s` on that is not skipped. -/
def Mach.bootEnter : Nat → Nat → BootRes → Mach → Mach
  | 0, _, _, m => m
  | k + 1, s, x, m =>
    if 11 < s then m.bootComplete
    else if m.stepSkipped s then bootEnter k (s + 1) x (m.journal s jSkipped 0 0)
    else ((m.boots (fun b => { b with step := some s, attempt := 1 })).journal s jStart 1 0).stepAction s x

/-- The step ends with PASS and the next one starts. -/
def Mach.stepPass (m : Mach) (s : Nat) (x : BootRes) : Mach :=
  (m.journal s jPass m.boot.attempt x.detail.toNat).bootEnter 13 (s + 1) x

/-- The first record of a boot (R591). (DEDUCED, log 29) -/
def Mach.causeRecord (m : Mach) : Mach :=
  let b := m.boot
  m.journal 0xF0 jInfo 0 (b.cause + 256 * b.refuser + 65536 * b.prevLast + 2 ^ 24 * b2n b.prevDone)

/-- JNL_STAT and JNL_BOOTCNT at the start of a boot. -/
def Mach.showBoot (m : Mach) : Mach :=
  let b := m.boot
  let m := ((m.fs JNL_STAT JNL_STAT_cause b.cause).fs JNL_STAT JNL_STAT_incomplete b.incomplete).wr JNL_BOOTCNT (BitVec.ofNat 32 b.count)
  m.fs JNL_STAT JNL_STAT_retained (b2n b.retained)

/-- The domains of the core-wake set (R529, R530) with those they depend on. -/
def wakeSet (w : Nat) : List Nat :=
  let l := (upTo 15).filter (fun d => bitN w d || decide (d ≤ 1))
  (upTo 15).filter (fun d => l.contains d || l.any (fun e => (domDeps e).contains d || (domDeps e).any (fun f => (domDeps f).contains d)))

/-- A chip reset (R576-R581). Factory test mode outlasts all but a cold one (R557). After core off the die link has still to come up (R408). `cause` is the journal's; a boot from S0 waits for the supplies, any other starts in S1. (DEDUCED, log 20; DEDUCED, log 27; DESIGN CHOICE, log 28) -/
def Mach.chipReset (m : Mach) (cause refuser : Nat) (byJnlReset : Bool) : Mach :=
  let m := m.cutFw
  let b := m.bootNext cause refuser byJnlReset
  let lost := m.boot.fromTrial && !m.boot.done
  let wake := m.pwr.wake.toNat
  let (rind, part) := (m.cmd.rind, m.cmd.rindPart)
  let factory := m.fg FLT_STAT FLT_STAT_factory == 1 && cause != rsCold && cause != rsPowerOn
  let m := { (m.outputsLow.emit .reset [cause]).afterReset (cause == rsRetain) with boot := b }
  let m := if factory then m.fs FLT_STAT FLT_STAT_factory 1 else m
  let m := if cause = rsCoreWake then
      forEach ((upTo 15).filter (fun d => !(wakeSet wake).contains d)) (fun d m => m.leaveOff d)
        { m with cmd := { m.cmd with rind := rind, rindPart := part }, dl := { m.dl with inService := false } }
    else m
  let m := m.showBoot.showRam
  let m := if lost then m.bootEv JNL_STAT_trial_fail_ev else m
  if cause = rsPowerOn ∨ cause = rsCold then m
  else ((m.causeRecord).boots (fun b => { b with step := some 1 })).journal 1 jStart 1 0

/-- The straps are sampled at power-on and cold reset (R576, R613). (DEDUCED, log 27) -/
def Mach.sampleStraps (m : Mach) (straps : Nat) : Mach :=
  { m.boots (fun b => { b with straps := straps }) with flt := { m.flt with strapFactory := straps / 4 == 3 } }

/-- A chip reset of the whole state: the lock bits clear (R423, R581), and the DRAM contents are lost but after a
warm-retain reset. (DESIGN CHOICE, log 28) -/
def State.chipReset (s : State) (cause refuser : Nat) (byJnlReset : Bool) : State :=
  { s with m := s.m.chipReset cause refuser byJnlReset, dram := if cause = rsRetain then s.dram else [], guard := 0 }

/-- Why D4 does not get to RETENTION before a warm-retain reset (R578), none where it does: its refusers, and what aborts its
entry (R274). (DEDUCED, log 31) -/
def Mach.retainRefuser (m : Mach) : Option Nat :=
  if m.domState 4 = dsRet then none
  else if m.domState 4 = dsOff then some 0x11
  else match m.refuser 4 dsRet 2 false true with
    | some r => some r
    | none => if m.initDone then none else some 0x04

/-- D4 has requests to complete before it can be in RETENTION (R274, R518). -/
def Mach.retainWaits (m : Mach) : Bool := m.domOn 4 && m.retainRefuser.isNone && !m.dmc.slots.isEmpty

/-- Before a warm-retain reset every stream halts and D5 goes OFF (R578). -/
def Mach.retainStops (m : Mach) : Mach := (m.haltAllNow 5 false).leaveOff 5

/-- The reset that ends a warm-retain reset: where D4 did not get to RETENTION it goes ahead as a warm reset (R578). -/
def State.retainReset (s : State) (byJnlReset : Bool) : Option Nat → State
  | none => ({ s with m := s.m.fs DMC_STAT DMC_STAT_selfref 1 } : State).chipReset rsRetain 0 byJnlReset
  | some r => s.chipReset rsRetainFailed r byJnlReset

/-- D4 begins its entry for a warm-retain reset, which waits for it. -/
def Mach.retainEnter (m : Mach) : Mach :=
  (if m.domLeaving 4 then m else m.domEnter 4 dsRet none 2).boots (fun b => { b with retaining := true })

/-- A warm-retain reset (R578): every stream halts, D5 goes OFF, and D4 is asked for RETENTION; the reset waits while D4
completes the requests it holds. (DESIGN CHOICE, log 28) -/
def State.warmRetain (s : State) (byJnlReset : Bool) : State :=
  if s.m.retainStops.retainWaits then { s with m := s.m.retainStops.retainEnter }
  else State.retainReset { s with m := s.m.retainStops } byJnlReset s.m.retainStops.retainRefuser

/-- D4's entry for a warm-retain reset has ended: the reset follows, with the refuser where the entry was aborted (R578). -/
def State.retainEnd (s : State) : State :=
  if !s.m.boot.retaining || s.m.domLeaving 4 then s
  else State.retainReset s true (if s.m.domState 4 = dsRet then none else some (s.m.fg (pwrStat 4) PWR_D_STAT_last_refuser))

/-! ### The ends of S2, S3, S4 and S7 -/

/-- S3 chooses and authenticates a slot (R586, R587). -/
def Mach.chooseSlot : List Nat → Mach → Mach
  | [], m => (m.journal 3 jFail 1 0).boots (fun b => { b with recover := true })
  | n :: l, m =>
    let r := m.authSlot n
    let m := (m.showSlot n r).boots (fun b => { b with tried := b.tried ++ [n] })
    if r = 0 then
      let tr := m.boot.trial == some n
      let m := (m.boots (fun b => { b with slot := some n, fromTrial := tr })).journal 0xF1 jInfo 0 (m.slotDetail n 0)
      ((m.fs JNL_STAT JNL_STAT_slot n).fs JNL_STAT JNL_STAT_trial (b2n tr)).journal 3 jPass m.boot.tried.length (m.slotDetail n 0)
    else chooseSlot l (m.degraded 3 jAlt m.boot.tried.length (m.slotDetail n r))

/-- S3 ends: records go to flash from here on (R592). (DEDUCED, log 29) -/
def Mach.endS3 (m : Mach) (x : BootRes) : Mach :=
  let first := m.boot.trial.getD m.boot.active
  let m := m.flushJournal
  let m := forEach [0, 1] (fun n m => m.showSlot n 0) m
  (m.chooseSlot [first, 1 - first]).bootEnter 13 4 x

/-- S4 ends (R583): a fault in the lowest 16 KiB stops the boot; any other fault, no valid slot, or three incomplete boots
lead to recovery mode (R584, R585). (DEDUCED, log 29) -/
def Mach.endS4 (m : Mach) (x : BootRes) : Mach :=
  if !x.pass && x.detail == 0 then m.bootStop 4 1 0
  else if !x.pass then (m.journal 4 jFail 1 x.detail.toNat).enterRecovery
  else if m.boot.recover || m.boot.incomplete == 3 then (m.journal 4 jPass 1 x.detail.toNat).enterRecovery
  else m.stepPass 4 x

/-- S2 ends (R583): the USB PLL that does not lock leaves D2 OFF. (DEDUCED, log 29) -/
def Mach.endS2 (m : Mach) (x : BootRes) : Mach :=
  let start := fun (m : Mach) => ({ m with ctime := 0, running := true } : Mach).setTimeLock true
  if x.pass then (start m).stepPass 2 x
  else if x.detail == 1 then
    ((start m).degraded 2 jFail m.boot.attempt 1).boots (fun b => { b with usbPll := false }) |>.leaveOff 2 |>.bootEnter 13 3 x
  else if m.boot.attempt < 3 then
    let m := (m.journal 2 jFail m.boot.attempt 0).boots (fun b => { b with attempt := b.attempt + 1 })
    m.journal 2 jStart m.boot.attempt 0
  else m.bootStop 2 m.boot.attempt 0

/-- S7 fails (R583): the domain behind the output is left OFF. -/
def Mach.failS7 (m : Mach) (x : BootRes) : Mach :=
  let o := x.detail.toNat % 256
  let m := m.degraded 7 jFail 1 x.detail.toNat
  let m := m.raise (if bitN x.detail.toNat 8 then fXbarMisroute else fXbarParity) o
  if o = 55 then m.enterRecovery else (m.leaveOff (xPortDom o)).bootEnter 13 8 x

end Sys2Proof.Machine
end

