-- ==== Sys2Proof/Machine/Domains.lean ====
section
/-! DEFINITION. The commands and events of the power domains and islands (R511-R531). -/

namespace Sys2Proof.Machine
open Reg

/-- The wake sources that a domain has (R525). -/
def wakeSources (d : Nat) : Nat :=
  if 8 ≤ d ∧ d ≤ 13 then 0b11 else if d = 2 then 0b11100 else if d = 7 then 0b100000 else if d = 6 then 0b1000000 else 0

/-- Its enabled sources among those of a mask. -/
def Mach.wakeOf (m : Mach) (d mask : Nat) : Nat :=
  if d < 15 then m.fg (PWR_D_CFG d) PWR_D_CFG_wake &&& wakeSources d &&& mask else 0

/-- DOMAIN_SET at the power manager (R511, R512, R517, R523, R524, R527). `wake` holds the wake sources asserted in the
cycle of the check: of the domain, or for core off a core wake event. (DEDUCED, log 32) -/
def Mach.domainSet (m : Mach) (c : Cmd) (wake : Nat) : Mach :=
  m.serve c (cmdBare c) ((domOfCode (c.b 8)).isSome && decide (c.b 9 ≤ 2)) fun m =>
    let d := (domOfCode (c.b 8)).getD 0
    let t := c.b 9
    let ch := c.arrival.val
    let refuse := fun (code : Nat) (m : Mach) => (m.countRefuser d t ch code false).refusedReply (some c) code
    if (m.domMove d).isSome || (m.pwr.coreOff.isSome && decide (d < 15)) then m.reply c stBusy
    else if m.domState d = t then m.reply c stOk
    else if t = dsOn then
      if (m.domNeeds d).any (fun e => (m.domMove e).isSome) then m.reply c stBusy
      else (m.startRun { cmd := c }).domTurnOn d (some c)
    else if d = 0 && t == dsOff then
      if m.coreMoving || m.coreWanted then m.reply c stBusy
      else if wake ≠ 0 then refuse 0x01 m
      else if ch ≠ 1 then refuse 0x0C m
      else ({ m.startRun { cmd := c } with pwr := { m.pwr with coreOff := some c } }).coreOffNext
    else if m.domWanted d then m.reply c stBusy
    else match m.refuser d t ch (m.wakeOf d wake != 0) true with
      | some code => refuse code m
      | none =>
        if m.domState d = dsOff then m.reply c stBadState
        else (m.startRun { cmd := c }).domEnter d t (some c) ch

def execDomainSet (c : Cmd) (wake : BitVec 7) (s : State) : Host.Outcome State Fault Refusal := s.upd (·.domainSet c wake.toNat)

/-- DOMAIN_STATUS (R517, R534). -/
def Mach.domainStatus (m : Mach) (c : Cmd) : Mach :=
  m.serve c (cmdBare c) (domOfCode (c.b 8)).isSome fun m =>
    m.reply c stOk (f12 (m.rg (pwrStat ((domOfCode (c.b 8)).getD 0))).toNat)

def execDomainStatus (c : Cmd) (s : State) : Host.Outcome State Fault Refusal := s.upd (·.domainStatus c)

/-- Step 2 of an entry ends and steps 3 and 4 follow (R518), unless a condition marked A of R521 has arisen; `ok` says that
the PHY reached its low-power state (R274). (DEDUCED, log 32) -/
def Mach.domainDrainDone (m : Mach) (d : Nat) (ok : Bool) : Mach :=
  match m.domMove d with
  | none => m
  | some x =>
    if !x.entering then m
    else if d = 4 && !m.dmc.slots.isEmpty then m
    else if d = 0 then (match m.pwr.coreOff with | some c => if m.dieBusy then m else m.corePowerDown c | none => m)
    else if d = 4 && x.target == dsRet && (!m.initDone || !ok) then m.domAbort d 0x04
    else if d = 5 && m.barred d x.target x.chan false false 0x03 then m.domAbort d 0x03
    else if (d = 3 || d = 14) && m.barred d x.target x.chan false false 0x08 then m.domAbort d 0x08
    else (m.domEntered d x).domPump.coreOffNext

/-- Step 2 of an entry exceeds its limit (R521); D4's held requests (R274) and D0's die link have codes of their own. -/
def Mach.domainEntryTimeout (m : Mach) (d : Nat) : Mach := m.domAbort d (if d = 4 then 0x08 else if d = 0 then 0x06 else 0x0F)

/-- A wake source fires (R518, R524, R525): a pending entry is aborted, and a domain that is not ON comes ON. -/
def Mach.domainWakeSource (m : Mach) (d src : Nat) : Mach :=
  if m.wakeOf d (2 ^ src) = 0 then m
  else match m.domMove d with
    | some _ => m.domAbort d 0x01
    | none => if m.domOn d || m.pwr.turnOn.any (·.1.contains d) then m else (m.ev (pwrStat d) PWR_D_STAT_wake_ev).domTurnOn d none

def execDomainWakeSource (d : Fin 19) (src : Fin 8) (s : State) : Host.Outcome State Fault Refusal :=
  s.upd (·.domainWakeSource d.val src.val)

/-! ### Islands (R514, R515) -/

/-- No word for 16 cycles: IDLE. -/
def Mach.islandIdle (m : Mach) (d i : Nat) : Mach := if m.domOn d && m.isl d i == 0 then m.setIsl d i 1 else m

def execIslandIdleEntry (d : Fin 15) (i : Fin 4) (s : State) : Host.Outcome State Fault Refusal := s.upd (·.islandIdle d.val i.val)

/-- SLEEP is barred on the playout path while a stream is RUNNING. -/
def Mach.sleepBarred (m : Mach) (d : Nat) : Bool :=
  (upTo 128).any (fun n => m.strState n == stRunning) && (d == 3 || d == 4 || d == 5 || d == 6 || d == 14
    || (decide (8 ≤ d ∧ d ≤ 13) && (upTo 8).any (fun i => let p := 8 * (d - 8) + i; m.isDel p && m.pst p == pEnabled)))

/-- IDLE for sleep_idle × 10 µs: SLEEP. -/
def Mach.islandSleep (m : Mach) (d i : Nat) : Mach :=
  if m.domOn d && m.isl d i == 1 && m.fg (PWR_D_CFG d) PWR_D_CFG_sleep_idle != 0 && !m.sleepBarred d then m.setIsl d i 2 else m

def execIslandSleepEntry (d : Fin 15) (i : Fin 4) (s : State) : Host.Outcome State Fault Refusal := s.upd (·.islandSleep d.val i.val)

/-- A word arrives: the island of an ON domain runs again; to any other it is not delivered (R16). -/
def Mach.islandWord (m : Mach) (d i : Nat) : Mach := if m.domOn d then m.setIsl d i 0 else m

def execIslandWordArrive (d : Fin 15) (i : Fin 4) (s : State) : Host.Outcome State Fault Refusal := s.upd (·.islandWord d.val i.val)

/-- VDD_CORE is measured: the assist goes on below 0.76 V and off above 0.77 V (R515, R531). -/
def Mach.vcore (m : Mach) (mv : Nat) : Mach :=
  let m := m.fs PWR_VCORE PWR_VCORE_mv (min mv 65535)
  if mv < 760 then m.fs PWR_VCORE PWR_VCORE_assist 1 else if 770 < mv then m.fs PWR_VCORE PWR_VCORE_assist 0 else m

def execVcoreAssistChange (mv : Nat) (s : State) : Host.Outcome State Fault Refusal := s.upd (·.vcore mv)

end Sys2Proof.Machine
end

