-- ==== Sys2Proof/Machine/Ports.lean ====
section
/-! DEFINITION. The commands and events of the downstream ports (R123-R160). An event that a port's state does not list
leaves it unchanged (R128). -/

namespace Sys2Proof.Machine
open Reg

/-! ### Presence, power and connection -/

/-- One presence sample of D+ and D− (R125): true is a line below 0.4 V at the end of its 100 µs. Three in a row decide; a
port that becomes present is a wake source of its domain (R525). -/
def Mach.presenceSample (m : Mach) (p : Nat) (dp dm : Bool) : Mach :=
  let st := m.pst p
  if st != pOff && st != pHold then m
  else
    let x := m.port p
    let x := if dp || dm then { x with presRun := min 3 (x.presRun + 1), absRun := 0 } else { x with presRun := 0, absRun := min 3 (x.absRun + 1) }
    let m := m.setPort p x
    if st == pOff && x.presRun == 3 then
      let m := ((m.setPst p pHold).fs (PRT_STAT p) PRT_STAT_present 1).ev (PRT_STAT p) PRT_STAT_hold_ev
      (m.portEvent 0x06 p 0 (m.rgBytes (PRT_STAT p))).domainWakeSource (portDom p) 1
    else if st == pHold && x.absRun == 3 then m.setPst p pOff
    else m

def execPresenceSample (p : Fin 48) (dp dm : Bool) (s : State) : Host.Outcome State Fault Refusal := s.upd (·.presenceSample p.val dp dm)

/-- PORT_POWER (R128-R130, R342). -/
def Mach.portPower (m : Mach) (c : Cmd) : Mach :=
  m.serve c (cmdBare c) (decide (c.b 8 < 48) && decide (c.b 9 < 2)) (fun m =>
    match portNo (c.b 8) with
    | none => m
    | some p =>
      if !m.domOn (portDom p.val) then m.reply c stDomainOff
      else
        let m := if m.isHub p.val then m.setPort p.val { m.port p.val with powerReq := c.b 9 == 1 } else m
        let (st, m) := if c.b 9 = 0 then (stOk, m.vbusOff p)
          else if m.role p.val == roleNone then (stBadState, m)
          else m.portOnReq p
        m.reply c st (m.pst p.val))

def execPortPower (c : Cmd) (s : State) : Host.Outcome State Fault Refusal := s.upd (·.portPower c)

/-- A connection on a powered port (R124). -/
def Mach.connectDetect (m : Mach) (p : Nat) : Mach := if m.pst p == pDisc then m.connectPort p else m

def execConnectDetect (p : Fin 48) (s : State) : Host.Outcome State Fault Refusal := s.upd (·.connectDetect p.val)

/-- 100 ms of stable connection on a delegated port; enumeration needs D1 (R124, R138). -/
def Mach.debounceDone (m : Mach) (p : Nat) : Mach :=
  if m.isDel p && m.pst p == pConn && m.domOn 1 then m.enumReset p 0 1 else m

def execConnectDebounceDone (p : Fin 48) (s : State) : Host.Outcome State Fault Refusal := s.upd (·.debounceDone p.val)

/-- The speed code of R165; a port limited to full speed answers no chirp (R123), nor does one of a full-speed hub (R349). -/
def Mach.speedCode (m : Mach) (p : Nat) : UsbSpeed → Nat
  | .low => 1
  | .full => 2
  | .high => if m.fg (PRT_CFG p) PRT_CFG_max_speed == 1 || (m.isHub p && !m.upHigh) then 2 else 3

/-- A port reset ends (R128): with the device attached the port is ENABLED at its speed; a hub-mode port becomes the owner
of address 0 (R351). -/
def Mach.portResetDone (m : Mach) (p : Nat) (speed : UsbSpeed) (attached : Bool) : Mach :=
  if m.pst p != pReset || !attached then m
  else
    let v := m.speedCode p speed
    let m := (m.setPst p pEnabled).fs (PRT_STAT p) PRT_STAT_speed v
    if m.isHub p then m.ownZero p
    else if !m.isDel p then m
    else match (m.port p).enum with
      | some e => if e.sub = 0 ∧ e.step = 1 then m.enumSpeed p e v else m
      | none => m

def execPortResetDone (p : Fin 48) (speed : UsbSpeed) (attached : Bool) (s : State) : Host.Outcome State Fault Refusal :=
  s.upd (·.portResetDone p.val speed attached)

/-- A disconnect (R128, R129, R155): of the port's own device, or of a module behind an external hub. -/
def Mach.disconnect (m : Mach) (p : Fin 48) (sub : Nat) : Mach :=
  if !connState (m.pst p.val) then m
  else if sub ≠ 0 then (if m.isDel p.val then (m.detachOne p.val sub).enumNext p.val else m)
  else if m.isDel p.val then
    let m := (m.detachAll p.val).setPort p.val { (m.detachAll p.val).port p.val with todo := [], late := [] }
    if m.fg (PRT_CFG p.val) PRT_CFG_detach_off == 1 then
      (m.tripSw (.vbus p) cDetach).fs (PRT_STAT p.val) PRT_STAT_vbus_good 0 |>.setPst p.val pOff
    else m.setPst p.val pDisc
  else (m.hubDetach p.val).setPst p.val pDisc

def execDisconnectDetect (p : Fin 48) (sub : Fin 8) (s : State) : Host.Outcome State Fault Refusal := s.upd (·.disconnect p sub.val)

/-! ### Reset, suspend and errors -/

/-- PORT_RESET (R144, R160); on a hub-mode port it acts as the host's request (R128). -/
def Mach.portResetCmd (m : Mach) (c : Cmd) : Mach :=
  m.serve c (cmdBare c) (decide (c.b 8 < 48)) (fun m =>
    let p := c.b 8
    if !m.domOn (portDom p) then m.reply c stDomainOff
    else if !m.canReset p then m.reply c stBadState
    else (if m.isDel p then m.resetPort p else m.resetHubPort p).reply c stOk)

def execPortReset (c : Cmd) (s : State) : Host.Outcome State Fault Refusal := s.upd (·.portResetCmd c)

/-- The resume drive ends (R124, R158). -/
def execResumeDone (p : Fin 48) (sub : Fin 8) (s : State) : Host.Outcome State Fault Refusal := s.upd (·.resumeDone p.val sub.val)

/-- A device drives K on a suspended port (R158, R159): a wake input of its domain, and while that is not ON the resume waits
for it. -/
def Mach.deviceK (m : Mach) (p : Nat) : Mach :=
  let d := portDom p
  let m := if m.pst p == pSusp then m.domainWakeSource d 0 else m
  if m.domOn d then m.remoteK p
  else if m.pst p == pSusp && m.wakeOf d 1 != 0 then m.setPort p { m.port p with kWake := true }
  else m

def execDeviceRemoteWake (p : Fin 48) (s : State) : Host.Outcome State Fault Refusal := s.upd (·.deviceK p.val)

/-- Babble past the end of a frame (R128, R144): every pipe of a delegated port halts. -/
def Mach.babble (m : Mach) (p : Nat) : Mach :=
  if m.pst p != pEnabled then m
  else
    let m := (m.setPst p pError).ev (PRT_STAT p) PRT_STAT_err_ev
    if m.isDel p then (m.haltPipes p).setPort p { (m.haltPipes p).port p with ctl := [], todo := [], late := [] } else m

def execBabble (p : Fin 48) (s : State) : Host.Outcome State Fault Refusal := s.upd (·.babble p.val)

/-- A failed known-answer test holds the port in ERROR (R160). -/
def Mach.portKatFail (m : Mach) (p : Nat) : Mach :=
  let m := if m.pst p == pError then m else (m.setPst p pError).ev (PRT_STAT p) PRT_STAT_err_ev
  let m := m.setPort p { m.port p with katHold := true, todo := [] }
  (m.ev (PRT_STAT p) PRT_STAT_kat_ev).raise fPortKat p

/-- The known-answer test of a port's CRC logic (R160). -/
def Mach.portKat (m : Mach) (p : Nat) (pass : Bool) : Mach :=
  if pass || m.role p == roleNone || m.fg (PRT_CFG p) PRT_CFG_kat_en == 0 || !m.domOn (portDom p) || (m.port p).katHold then m
  else m.portKatFail p

def execPortKatRun (p : Fin 48) (pass : Bool) (s : State) : Host.Outcome State Fault Refusal := s.upd (·.portKat p.val pass)

/-! ### Roles -/

/-- PORT_ROLE (R132-R134, R424): under lock bit 4. -/
def Mach.portRole (m : Mach) (guard : BitVec 7) (c : Cmd) : Mach :=
  m.serve c (cmdBare c) (decide (c.b 8 < 48) && decide (c.b 9 < 3)) (fun m =>
    match portNo (c.b 8) with
    | none => m
    | some p =>
      if !m.domOn (portDom p.val) then m.reply c stDomainOff
      else if guard.getLsbD 4 then m.reply c stLocked
      else match m.roleRefusal p.val (c.b 9) with
        | some st => m.reply c st
        | none => m.roleStart p (c.b 9) (some c))

def execPortRole (c : Cmd) (s : State) : Host.Outcome State Fault Refusal := s.upd (·.portRole s.guard c)

/-- What was on the wire has ended: the role change commits and its command is answered (R134). -/
def Mach.roleDone (m : Mach) (p : Fin 48) : Mach :=
  match (m.port p.val).roleChange with
  | none => m
  | some (new, c) =>
    let m := m.roleCommit p new
    match c with
    | some c => m.reply c stOk
    | none => m

def execRoleChangeComplete (p : Fin 48) (s : State) : Host.Outcome State Fault Refusal := s.upd (·.roleDone p)

/-! ### Enumeration -/

/-- A device's control transfer leaves the list, if one of it is on the cable. -/
def Mach.ctlTake (m : Mach) (p sub : Nat) : Option (Ctl × Mach) :=
  let x := m.port p
  match x.ctl.find? (fun c => c.sub == sub && c.started) with
  | some c => some (c, m.setPort p { x with ctl := x.ctl.erase c })
  | none => none

/-- A control transfer fails: the try of the step it served, a halt that stays, or a request that is given up. A failure on
endpoint 0 halts its context (R143). (DEDUCED, log 52) -/
def Mach.ctlFail (m : Mach) (p : Nat) (c : Ctl) (res : Nat) (halts : Bool) : Mach :=
  let m := match m.ep0Pipe p c.sub with
    | some i => if halts && m.pipeSt i == pipeActive then m.pipeHalt p i else m
    | none => m
  match c.what, (m.port p).enum with
  | .enum n, some e => if e.sub = n then m.enumFail p e res else m
  | _, _ => m

/-- A control transfer ends with its data. -/
def Mach.ctlDone (m : Mach) (p : Nat) (c : Ctl) (d : List Byte) : Mach :=
  match c.what with
  | .enum n => match (m.port p).enum with
    | some e => if e.sub = n then m.enumDone p e d else m
    | none => m
  | .hubDesc => m.hubDescIn p d
  | .hubSet => m
  | .hubStatus n => m.hubPortIn p n d
  | .clearHalt i => m.haltCleared p i

/-- A control transfer of a port engine ends (R136, R138, R143); every transaction error in it counts. -/
def Mach.enumTransfer (m : Mach) (p sub : Nat) (r : EnumResult) (errs : Nat) : Mach :=
  match m.ctlTake p sub with
  | none => m
  | some (c, m) =>
    let m := m.inc (PRT_XERR p) PRT_XERR_count errs
    (match r with
      | .done d => m.ctlDone p c d
      | .stall => m.ctlFail p c enStall true
      | .error => m.ctlFail p c enTimeout true).asyncRun p

def execEnumTransferDone (p : Fin 48) (sub : Fin 8) (r : EnumResult) (errs : Nat) (s : State) : Host.Outcome State Fault Refusal :=
  s.upd (·.enumTransfer p.val sub.val r errs)

/-- A control transfer exceeds 100 ms (R138); behind an external hub, also a reset of step 0x01 whose end is not reported. -/
def Mach.enumTimeout (m : Mach) (p sub errs : Nat) : Mach :=
  match m.ctlTake p sub with
  | some (c, m) => ((m.inc (PRT_XERR p) PRT_XERR_count errs).ctlFail p c enTimeout false).asyncRun p
  | none =>
    match (m.port p).enum with
    | some e => if e.sub = sub ∧ sub ≠ 0 ∧ e.step = 1 then m.enumFail p e enTimeout else m
    | none => m

def execEnumTransferTimeout (p : Fin 48) (sub : Fin 8) (errs : Nat) (s : State) : Host.Outcome State Fault Refusal :=
  s.upd (·.enumTimeout p.val sub.val errs)

/-! ### Slot tables and playout -/

/-- At a full-speed frame boundary the shadow bank is copied to the active bank (R146, R147, R625). -/
def Mach.slotCopy (m : Mach) (p t : Nat) : Mach :=
  let m := m.at_ t
  if t % 1000000 != 0 || m.fg (PRT_SLOT_CTRL p) PRT_SLOT_CTRL_pending == 0 then m
  else
    let same := (upTo 32).filter (fun i => m.rg (slotShadow p i) == m.rg (slotActive p i))
    let m := forEach (upTo 32) (fun i m => m.wr (slotActive p i) (m.rg (slotShadow p i))) m
    let m := (m.fs (PRT_SLOT_CTRL p) PRT_SLOT_CTRL_pending 0).setPort p { m.port p with todo := (m.port p).todo.filter (fun i => same.contains i), late := (m.port p).late.filter (fun i => same.contains i) }
    m.enumCopied p

def execSlotCopy (p : Fin 48) (t : Nat) (s : State) : Host.Outcome State Fault Refusal := s.upd (·.slotCopy p.val t)

/-- A microframe starts (R148); `upset` names pipes whose next item suffered an upset in its buffer. -/
def execMicroframeStart (p : Fin 48) (upset : List (Fin 512)) (t : Nat) (s : State) : Host.Outcome State Fault Refusal :=
  s.upd (·.microframe p.val (upset.map (·.val)) t)

/-- A work item reaches a port engine (R149). -/
def execPlayoutItemArrive (p : Fin 48) (item : List Byte) (parityOk : Bool) (t : Nat) (s : State) : Host.Outcome State Fault Refusal :=
  s.upd (·.itemArrive p.val item parityOk t)

/-- A transaction ends (R142, R143), on a hub-mode port one of its TT (R346). -/
def execTransactionComplete (p : Fin 48) (pipe : Fin 512) (res : TxResult) (t : Nat) (s : State) : Host.Outcome State Fault Refusal :=
  s.upd (fun m => if m.isHub p.val then m.ttDone p.val res else m.txDone p.val pipe.val res t)

/-- An effective deadline passes (R150). -/
def execPlayoutDeadlinePass (p : Fin 48) (t : Nat) (s : State) : Host.Outcome State Fault Refusal := s.upd (·.deadlinePass p.val t)

/-- An address leaves quarantine once its pipes are CLOSED (R156). -/
def Mach.quarantineEnd (m : Mach) (p addr : Nat) : Mach :=
  if (m.portPipes p).any (fun i => m.fg (pcW0 i) pcAddr == addr) then m
  else m.setPort p { m.port p with quar := (m.port p).quar.filter (· != addr) }

def execQuarantineEnd (p : Fin 48) (addr : Fin 128) (s : State) : Host.Outcome State Fault Refusal := s.upd (·.quarantineEnd p.val addr.val)

/-- 100 ms without a class 1 item (R134). -/
def Mach.playingTimeout (m : Mach) (p t : Nat) : Mach :=
  let m := m.at_ t
  if (m.port p).lastItem + 100000000 ≤ m.ctime then m.fs (PRT_STAT p) PRT_STAT_playing 0 else m

def execPlayingTimeout (p : Fin 48) (t : Nat) (s : State) : Host.Outcome State Fault Refusal := s.upd (·.playingTimeout p.val t)

end Sys2Proof.Machine
end

