-- ==== Sys2Proof/Machine/Abort.lean ====
section
/-! DEFINITION. ABORT (R398-R400), the ingress intercept of urgent commands (R401, R402) and what a hub does with a command
that has arrived for it. -/

namespace Sys2Proof.Machine
open Reg

/-- The opcodes of R393. (DEDUCED, log 49) -/
def knownOpcode (op : Nat) : Bool :=
  decide (op ≤ 1 ∨ (0x10 ≤ op ∧ op ≤ 0x14) ∨ (0x20 ≤ op ∧ op ≤ 0x24) ∨ (0x30 ≤ op ∧ op ≤ 0x34) ∨ op = 0x40 ∨ op = 0x41
    ∨ (0x50 ≤ op ∧ op ≤ 0x53) ∨ (0x60 ≤ op ∧ op ≤ 0x62) ∨ (0x70 ≤ op ∧ op ≤ 0x72) ∨ op = 0x80 ∨ op = 0x81 ∨ op = 0x90
    ∨ op = 0xA0 ∨ op = 0xA1 ∨ op = 0xB0 ∨ op = 0xB1 ∨ op = 0xC0 ∨ op = 0xC1)

/-- The command at this hub that an ABORT names (R398): of the same origin node and channel. -/
def abortsIt (a d : Cmd) : Bool := a.sameOrigin d && d.tag.toNat == a.b 8 && d.gen.toNat == a.b 9 / 64 && !a.same d

/-- A running DOMAIN_SET is withdrawn (R400): an entry ends with the domain ON, an exit goes on without the command. -/
def Mach.domainWithdraw (m : Mach) (d : Cmd) : Mach :=
  let dom := (domOfCode (d.b 8)).getD 0
  if m.pwr.coreOff.any (·.same d) then
    let m := forEach (upTo 15) (fun k m => match m.domMove k with | some x => if x.entering then m.domGiveUp k else m | none => m) m
    ({ m with pwr := { m.pwr with coreOff := none } }.countRefuser 0 dsOff d.arrival.val 0x10 true)
  else match m.domMove dom with
    | some x =>
      if x.entering && x.cmd.any (·.same d) then m.domAbort dom 0x10
      else { m with pwr := { m.pwr with turnOn := m.pwr.turnOn.map (fun e => if e.2.any (·.same d) then (e.1, none) else e) } }
    | none => { m with pwr := { m.pwr with turnOn := m.pwr.turnOn.map (fun e => if e.2.any (·.same d) then (e.1, none) else e) } }

/-- A role change that has not reached its commit point is given up. -/
def Mach.roleWithdraw (m : Mach) (d : Cmd) : Mach :=
  forEach (upTo 48) (fun p m => match (m.port p).roleChange with
    | some (_, some c) => if c.same d then m.setPort p { m.port p with roleChange := none } else m
    | _ => m) m

/-- The memory engine gives a command up (R400): accesses that it has made stay, and one that has not been granted is not made. -/
def Mach.engWithdraw (m : Mach) (d : Cmd) : Mach :=
  let m := { m with dmc := { m.dmc with engine := m.dmc.engine.filter (fun e => !e.1.same d) } }
  match m.dmc.engRun with
  | some r => if r.cmd.same d then
      { m with dmc := { m.dmc with engRun := none, front := m.dmc.front.filter (fun q => q.requester != 9) } } else m
  | none => m

/-- The fields of an ABORTED reply: of a MEM_FILL the number of accesses written (R400). -/
def Mach.abortFields (m : Mach) (d : Cmd) : Nat :=
  match m.dmc.engRun with
  | some r => if r.cmd.same d && r.fill then r.result else 0
  | none => 0

/-- What an ABORT undoes of a command that runs before its commit point (R400). -/
def Mach.withdraw (m : Mach) (d : Cmd) : Mach :=
  match d.opcode.toNat with
  | 0x21 => { m with cmd := { m.cmd with killed := m.cmd.killed ++ [d] } }
  | 0x22 => m.engWithdraw d
  | 0x23 => m.engWithdraw d
  | 0x50 => m.roleWithdraw d
  | 0x80 => m.domainWithdraw d
  | 0xA0 => m.fwWithdraw d
  | 0xC0 => m.discAbort
  | _ => m

/-- ABORT at the executing hub (R398, R399). (DEDUCED, log 43) -/
def Mach.abortNow (m : Mach) (c : Cmd) : Mach :=
  match m.cmd.acc.find? (abortsIt c) with
  | some d =>
    let m := m.reply d stAborted
    ({ m with cmd := { m.cmd with gone := m.cmd.gone ++ [d] } } : Mach).reply c stOk
  | none =>
    match m.cmd.run.find? (fun r => abortsIt c r.cmd && !r.committed) with
    | some r => ((m.withdraw r.cmd).reply r.cmd stAborted (m.abortFields r.cmd)).reply c stOk
    | none => m.reply c stNothingToAbort

def Mach.abortCmd (m : Mach) (c : Cmd) : Mach := m.serve c (cmdBare c) true (fun m => m.abortNow c)

def execAbort (c : Cmd) (s : State) : Host.Outcome State Fault Refusal := s.upd (·.abortCmd c)

/-- A receiver acts on an urgent command for its own hub (R402). (DEDUCED, log 44) -/
def Mach.intercept (m : Mach) (c : Cmd) : Mach :=
  if !c.crcOk then m.reply c stBadCrc
  else if !urgentAllowed c then m.reply c stBadOpcode
  else match c.opcode.toNat with
    | 0x33 => m.streamHalt c
    | 0xB1 => m.haltAll c
    | 0x51 => m.portPower c
    | _ => m.abortCmd c

/-- A command has arrived at the hub that is to execute it: an urgent one is acted on at once but on channel 2, an unknown
opcode is refused (R390), and any other waits for its block. (DESIGN CHOICE, log 10; DEDUCED, log 49) -/
def Mach.arrive (m : Mach) (c : Cmd) : Mach :=
  if c.urgent && c.arrival != 2 then m.intercept c
  else if !c.crcOk then m.reply c stBadCrc
  else if !knownOpcode c.opcode.toNat then m.reply c stBadOpcode
  else { m with cmd := { m.cmd with acc := m.cmd.acc ++ [c] } }

/-- The receiver of an origin channel takes a command (R387, R390). -/
def Mach.originTake (m : Mach) (ch : Nat) (c : Cmd) : Mach :=
  match m.originCheck ch c with
  | some st => m.refuseAtOrigin ch c st
  | none =>
    let own := match m.targetOf c with | .all => true | .self => true | _ => false
    let m := m.acceptOut ch c
    if own then m.arrive c else m

end Sys2Proof.Machine
end

