-- ==== Sys2Proof/Machine/Shaft.lean ====
section
/-! DEFINITION. The commands of the shaft unit, the cam channels and chain time's frame grid (R25-R48). -/

namespace Sys2Proof.Machine
open Reg

/-- A firing of a cam channel with a reserved action or GPIO number has no effect that the spec gives (R41, R61): the first
such channel of a list. (DEDUCED, log 17) -/
def Mach.badCam (m : Mach) (l : List Nat) : Option Nat := l.find? (fun n => m.camReserved n)

/-- Run an effect that fires the cams of a list, or stop where one of them is set to a reserved encoding. (DEDUCED, log 17) -/
def State.updCams (s : State) (l : List Nat) (f : Mach → Mach) : Host.Outcome State Fault Refusal :=
  match s.m.badCam l with
  | some n => .fault (.reservedEncoding (SHF_CAM_CFG n))
  | none => s.upd f

/-- A change of A and B (R26, R28). -/
def execEncoderEdge (ch : Fin 2) (a b : Bool) (samples t : Nat) (s : State) : Host.Outcome State Fault Refusal :=
  s.updCams (s.m.edgeCams ch.val a b samples) (·.encoderEdge ch.val a b samples t)

/-- A change of Z (R29). -/
def execIndexPulse (ch : Fin 2) (level : Bool) (samples t : Nat) (s : State) : Host.Outcome State Fault Refusal :=
  s.upd (·.indexPulse ch.val level samples t)

/-- A record of the master arrives over the chain (R39). -/
def execShaftRecordRx (src : Fin 32) (r : ShaftRec) (t : Nat) (s : State) : Host.Outcome State Fault Refusal :=
  s.updCams (s.m.recordCams src.val r) (·.recordRx src.val r t)

/-- No record for twice the last interval (R34). -/
def execRecordOverdue (t : Nat) (s : State) : Host.Outcome State Fault Refusal := s.upd (·.recordOverdue t)

/-- The predicted chain time of a cam angle arrives (R40). -/
def Mach.camFirePredicted (m : Mach) (n t : Nat) : Mach :=
  let m := m.at_ t
  if m.camDue n t then m.fireCam n (m.camNext n).1 else m

def execCamFirePredicted (n : Fin 32) (t : Nat) (s : State) : Host.Outcome State Fault Refusal :=
  s.updCams (if s.m.camDue n.val t then [n.val] else []) (·.camFirePredicted n.val t)

/-- A cam pulse ends and the GPIO that it drives returns to the level before it (R41). -/
def Mach.camPulseEnd (m : Mach) (n : Nat) : Mach :=
  match spGet 0 m.shf.camPulse n with
  | 0 => m
  | k + 1 => { m with shf := { m.shf with camPulse := spDel m.shf.camPulse n } }.driveGpio (k / 2) (k % 2 == 1)

def execCamPulseEnd (n : Fin 32) (s : State) : Host.Outcome State Fault Refusal := s.upd (·.camPulseEnd n.val)

/-- The 1 ms plausibility comparison (R48). -/
def execPlausCheck (t : Nat) (s : State) : Host.Outcome State Fault Refusal := s.upd (·.plausCheck t)

/-- A delegated port launches an SOF (R45): its nominal chain time is the grid's, but for what its frame timer is still out
of phase (R47), and the instant of the next one is fixed. -/
def Mach.sofLaunch (m : Mach) (p t : Nat) : Mach :=
  let m := m.at_ t
  let hs := m.fg (PRT_STAT p) PRT_STAT_speed == 3
  let grid := if hs then 125000 else 1000000
  let x := m.port p
  let nominal := ((t : Int) - x.phase).toNat
  if m.isDel p && m.pst p == pEnabled && nominal % grid == 0 then
    let next := nominal + grid
    let ph := phaseAfter x.phase hs
    (m.setPort p { x with phase := ph, sofAt := some (next, next + ph + sofError p next) }).emit .portBus [p, 5, nominal / 1000000 % 2048]
  else m

def execSofLaunch (p : Fin 48) (t : Nat) (s : State) : Host.Outcome State Fault Refusal := s.upd (·.sofLaunch p.val t)

/-- Re-phasing ends once no delegated port that launches SOFs is out of phase (R47); the frame timers of the others are in
phase with it. (DEDUCED, log 60) -/
def Mach.frameTimerInPhase (m : Mach) : Mach :=
  if (upTo 48).any (fun p => m.isDel p && m.pst p == pEnabled && (m.port p).phase != 0) then m
  else
    let m := forEach (upTo 48) (fun p m => m.setPort p { m.port p with phase := 0 }) m
    { m with shf := { m.shf with phasing := false } }.setTimeLock true

def execFrameTimerInPhase (s : State) : Host.Outcome State Fault Refusal := s.upd (·.frameTimerInPhase)

end Sys2Proof.Machine
end

