-- ==== Sys2Proof/Machine/Chain.lean ====
section
/-! DEFINITION. The events of the chain ports: links and flits (R456-R462), chain packets (R465), chain time (R470-R472),
alerts and notices (R473), discovery (R467) and lost hubs (R474, R475). -/

namespace Sys2Proof.Machine
open Reg

/-! ### Links -/

/-- The credits that a receiver grants per pool (R461). -/
def poolFlits (p : Nat) : Nat := match p with | 0 => 32 | 1 => 32 | 2 => 64 | 3 => 64 | 4 => 16 | 5 => 4 | _ => 0

/-- The link enters ACTIVE (R456). -/
def Mach.linkTrained (m : Mach) (k n p : Nat) : Mach :=
  let a := CHN_P_STAT k
  if !m.domOn 7 || m.fg a CHN_P_STAT_state != 2 then m
  else
    let m := m.setChp k { rx := (m.chp k).rx, credit := (upTo 6).foldl (fun c i => spSet 0 c i (poolFlits i)) [] }
    let m := ((m.fs a CHN_P_STAT_state 3).fs a CHN_P_STAT_nbr_node n).fs a CHN_P_STAT_nbr_port p
    (m.ev CHN_STAT CHN_STAT_up_ev).linkNotice k true

def execLinkTrained (k : Fin 4) (nbrNode : Fin 32) (nbrPort : Fin 4) (s : State) : Host.Outcome State Fault Refusal :=
  s.upd (·.linkTrained k.val nbrNode.val nbrPort.val)

def execLinkLoss (k : Fin 4) (s : State) : Host.Outcome State Fault Refusal := s.upd (·.linkLost k.val)

/-- 1 ms of quiet ends (R457). (DESIGN CHOICE, log 5) -/
def Mach.quietEnd (m : Mach) (k : Nat) : Mach :=
  let x := m.chp k
  if !x.quiet then m
  else if m.domOn 7 && m.chnEnabled k then m.linkTrain k
  else m.setChp k { x with quiet := false }

def execLinkQuietEnd (k : Fin 4) (s : State) : Host.Outcome State Fault Refusal := s.upd (·.quietEnd k.val)

/-! ### Flits -/

/-- The flits that an acknowledgement frees (R458): up to and including the one named, where it is held. -/
def ackHeld (ack : Nat) (l : List TxFlit) : List TxFlit :=
  if l.any (fun f => f.seq == ack) then (l.dropWhile (fun f => f.seq != ack)).drop 1 else l

/-- The code of a CONTROL flit. -/
def flitCode (f : Flit) : Nat := leAt f.body 0 1

/-- A sequenced flit (R458, R460). -/
def flitSequenced (f : Flit) : Bool := f.kind == 1#2 || (f.kind == 2#2 && (flitCode f == 5 || flitCode f == 6))

/-- A flit that the receiver knows: no reserved kind, pool, end or control code (R458, R460). (DEDUCED, log 33) -/
def flitKnown (f : Flit) : Bool :=
  f.kind == 0#2 || (f.kind == 1#2 && decide (f.pool.toNat ≤ 5) && f.fin != 3#2)
    || (f.kind == 2#2 && decide (1 ≤ flitCode f ∧ flitCode f ≤ 6))

/-- A flit with a bad CRC (R459): counted, and the rate reported as it passes the limit. (DEDUCED, log 33) -/
def Mach.badFlit (m : Mach) (k t : Nat) : Mach :=
  let x := m.chp k
  let old := x.badCrc.filter (fun u => decide (t < u + 1000000000))
  let lim := m.fg CHN_CRC_CFG CHN_CRC_CFG_thresh
  let m := (m.setChp k { x with badCrc := old ++ [t] }).inc (CHN_P_CRC k) CHN_P_CRC_count
  if lim < old.length + 1 ∧ ¬ lim < old.length then (m.ev CHN_STAT CHN_STAT_crc_rate_ev).raise fChainCrcRate k else m

/-- A NAK goes out, once for each gap (R459). -/
def Mach.sendNak (m : Mach) (k : Nat) : Mach :=
  let x := m.chp k
  if x.nak then m else ((m.setChp k { x with nak := true }).emit .chainTx [k, 17, x.rxExp]).controlOut k [1#8, BitVec.ofNat 8 x.rxExp]

/-- What the ack and credit fields of an intact flit do at the sender (R458, R461). -/
def Mach.flitFields (m : Mach) (k : Nat) (f : Flit) : Mach :=
  let x := m.chp k
  let held := ackHeld f.ack.toNat x.held
  let p := f.crPool.toNat
  let credit := if p ≤ 5 then spSet 0 x.credit p (min (poolFlits p) (spGet 0 x.credit p + f.crCount.toNat)) else x.credit
  let moved := held.length != x.held.length
  let x := { x with held := held, credit := credit, replaySeq := if moved then none else x.replaySeq, replays := if moved then 0 else x.replays }
  (m.setChp k x).chnPump (x.wait.length) k

/-- A DATA flit in order joins its packet (R458, R464): a packet with a poisoned end is discarded whole. (DEDUCED, log 33) -/
def Mach.flitData (m : Mach) (k : Nat) (f : Flit) : Mach :=
  let x := m.chp k
  let p := f.pool.toNat
  let body := (if f.first then [] else spGet [] x.part p) ++ f.body
  let n := (if f.first then 0 else spGet 0 x.partN p) + 1
  if f.fin = 0#2 then m.setChp k { x with part := spSet [] x.part p body, partN := spSet 0 x.partN p n }
  else
    let x := { x with part := spDel x.part p, partN := spDel x.partN p }
    if f.fin = 1#2 then m.setChp k { x with rx := x.rx ++ [(p, n, body)] } else (m.setChp k x).creditBack k p n

/-- FLIT_RX (R459). What a CONTROL flit says is a command of its own. (DEDUCED, log 33) -/
def Mach.flitRx (m : Mach) (k : Nat) (f : Flit) (t : Nat) : Mach :=
  if !m.linkUp k then m
  else
    let m := m.at_ t
    if !f.crcOk then
      let m := m.badFlit k t
      if flitSequenced f then m.sendNak k else m
    else
      let m := m.flitFields k f
      if !flitKnown f then m.inc (CHN_P_CRC k) CHN_P_CRC_count
      else if !flitSequenced f then m
      else
        let x := m.chp k
        if f.seq.toNat ≠ x.rxExp then m.sendNak k
        else
          let m := m.setChp k { x with rxExp := (x.rxExp + 1) % 256, nak := false }
          if f.kind = 1#2 then m.flitData k f else m

def execFlitRx (k : Fin 4) (f : Flit) (t : Nat) (s : State) : Host.Outcome State Fault Refusal := s.upd (·.flitRx k.val f t)

/-- FLIT_NAK_RX (R459): what comes before the named flit is acknowledged, and the rest is sent again; the same flit failing
four replays in a row loses the link (R457). -/
def Mach.flitNak (m : Mach) (k seq : Nat) : Mach :=
  if !m.linkUp k then m
  else
    let x := m.chp k
    let held := x.held.dropWhile (fun f => f.seq != seq)
    if held.isEmpty then
      if seq = x.txSeq then (m.setChp k { x with held := [], replaySeq := none, replays := 0 }).chnPump x.wait.length k else m
    else if x.replaySeq = some seq ∧ 4 ≤ x.replays then m.linkLost k
    else
      let n := if x.replaySeq = some seq then x.replays + 1 else 1
      let m := (m.setChp k { x with held := held, replaySeq := some seq, replays := n }).inc (CHN_P_REPLAY k) CHN_P_REPLAY_count
      (forEach held (fun f m => m.flitOut k f) m).chnPump x.wait.length k

def execFlitNakRx (k : Fin 4) (seq : BitVec 8) (s : State) : Host.Outcome State Fault Refusal := s.upd (·.flitNak k.val seq.toNat)

/-! ### Chain packets (R465) -/

/-- The packet goes on through a port, unless its hops are used up. -/
def Mach.chainForward (m : Mach) (k pool r : Nat) (h : RouteHdr) (data : List Byte) : Mach :=
  if 30 ≤ h.hops then m.inc (CHN_P_DROP k) CHN_P_DROP_count
  else m.chainOut r pool 21 [h.dst, h.port] { h with hops := h.hops + 1 } data

/-- The bytes are a command packet (R382). -/
def isCommand (data : List Byte) : Bool := headerOk data && data.length == packetLen data && !bitN (leAt data 3 1) 5

/-- A report or event for queue 51. -/
def forReports (h : RouteHdr) : Bool := h.cls == 0 && h.rpt && (h.port == 48 || h.port == 51)

/-- A DRAM request that is passed on to output 53 and will be answered (R249). -/
def Mach.noteAsk (m : Mach) (k : Nat) (h : RouteHdr) (data : List Byte) : Mach :=
  let op := leAt data 0 1
  if op % 16 = 2 ∧ !bitN op 4 then m
  else
    let x := m.chp k
    m.setChp k { x with asks := x.asks ++ [{ tag := leAt data 1 1, ctx := leAt data 12 4, cls := h.cls, node := h.src, port := h.srcPort }] }

/-- The packet is for this hub: a command is taken to its block, a report goes into queue 51, and any other goes as the cells
that its route header describes to the crossbar output that it names (R464). -/
def Mach.chainLocal (m : Mach) (k : Nat) (h : RouteHdr) (data : List Byte) : Mach :=
  if forReports h then m.qPut 51 data
  else
    let m := if h.port = 53 ∧ !h.linkLocal then m.noteAsk k h data else m
    let m := m.form (49 + k) { dst := if h.linkLocal then 55 else h.port, cls := h.cls, dl := if h.noDl then none else some h.deadline,
                               epoch := h.epoch, group := h.group, rpt := h.rpt } data
    if h.cls == 0 && !h.rpt && !h.linkLocal && isCommand data then m.arrive (parseCmd (Fin.ofNat 32 h.src) (Fin.ofNat 7 (3 + k)) data)
    else m

/-- CHAIN_PACKET_RX: the oldest rebuilt packet of a port is passed on, and its credits return (R461). A report waits while
output 48 may not begin it (R213), and a packet for another output while the cells of one before it still wait for room at the
port's input (R208). A packet whose buffer fails parity is discarded (R23). -/
def Mach.chainPacketRx (m : Mach) (k : Nat) (bufOk : Bool) : Mach :=
  let x := m.chp k
  match x.rx with
  | [] => m
  | (pool, n, bs) :: rest =>
    let h := routeHdr bs
    let data := slice bs 16 h.length
    let here := h.linkLocal || h.bcast || h.dst == m.node
    if here && (if forReports h then !m.qMayBegin 51 else !(m.feed (49 + k) h.cls).isEmpty) then m
    else
      let m := m.setChp k { x with rx := rest }
      let m := if m.linkUp k then m.creditBack k pool n else m
      if !bufOk then m.raise fBufParity (49 + k)
      else if !h.linkLocal && m.fg (CHN_ROUTE h.src) CHN_ROUTE_join != h.join then m.inc (CHN_P_DROP k) CHN_P_DROP_count
      else
        let m := if h.linkLocal then m
          else if h.bcast then forEach (m.treeLinks (some k)) (fun r m => m.chainForward k pool r h data) m
          else if h.dst = m.node then m
          else match m.routePort h.dst with
            | some r => m.chainForward k pool r h data
            | none => m.inc (CHN_P_DROP k) CHN_P_DROP_count
        if here then m.chainLocal k h data else m

def execChainPacketRx (k : Fin 4) (bufOk : Bool) (s : State) : Host.Outcome State Fault Refusal := s.upd (·.chainPacketRx k.val bufOk)

/-! ### Chain time (R470-R472) -/

/-- SYNC goes out on a link: the chain time of its departure, and the offset from node 0 (R460). -/
def Mach.syncOut (m : Mach) (k : Nat) : Mach :=
  let off := m.fg CHN_TIME CHN_TIME_offset
  (m.emit .chainTx [k, 1, m.ctime, off]).controlOut k (2#8 :: leBytes 8 m.ctime ++ leBytes 2 off)

/-- DELAY_REQ and DELAY_RESP go out on a link (R460). -/
def Mach.delayOut (m : Mach) (k t1 : Nat) : Mach := (m.emit .chainTx [k, 2, t1]).controlOut k (3#8 :: leBytes 8 t1)
def Mach.respOut (m : Mach) (k t2 t3 : Nat) : Mach := (m.emit .chainTx [k, 3, t2, t3]).controlOut k (4#8 :: leBytes 8 t2 ++ leBytes 8 t3)

/-- SYNC goes to every child. -/
def Mach.syncSend (m : Mach) (t : Nat) : Mach :=
  let m := m.at_ t
  forEach ((upTo 4).filter (fun k => m.fg (CHN_P_STAT k) CHN_P_STAT_tree == 1 && m.fg (CHN_P_STAT k) CHN_P_STAT_child == 1 && m.linkUp k))
    (fun k m => m.syncOut k) m

def execSyncSend (t : Nat) (s : State) : Host.Outcome State Fault Refusal := s.upd (·.syncSend t)

/-- The link to the parent in service. -/
def Mach.parentLink (m : Mach) : Option Nat :=
  let k := m.fg CHN_STAT CHN_STAT_parent_port
  if m.fg CHN_STAT CHN_STAT_has_parent == 1 && m.linkUp k then some k else none

/-- A SYNC from the parent (R470, R472), sent at `ts` and received at own time `t`: the time steps on the first after joining
or after a change of parent by more than 500 ns, and slews by at most 100 ppm otherwise. Delays count in 0.125 ns. (DEDUCED, log 35) -/
def Mach.syncRx (m : Mach) (k ts off t : Nat) : Mach :=
  if m.parentLink ≠ some k ∨ m.node = 0 then m
  else
    let m := m.at_ t
    let d := m.fg (CHN_P_STAT k) CHN_P_STAT_delay
    let diff : Int := (8 * ts + d : Nat) - (8 * t : Nat)
    let step := m.chn.fresh || (m.chn.newParent && decide (4000 < diff.natAbs))
    let gap := match m.chn.lastSync with | some l => t - l | none => 0
    let slew : Int := (gap / 10000 : Nat)
    let move : Int := if step then diff / 8 else max (-slew) (min slew (diff / 8))
    let now := ((m.ctime : Int) + move).toNat % 2 ^ 64
    let m := { m with ctime := now, chn := { m.chn with fresh := false, newParent := false, lastSync := some now } }
    let m := (m.fs CHN_TIME CHN_TIME_offset (twos 16 (sext 16 off - (diff / 8 - move)))).fs CHN_TIME CHN_TIME_age 0
    if !m.domOn 6 then m
    else
      let m := if step then m.rephase move else m
      ({ m with shf := { m.shf with synced := true, phasing := m.shf.phasing || step } } : Mach).setTimeLock true

def execSyncRx (k : Fin 4) (ts : Nat) (offset : BitVec 16) (t : Nat) (s : State) : Host.Outcome State Fault Refusal :=
  s.upd (·.syncRx k.val ts offset.toNat t)

/-- DELAY_REQ to the parent; times of the exchange count in half ns. -/
def Mach.delayReqSend (m : Mach) (t : Nat) (half : Bool) : Mach :=
  let m := m.at_ t
  match m.parentLink with
  | some k =>
    let t1 := 2 * t + b2n half
    (m.setChp k { m.chp k with t1 := some t1 }).delayOut k t1
  | none => m

def execDelayReqSend (t : Nat) (half : Bool) (s : State) : Host.Outcome State Fault Refusal := s.upd (·.delayReqSend t half)

/-- DELAY_REQ from a child is answered at once. -/
def Mach.delayReqRx (m : Mach) (k t2 t3 : Nat) : Mach := if m.linkUp k then m.respOut k t2 t3 else m

def execDelayReqRx (k : Fin 4) (t2 t3 : Nat) (s : State) : Host.Outcome State Fault Refusal := s.upd (·.delayReqRx k.val t2 t3)

/-- DELAY_RESP: the delay is the mean of the last 8 exchanges. (DEDUCED, log 35) -/
def Mach.delayRespRx (m : Mach) (k t2 t3 t4 : Nat) : Mach :=
  let x := m.chp k
  match x.t1 with
  | some t1 =>
    let l := x.delays ++ [2 * (t4 - t1 - (t3 - t2))]
    let l := l.drop (l.length - 8)
    (m.setChp k { x with t1 := none, delays := l }).fs (CHN_P_STAT k) CHN_P_STAT_delay (min 65535 (l.foldl (· + ·) 0 / l.length))
  | none => m

def execDelayRespRx (k : Fin 4) (t2 t3 t4 : Nat) (s : State) : Host.Outcome State Fault Refusal := s.upd (·.delayRespRx k.val t2 t3 t4)

/-- The last SYNC is more than 10 ms old (R472). -/
def Mach.syncAged (m : Mach) (t : Nat) : Mach :=
  let m := m.at_ t
  match m.chn.lastSync with
  | some l =>
    if m.node != 0 && m.joined && decide (l + 10000000 < t) && m.domOn 6 then ({ m with shf := { m.shf with synced := false } } : Mach).setTimeLock false else m
  | none => m

def execSyncAgeExpiry (t : Nat) (s : State) : Host.Outcome State Fault Refusal := s.upd (·.syncAged t)

/-! ### Alerts and notices (R473, R427) -/

/-- ALERT (R473, R568): playout stops, the fault is raised, and the alert goes on down the tree; one of the proof test is acknowledged. -/
def Mach.alertRx (m : Mach) (k node src : Nat) : Mach :=
  if !m.linkUp k then m
  else
    let m := (m.wr FLT_ALERT (BitVec.ofNat 32 (node * 256 + src))).ev FLT_STAT FLT_STAT_alert_ev
    let m := (m.stopPlayout.raise fAlertRx (node * 256 + src)).controlTree (some k) 4 0x05 [node, src]
    if src = fProofTest then
      match m.routePort node with
      | some r => if m.linkUp r then m.emit .chainTx [r, 5, node, m.node] else m.inc (CHN_P_DROP r) CHN_P_DROP_count
      | none => m
    else m

def execAlertRx (k : Fin 4) (node : Fin 32) (source : BitVec 8) (s : State) : Host.Outcome State Fault Refusal :=
  s.upd (·.alertRx k.val node.val source.toNat)

/-- An acknowledgement of proof test 0x05 (R555). -/
def Mach.proofAck (m : Mach) (node : Nat) : Mach :=
  match m.flt.proof with
  | some p =>
    if p.test = 5 ∧ ¬ p.acks.contains node then { m with flt := { m.flt with proof := some { p with acks := p.acks ++ [node] } } } else m
  | none => m

def execProofAlertAckRx (node : Fin 32) (s : State) : Host.Outcome State Fault Refusal := s.upd (·.proofAck node.val)

/-- A channel-reset notice: the locks owned through the origin channel break, and the notice goes on. -/
def Mach.chanResetRx (m : Mach) (k node chan : Nat) : Mach :=
  if !m.linkUp k then m
  else (m.breakOwner node chan (if chan = 2 then 2 else 1)).controlTree (some k) 6 0x06 [node, chan]

def execChanResetRx (k : Fin 4) (node : Fin 32) (chan : Fin 3) (s : State) : Host.Outcome State Fault Refusal :=
  s.upd (·.chanResetRx k.val node.val chan.val)

/-! ### Discovery (R467) -/

/-- PROBE: a second root ends the discovery of node 0 (R468); any other hub passes the first of a run on and reports. (DEDUCED, log 34) -/
def Mach.probeRx (m : Mach) (k root run : Nat) : Mach :=
  if !m.linkUp k then m
  else if m.node = 0 then (if root = Config.serial.toNat then m else (m.discDup 2).discAgain)
  else
    let seen := match m.chn.probed with | some (r, n, _) => r == root && n == run | none => false
    if seen then m
    else
      let m := { m with chn := { m.chn with probed := some (root, run, k) } }
      let m := forEach ((upTo 4).filter (fun p => p != k && m.linkUp p)) (fun p m => m.emit .chainTx [p, 7, run]) m
      m.emit .chainTx ([k, 8] ++ repNums m.ownRep)

def execProbeRx (k : Fin 4) (root : BitVec 64) (run : BitVec 8) (s : State) : Host.Outcome State Fault Refusal :=
  s.upd (·.probeRx k.val root.toNat run.toNat)

/-- A REPORT or an answer reaches node 0; any other hub passes it back the way its PROBE came. (DEDUCED, log 34) -/
def Mach.reportRx (m : Mach) (x : DiscMsg) : Mach :=
  if m.node ≠ 0 then
    match m.chn.probed with
    | some (_, _, p) => if m.linkUp p then m.emit .chainTx (match x with | .report r => [p, 8] ++ repNums r | .answer n => [p, 9, n.val]) else m
    | none => m
  else match m.chn.disc, x with
    | some d, .report r =>
      if d.phase ≠ 3 then m
      else match d.reports.find? (fun e => e.node == r.node) with
        | some e => if e.serial = r.serial then m else (m.discDup 1).discAgain
        | none => (m.discCheck { d with reports := d.reports ++ [r] }).discAgain
    | some d, .answer n =>
      if d.phase ≠ 5 then m
      else
        let d := { d with answered := d.answered ++ [n.val] }
        if (topoNodes d.reports).all (fun n => n == 0 || d.answered.contains n) then (m.discActivate d).discAgain else m.setDisc (some d)
    | none, _ => m

def execReportRx (x : DiscMsg) (s : State) : Host.Outcome State Fault Refusal := s.upd (·.reportRx x)

/-- A topology is held as pending and answered; none withdraws the one held (R400). (DEDUCED, log 34) -/
def Mach.topologyRx (m : Mach) (x : Option TopoMsg) : Mach :=
  let held := { m with chn := { m.chn with pend := x } }
  match x, m.chn.probed with
  | some _, some (_, _, p) => if m.linkUp p then held.emit .chainTx [p, 9, m.node] else held
  | _, _ => held

def execTopologyRx (x : Option TopoMsg) (s : State) : Host.Outcome State Fault Refusal := s.upd (·.topologyRx x)

/-- ACTIVATE goes down the tree and the pending topology is installed. -/
def Mach.activateRx (m : Mach) : Mach :=
  match m.chn.pend with
  | some t => (forEach t.children (fun k m => m.emit .chainTx [k.val, 10]) m).install t
  | none => m

def execActivateRx (s : State) : Host.Outcome State Fault Refusal := s.upd (·.activateRx)

/-- A limit of discovery passes and node 0 goes on without the hubs that stayed silent. (DEDUCED, log 34) -/
def Mach.discTimeout (m : Mach) : Mach :=
  match m.chn.disc with
  | none => m
  | some d =>
    (match d.phase with
    | 1 => m.discProbe d
    | 3 => m.discSend { d with silent := true }
    | _ => m.discActivate { d with silent := true, reports := d.reports.filter (fun r => r.node == 0 || d.answered.contains r.node.val) }).discAgain

def execDiscoveryTimeout (s : State) : Host.Outcome State Fault Refusal := s.upd (·.discTimeout)

def execLinkDownRx (s : State) : Host.Outcome State Fault Refusal := s.upd (·.linkNews)

/-- 20 ms without a topology after the last route to node 0 went (R475): every route to another node is cleared. (DEDUCED, log 34) -/
def Mach.routesLost (m : Mach) : Mach :=
  let reach := match m.routePort 0 with | some r => m.linkUp r | none => false
  if m.node == 0 || !m.joined || reach then m
  else forEach m.otherNodes (fun n m => (m.wr (CHN_ROUTE n) 0).nodeUnreachable n) m

def execRouteTimeout (s : State) : Host.Outcome State Fault Refusal := s.upd (·.routesLost)

end Sys2Proof.Machine
end

