-- ==== Sys2Proof/Machine/Xbar.lean ====
section
/-! DEFINITION. The commands of the crossbar, the queues and the whey tap (R193-R239). A read of QUE_Qn_DATA and a write of
WTP_Tn_CFG stand with the register file. -/

namespace Sys2Proof.Machine
open Reg

/-! ### The crossbar -/

/-- The block at an input presents a cell (R196). -/
def execXbarCellEnqueue (input : Fin 57) (cell : CellIn) (groupOk : Bool) (s : State) : Host.Outcome State Fault Refusal :=
  s.upd (·.presentOn input.val cell groupOk)

/-- A matched cell reaches its output (R195). -/
def execXbarCellDeliver (input output : Fin 57) (cls : Fin 4) (parityOk dstOk bufOk : Bool) (s : State) : Host.Outcome State Fault Refusal :=
  s.upd (·.cellDeliver input.val output.val cls.val parityOk dstOk bufOk)

/-- An output's block grants credits (R197). -/
def execCreditReturn (output : Fin 57) (pool : Fin 5) (n : Nat) (s : State) : Host.Outcome State Fault Refusal :=
  s.upd (·.creditReturn output.val pool.val n)

/-- A packet lock times out (R202). -/
def execPacketLockTimeout (output : Fin 57) (cls : Fin 4) (s : State) : Host.Outcome State Fault Refusal :=
  s.upd (·.lockTimeout output.val cls.val)

/-! ### Queues -/

/-- The promise to the packet that a word belongs to shrinks by the word, and ends with the packet (R213). -/
def owedAfter (last : Bool) : List Nat → List Nat
  | [] => []
  | k :: l => if last then l else (k - 1) :: l

/-- A producer writes a word (R213); into a full queue the write does not complete. -/
def Mach.queueWrite (m : Mach) (n : Nat) (w : QWord) : Mach :=
  if queCap n ≤ (m.q n).words.length then m
  else m.setQ n { m.q n with words := (m.q n).words ++ [w], owed := owedAfter w.last (m.q n).owed }

def execQueueWordWrite (q : Fin 56) (w : Word) (last : Bool) (bytes : Fin 4) (bad : BitVec 4) (s : State) : Host.Outcome State Fault Refusal :=
  s.upd (·.queueWrite q.val ⟨w, last, if bytes.val = 0 then 4 else bytes.val, bad⟩)

/-- A queue has been non-empty for its stale time without a read (R215). -/
def Mach.queueStale (m : Mach) (n : Nat) : Mach :=
  if (m.q n).words.isEmpty || m.fg (QUE_Q_CFG n) QUE_Q_CFG_stale == 0 then m else m.setQ n { m.q n with staleOn := true }

def execQueueStale (q : Fin 56) (s : State) : Host.Outcome State Fault Refusal := s.upd (·.queueStale q.val)

/-- The crossbar port of the block that writes a queue (R212). -/
def queProducer (n : Nat) : Nat :=
  if n < 48 then n else if n = 48 ∨ n = 51 then 48 else if n = 49 ∨ n = 50 then 55 else 56

/-- The packet at the head of a word list, with what follows; none where no whole packet is there. -/
def takePacket (l : List QWord) : Option (List QWord × List QWord) :=
  let body := l.takeWhile (fun w => !w.last)
  match l.drop body.length with
  | [] => none
  | w :: rest => some (body ++ [w], rest)

/-- The bytes of a packet's words. -/
def wordsBytes (l : List QWord) : List Byte := l.flatMap (fun w => (leBytes 4 w.data.toNat).take (if w.last then w.bytes else 4))

/-- A word read failed parity (R219). -/
def Mach.queueBad (m : Mach) (n : Nat) : Mach := (m.ev (QUE_Q_STAT n) QUE_Q_STAT_perr_ev).raise fBufParity (queProducer n)

/-- A whole packet leaves a queue. -/
def Mach.qTake (m : Mach) (n : Nat) (rest : List QWord) : Mach :=
  m.setQ n { m.q n with words := rest, bad := false, part := false, staleOn := false }

/-- The port engine forwards a whole packet (R218): into queue 51 of this hub once output 48 may begin it, or to the chain port
of the route, once the packet before has entered the crossbar; a packet with a parity error goes out with poison, and its
receiver discards it (R219). -/
def Mach.reportForward (m : Mach) (p : Nat) : Mach :=
  let node := m.fg (QUE_Q_CFG p) QUE_Q_CFG_fwd_node
  if m.fg (QUE_Q_CFG p) QUE_Q_CFG_mode != 1 || (m.q p).part then m
  else match takePacket (m.q p).words with
    | none => m
    | some (pk, rest) =>
      let bytes := wordsBytes pk
      let bad := pk.any (fun w => !w.parityOk)
      let gone := if bad then (m.qTake p rest).queueBad p else m.qTake p rest
      if node = m.node then (if bad then gone.poisoned else if m.qMayBegin 51 then gone.qPut 51 bytes else m)
      else match m.routePort node with
        | none => m
        | some k =>
          if !(m.feed p 0).isEmpty then m
          else gone.form p { dst := 49 + k, cls := 0, rpt := true } bytes (if bad then some 0 else none)

def execReportForward (p : Fin 48) (s : State) : Host.Outcome State Fault Refusal := s.upd (·.reportForward p.val)

/-! ### The whey tap -/

/-- Whether a tap watches a packet (R220). -/
def Mach.tapSees (m : Mach) (n : Nat) (pk : TapPkt) : Bool :=
  let a := WTP_T_CFG n
  m.fg a WTP_T_CFG_enable == 1 && pk.src.val != 56 && bitN (m.fg a WTP_T_CFG_class_mask) pk.cls.val
    && m.fg a WTP_T_CFG_port == (if m.fg a WTP_T_CFG_dir = 0 then pk.src.val else pk.dst.val)

/-- A copy is lost (R220). -/
def Mach.tapLost (m : Mach) (n : Nat) : Mach := (m.inc (WTP_T_LOST n) WTP_T_LOST_count).ev (WTP_T_STAT n) WTP_T_STAT_lost_ev

/-- Bytes 0-15 of both records (R222, R223): time, length, ports, flags, byte 13 and the sequence number. (DEDUCED, log 37) -/
def tapHead (pk : TapPkt) (flags b13 seq : Nat) : List Byte :=
  leBytes 8 pk.time.toNat ++ leBytes 2 pk.bytes.length ++ [BitVec.ofNat 8 pk.src.val, BitVec.ofNat 8 pk.dst.val, BitVec.ofNat 8 flags, BitVec.ofNat 8 b13]
    ++ leBytes 2 seq

/-- The flags byte (R222). -/
def tapFlags (pk : TapPkt) (trunc out : Bool) : Nat :=
  pk.cls.val + 4 * b2n pk.poison + 8 * b2n pk.mcast + 16 * b2n trunc + 32 * b2n out

/-- A sample record (R222). -/
def sampleRec (pk : TapPkt) (n seq : Nat) (out : Bool) : List Byte :=
  tapHead pk (tapFlags pk (decide (64 < pk.bytes.length)) out) n seq ++ pk.bytes.take 64

/-- A ring record (R223). -/
def ringRec (pk : TapPkt) (seq : Nat) (out : Bool) : List Byte :=
  tapHead pk (tapFlags pk false out) (if pk.mcast then pk.mgroup.toNat else 0) seq ++ leBytes 3 pk.dl.toNat
    ++ [BitVec.ofNat 8 (b2n pk.noDl + 2 * pk.epoch.val + 4 * pk.group.val + 64 * b2n pk.rpt)]
    ++ (pk.bytes ++ List.replicate 8 0).take 8 ++ leBytes 4 (crc32c pk.bytes).toNat

/-- A RING tap's ring is full with ring_stop set (R223, R233): full follows, and its rise sets full_ev. -/
def Mach.tapFull (m : Mach) (n : Nat) : Mach :=
  let a := WTP_T_CFG n
  let c := (m.fg (WTP_T_RSIZE n) WTP_T_RSIZE_size_m1 + 1) * 2048
  let now := m.fg a WTP_T_CFG_enable == 1 && m.fg a WTP_T_CFG_mode == 2 && m.fg a WTP_T_CFG_ring_stop == 1 && decide (c ≤ (m.rg (WTP_T_WPTR n)).toNat)
  let was := m.fg (WTP_T_STAT n) WTP_T_STAT_full == 1
  let m := m.fs (WTP_T_STAT n) WTP_T_STAT_full (b2n now)
  if now && !was then m.ev (WTP_T_STAT n) WTP_T_STAT_full_ev else m

/-- A copy leaves for the crossbar, or is lost where the tap's buffer has no place for it (R220). -/
def Mach.tapCopy (m : Mach) (n : Nat) (dst : Nat) (bytes : List Byte) (done : Mach → Mach) : Mach :=
  match m.tapPut n (cellsOf { dst := dst, cls := 3 } bytes none) with
  | (true, m) => done m
  | (false, m) => m.tapLost n

/-- A tap sees a packet (R220-R223). (DEDUCED, log 37) -/
def Mach.tapObserve (m : Mach) (n : Nat) (pk : TapPkt) : Mach :=
  if !m.tapSees n pk then m
  else
    let x := m.tapOf n
    let m := m.inc (WTP_T_STAT n) WTP_T_STAT_tap_seq
    let m := m.setTap n { x with seen := x.seen + 1 }
    let seq := m.fg (WTP_T_STAT n) WTP_T_STAT_tap_seq
    let out := m.fg (WTP_T_CFG n) WTP_T_CFG_dir == 1
    match m.fg (WTP_T_CFG n) WTP_T_CFG_mode with
    | 1 =>
      if x.seen % (m.fg (WTP_T_RATE n) WTP_T_RATE_n_m1 + 1) ≠ 0 then m else m.tapCopy n 56 (sampleRec pk n seq out) id
    | 2 =>
      if m.fg (WTP_T_STAT n) WTP_T_STAT_full == 1 then m.tapLost n
      else
        let c := (m.fg (WTP_T_RSIZE n) WTP_T_RSIZE_size_m1 + 1) * 2048
        let a := m.fg (WTP_T_RBASE n) WTP_T_RBASE_firkin * 65536 + (m.rg (WTP_T_WPTR n)).toNat % c * 32
        let r := ringRec pk seq out
        m.tapCopy n 53 (reqHeader 2 false 0 a 32 0 ++ List.replicate 48 0 ++ r) (fun m =>
          ((m.emit .dramReq [7, 2, a, 32, 0, 0, 0] r).inc (WTP_T_WPTR n) WTP_T_WPTR_count).tapFull n)
    | _ => m

def execTapObserve (n : Fin 4) (pk : TapPkt) (s : State) : Host.Outcome State Fault Refusal := s.upd (·.tapObserve n.val pk)

end Sys2Proof.Machine
end

