-- ==== Sys2Proof/Machine/RegOps.lean ====
section
/-! DEFINITION. Register accesses: which register an address names, the checks of R411, reading (R413, R414, R216), and a
write acting on each field by its type (R415-R419). -/

namespace Sys2Proof.Machine
open Reg

/-! ### What an address names -/

/-- The registers and table words whose accesses have rules of their own. -/
inductive RegSite where
  | plain
  | shfCtrl | shfLock | renCtrl | renPick | grpCtrl (g : Nat) | strCfg (n : Nat)
  | prtRole (p : Fin 48) | prtCtrl (p : Nat) | slotCtrl (p : Nat)
  | tapCfg (n : Nat) | tapRing (n : Nat) | queCfg (n : Nat) | queData (n : Nat)
  | dramMode | dramScrub | phyCtrl | phySwap
  | hubCtrl | hubFixed | gpioDir | gpioOut | guardLock | chnCtrl
  | switchCfg (w : Switch) | hoopCtrl (k : Fin 12)
  | fltCtrl | fltAck | fltHandled | fltInj | jnlReset | jnlWdog
  | strEntry (n bank : Nat) | mapDir (k bank : Nat) | mapEntry (i bank : Nat) | profile (k bank : Nat)
  | pipe (n : Nat) | slotShadow (p : Nat) | slotActive | mcast | steer
  deriving DecidableEq, Repr

/-- The words of the table windows (R105, R161, R206, R353); those of the stream entries lie in the stream contexts. (DESIGN CHOICE, log 1; DEDUCED, log 18) -/
def tableSite (a : Nat) : Option RegSite :=
  if 0x200000 ≤ a ∧ a < 0x240000 then some (.mapEntry ((a - 0x200000) % 0x20000 / 4) ((a - 0x200000) / 0x20000))
  else if 0x240000 ≤ a ∧ a < 0x240400 then some (.mapDir ((a - 0x240000) % 0x200 / 8) ((a - 0x240000) / 0x200))
  else if 0x240400 ≤ a ∧ a < 0x240C00 then some (.profile ((a - 0x240400) % 0x400 / 16) ((a - 0x240400) / 0x400))
  else if 0x280000 ≤ a ∧ a < 0x282000 then some (.pipe ((a - 0x280000) / 16))
  else if 0x290000 ≤ a ∧ a < 0x293000 then
    (if (a - 0x290000) % 0x100 < 0x80 then some (.slotShadow ((a - 0x290000) / 0x100)) else some .slotActive)
  else if 0x2A0000 ≤ a ∧ a < 0x2A0800 then some .mcast
  else if 0x2B0000 ≤ a ∧ a < 0x2B0200 then some .steer
  else if 0x90000 ≤ a ∧ a < 0xA0000 ∧ 0x100 ≤ (a - 0x90000) % 0x200 then
    some (.strEntry ((a - 0x90000) / 0x200) ((a - 0x90000) % 0x200 / 0x80 - 2))
  else none

/-- The site of a register of the register table. -/
def rowSite (a : Nat) : RegSite :=
  let prt := (a - 0x40000) / 0x1000
  if a = SHF_CTRL then .shfCtrl
  else if a = SHF_EST ∨ a = SHF_ENC0_CFG ∨ a = SHF_ENC1_CFG then .shfLock
  else if a = REN_CTRL then .renCtrl
  else if a = REN_PICK then .renPick
  else if 0x80100 ≤ a ∧ a < 0x80200 ∧ a % 16 = 0 then .grpCtrl ((a - 0x80100) / 16)
  else if 0x90000 ≤ a ∧ a < 0xA0000 ∧ (a - 0x90000) % 0x200 < 0x10 then .strCfg ((a - 0x90000) / 0x200)
  else if 0x40000 ≤ a ∧ a < 0x70000 then
    (match (a - 0x40000) % 0x1000 with
     | 0x000 => .prtRole (Fin.ofNat 48 prt)
     | 0x008 => .prtCtrl prt
     | 0x018 => .slotCtrl prt
     | _ => .plain)
  else if 0xD1000 ≤ a ∧ a < 0xD1080 then
    (match (a - 0xD1000) % 0x20 with
     | 0x00 => .tapCfg ((a - 0xD1000) / 0x20)
     | 0x08 => .tapRing ((a - 0xD1000) / 0x20)
     | 0x0C => .tapRing ((a - 0xD1000) / 0x20)
     | _ => .plain)
  else if 0xE0000 ≤ a ∧ a < 0xE0700 then
    (match (a - 0xE0000) % 0x20 with
     | 0x00 => .queCfg ((a - 0xE0000) / 0x20)
     | 0x10 => .queData ((a - 0xE0000) / 0x20)
     | _ => .plain)
  else if a = DMC_CFG ∨ a = DMC_TCORE0 ∨ a = DMC_TCORE1 ∨ a = DMC_TREF then .dramMode
  else if a = DMC_SCRUB then .dramScrub
  else if a = DPY_CTRL then .phyCtrl
  else if 0x110080 ≤ a ∧ a < 0x110094 then .phySwap
  else if a = HUB_CTRL then .hubCtrl
  else if a = HUB_CFG ∨ (0x20100 ≤ a ∧ a < 0x201C0) then .hubFixed
  else if a = GLB_GPIO_DIR then .gpioDir
  else if a = GLB_GPIO_OUT then .gpioOut
  else if a = GLB_GUARD then .guardLock
  else if a = CHN_CTRL then .chnCtrl
  else if 0x150100 ≤ a ∧ a < 0x150400 ∧ a % 16 = 0 then .switchCfg (.vbus (Fin.ofNat 48 ((a - 0x150100) / 16)))
  else if 0x150400 ≤ a ∧ a < 0x1504C0 ∧ a % 16 = 0 then .switchCfg (.hoop (Fin.ofNat 12 ((a - 0x150400) / 16)))
  else if 0x150400 ≤ a ∧ a < 0x1504C0 ∧ a % 16 = 4 then .hoopCtrl (Fin.ofNat 12 ((a - 0x150400) / 16))
  else if a = FLT_CTRL then .fltCtrl
  else if a = FLT_ACK then .fltAck
  else if a = FLT_HANDLED then .fltHandled
  else if a = FLT_INJ then .fltInj
  else if a = JNL_RESET then .jnlReset
  else if a = JNL_WDOG then .jnlWdog
  else .plain

/-- What an address names, none where it is reserved (R410). (DESIGN CHOICE, log 1) -/
def siteOf (a : Nat) : Option RegSite :=
  match tableSite a with
  | some x => some x
  | none => match regRow a with
    | some _ => some (rowSite a)
    | none => none

/-- FLT_INJ is reserved but in factory test mode (R557, R575). -/
def Mach.siteAt (m : Mach) (a : Nat) : Option RegSite :=
  if a = FLT_INJ ∧ m.fg FLT_STAT FLT_STAT_factory = 0 then none else siteOf a

/-- The byte-writable registers: hook map directory entries and profile table descriptors (R413). -/
def byteWritable (a : Nat) : Bool := decide (0x240000 ≤ a ∧ a < 0x240C00)

/-- A pair's low word (R414): SHF_CTIME, DMC_ECC_LOG, GLB_SERIAL, FLT_TIME, TLY_UNCOM. -/
def pairLow (a : Nat) : Bool := a == SHF_CTIME_LO || a == DMC_ECC_LOG_LO || a == GLB_SERIAL_LO || a == FLT_TIME_LO || a == TLY_UNCOM_LO

/-! ### The checks of R411 -/

/-- A refusal with DOMAIN_OFF is counted and recorded (R425, R439, R440). -/
def Mach.offAccess (m : Mach) (ch a : Nat) (write : Bool) : Mach :=
  let m := m.sat GLB_OFFACC (if write then GLB_OFFACC_writes else GLB_OFFACC_reads)
  m.wr GLB_OFFLAST (BitVec.ofNat 32 (ch * 2 ^ 28 + b2n write * 2 ^ 27 + a % 2 ^ 24))

/-- The block of an address answers (check 3): its domain is ON, and for PDI_ the die link is up. -/
def Mach.blockOn (m : Mach) (a : Nat) : Bool :=
  match domOf a with
  | some 18 => m.domOn 18 && m.dl.inService
  | some d => m.domOn d
  | none => true

/-- Checks 1 to 3 of an access: the status of a refusal with the state that counts it, none where they pass. -/
def Mach.accessGate (m : Mach) (ch : Nat) (direct : Bool) (a : Nat) (write : Option Nat) : Option (Nat × Mach) :=
  if !m.portOn direct then some (stDomainOff, m.offAccess ch a write.isSome)
  else if a % 4 ≠ 0 then some (stAccessAlign, m.sat GLB_ACCERR GLB_ACCERR_align)
  else if (match write with | some be => be != 15 && (be == 0 || !byteWritable a) | none => false) then
    some (stAccessWidth, m.sat GLB_ACCERR GLB_ACCERR_width)
  else if !m.blockOn a then some (stDomainOff, m.offAccess ch a write.isSome)
  else none

/-! ### Reading -/

/-- Work items that wait on a pipe (R141). -/
def Mach.pipeQueued (m : Mach) (n : Nat) : Nat :=
  ((upTo 48).map (fun p => ((m.port p).items.filter (fun i => i.pipe == n)).length)).foldl (· + ·) 0

/-- Time since the last SYNC in units of 10 µs (R483). -/
def Mach.syncAge (m : Mach) : Nat :=
  match m.chn.lastSync with
  | some l => if m.node = 0 then 0 else min 65535 ((m.ctime - l) / 10000)
  | none => 0

/-- The level at the GPIO balls (R445): an output's own level, and at an input whatever the board drives. (DESIGN CHOICE, log 7) -/
def Mach.gpioIn (m : Mach) : Word × Mach :=
  let (v, m) := m.takeFree
  let d := m.rg GLB_GPIO_DIR
  (((m.rg GLB_GPIO_OUT &&& d) ||| (BitVec.ofNat 32 v &&& ~~~d)) &&& 0xFFFFFF#32, m)

/-- A word as a read shows it, without the effects of the read. -/
def Mach.view (m : Mach) (guard a : Nat) : Word :=
  let w := m.rg a
  if a = GLB_GUARD then BitVec.ofNat 32 guard
  else if a = GLB_SERIAL_LO then Config.serial.setWidth 32
  else if a = GLB_SERIAL_HI then (Config.serial >>> 32).setWidth 32
  else if a = SHF_CTIME_LO then BitVec.ofNat 32 m.ctime
  else if a = SHF_CTIME_HI then BitVec.ofNat 32 (m.ctime / 2 ^ 32)
  else if a = CHN_TIME then setF w CHN_TIME_age m.syncAge
  else if a = PDI_PWR_STAT then setF w PDI_PWR_STAT_vbus_sum m.vbusSum
  else if 0xE0000 ≤ a ∧ a < 0xE0700 ∧ a % 0x20 = 0x0C then
    let q := m.q ((a - 0xE0000) / 0x20)
    BitVec.ofNat 32 (q.words.length * 65536 + q.packets)
  else if 0xD0100 ≤ a ∧ a < 0xD01E4 then
    let i := (a - 0xD0100) / 4
    BitVec.ofNat 32 (m.inputCount i 0 + 256 * m.inputCount i 1 + 65536 * m.inputCount i 2 + 16777216 * m.inputCount i 3)
  else if 0x280000 ≤ a ∧ a < 0x282000 ∧ a % 16 = 8 then BitVec.ofNat 32 (m.pipeQueued ((a - 0x280000) / 16) % 65536)
  else if 0x80100 ≤ a ∧ a < 0x80200 ∧ a % 16 = 4 then setF w REN_GRP_STAT_settled (b2n (m.isSettled ((a - 0x80100) / 16)))
  else w &&& m.shownMask a

/-- A queue is in FORWARD mode; a change of mode takes effect at a packet boundary (R216, R234). -/
def Mach.qForward (m : Mach) (n : Nat) : Bool := m.fg (QUE_Q_CFG n) QUE_Q_CFG_mode == 1 && !(m.q n).part

/-- The next word of a queue is taken (R216, R219). -/
def Mach.queRead (m : Mach) (n : Nat) : Word × Mach :=
  let q := m.q n
  match q.words with
  | [] => (0, m.wr (QUE_Q_DMARK n) 0x80000000#32)
  | w :: rest =>
    let bad := q.bad || !w.parityOk
    let m := m.wr (QUE_Q_DMARK n) (BitVec.ofNat 32 (b2n w.last * 2 ^ 30 + (if w.last then w.bytes % 4 else 0) * 2 ^ 28 + b2n bad * 2 ^ 27))
    let m := m.setQ n { m.q n with words := rest, bad := bad && !w.last, part := !w.last, staleOn := false }
    let m := if w.parityOk then m else m.queueBad n
    (w.data, if 48 ≤ n ∧ n ≤ 50 then m.pumpHeld m.cmd.held.length (n - 48) else m)

/-- The channel-keyed latch of a pair's high word (R414). -/
def pairKey (ch a : Nat) : Nat := ch * 2 ^ 24 + a

/-- A read that has passed checks 1 to 3: status, data and the state after its effects. -/
def Mach.readWord (m : Mach) (guard ch a : Nat) : Nat × Word × Mach :=
  match m.siteAt a with
  | none => (stOk, 0, m)
  | some (.queData n) =>
    if m.qForward n then (stBadState, 0, m)
    else let (w, m) := m.queRead n; (stOk, w, m)
  | some _ =>
    if a = GLB_GPIO_IN then let (w, m) := m.gpioIn; (stOk, w, m)
    else if pairLow a then
      (stOk, m.view guard a, { m with pair := spSet 0 m.pair (pairKey ch (a + 4)) (m.view guard (a + 4)) })
    else if 4 ≤ a ∧ pairLow (a - 4) then (stOk, spGet 0 m.pair (pairKey ch a), m)
    else (stOk, m.view guard a, m)

/-- A register read (R411, R425). -/
def Mach.regRead (m : Mach) (guard ch : Nat) (direct : Bool) (a : Nat) : Nat × Word × Mach :=
  match m.accessGate ch direct a none with
  | some (st, m) => (st, 0, m)
  | none => m.overLink a none (fun m => m.readWord guard ch a)

/-- An access that passes checks 1 to 3 and has to wait for a die link that carries something already (R8, R11). -/
def Mach.pdiWaits (m : Mach) (ch : Nat) (direct : Bool) (a : Nat) (write : Option Nat) : Bool :=
  isPdi a && m.dl.inService && !m.dl.quiet && (m.accessGate ch direct a write).isNone

/-- The REG_REQ packets of accesses join the die link's packets. -/
def Mach.pdiSend (m : Mach) (who : PdiWho) (l : List PdiAct) : Mach :=
  let m := { m with dl := { m.dl with reqs := m.dl.reqs ++ [{ who := who, reqs := l, writes := l.any (·.write.isSome) }] } }
  forEach l (fun x m => m.dlSend .core 0x1 (b2n x.write.isSome) (regReqData x.addr x.write)) m

/-! ### Writing by field type -/

/-- SERVICE mode (R419). -/
def Mach.service (m : Mach) : Bool := m.fg GLB_REGMODE GLB_REGMODE_mode == 1

/-- An event field written 1 clears by the sequence number written (R418), or in SERVICE mode whatever it is (R419). -/
def Mach.seqClears (m : Mach) (a bit s : Nat) : Bool :=
  m.service || (decide ((m.fg a seqFd + 256 - s) % 256 ≤ 127) && decide ((s + 256 - m.evQ a bit) % 256 ≤ 127))

/-- The value of one field after a write of `v` (R415, R416). -/
def Mach.fieldAfter (m : Mach) (a : Nat) (v : Word) (f : RegField) : Nat :=
  let d : Fd := ⟨f.lo, f.n⟩
  let old := m.fg a d
  let new := getF v d
  match f.acc with
  | .rw => new
  | .key => new
  | .cnt => new
  | .ro => old
  | .cmd => old
  | .seq => if new = 1 ∧ m.seqClears a f.lo (v.toNat / 2 ^ 24) then 0 else old
  | .w1c => if m.service ∧ new = 1 then 0 else old

/-- A write acts on every field of a register. -/
def Mach.fieldWrite (m : Mach) (a : Nat) (v : Word) : Mach :=
  match regRow a with
  | none => m
  | some r => m.wr a (BitVec.ofNat 32 (r.fields.foldl (fun w f => w + m.fieldAfter a v f * 2 ^ f.lo) 0))

end Sys2Proof.Machine
end

