-- ==== Sys2Proof/Machine/RegWrite.lean ====
section
/-! DEFINITION. A register write: the guards (R420-R424), the rules of the block that has the register, and what a write
does besides storing its fields (checks 4 to 7 of R411). -/

namespace Sys2Proof.Machine
open Reg

/-- No status of R397: the write acts on a reserved encoding (R5). (DEDUCED, log 16) -/
def stReserved : Nat := 0x100

/-! ### Guards -/

/-- Checks 4 and 5 (R421): `keyed` says for a keyed pair whether its complement matches, none for a plain write. (DEDUCED, log 16) -/
def Mach.guardCheck (m : Mach) (guard a : Nat) (keyed : Option Bool) : Option (Nat × Mach) :=
  match (regRow a).bind (·.guard) with
  | none => match keyed with | some _ => some (stBadState, m) | none => none
  | some g =>
    if bitN guard g then some (stLocked, m.sat GLB_KEYERR GLB_KEYERR_locked)
    else if (match keyed with | some ok => ok | none => m.joined) then none
    else some (stKeyMismatch, m.sat GLB_KEYERR GLB_KEYERR_key)

/-! ### Table windows -/

/-- Store the enabled bytes of a word. -/
def Mach.putEnabled (m : Mach) (a : Nat) (v : Word) (be : Nat) : Mach :=
  forEach (upTo 4) (fun i m => if bitN be i then m.putByte (a + i) (v.toNat / 2 ^ (8 * i) % 256) else m) m

/-- A write by address to a banked table of Rennet (R94): `stride` lies between its banks. -/
def Mach.bankWrite (m : Mach) (tables : List (Nat × Nat)) (a stride bank : Nat) (v : Word) (be : Nat) : Nat × Mach :=
  match m.tableRoute tables (some bank) with
  | none => (stTableBusy, m)
  | some (banks, marks) => (stOk, (forEach banks (fun b m => m.putEnabled (a - bank * stride + b * stride) v be) m).markDirty marks)

/-! ### The rules of the blocks (check 6) -/

/-- The status with which a block refuses a write, none where it accepts it. `own` marks a write of the processor. (DEDUCED, log 17; DEDUCED, log 18) -/
def Mach.blockRule (m : Mach) (own : Bool) (v : Word) : RegSite → Option Nat
  | .strCfg n => if m.strState n == stArmed || m.strState n == stRunning then some stBadState else none
  | .grpCtrl g =>
    let st := REN_GRP_STAT g
    if v.getLsbD 1 && (!m.isSettled g || m.fg st REN_GRP_STAT_pending == 1) then some stBadState else none
  | .prtRole p => if v.toNat % 4 = 3 then some stReserved else m.roleRefusal p.val (v.toNat % 4)
  | .slotShadow p => if m.fg (PRT_SLOT_CTRL p) PRT_SLOT_CTRL_pending == 1 then some stBusy else none
  | .tapRing n => if m.fg (WTP_T_CFG n) WTP_T_CFG_enable == 1 then some stBadState else none
  | .dramMode => if m.initDone then some stBadState else none
  | .phyCtrl => if (v.getLsbD 2 || v.getLsbD 3) && m.fg DPY_STAT DPY_STAT_flash_busy == 1 then some stBusy else none
  | .phySwap => if m.fg DPY_STAT DPY_STAT_trained == 1 then some stBadState else none
  | .hubCtrl => if (m.connectWrite (v.getLsbD 0)).1 = stOk then none else some (m.connectWrite (v.getLsbD 0)).1
  | .hubFixed => if m.fg HUB_CTRL HUB_CTRL_connect == 1 then some stBadState else none
  | .switchCfg w => if m.swLive w then some stBadState else none
  | .fltCtrl => if v.getLsbD 0 && !m.release.1 then some stBadState else none
  | .fltAck => if (m.faultAck v).1 then none else some stBadState
  | .jnlReset => if v.toNat / 256 % 256 = 0xC3 ∧ (v.toNat % 4 = 1 ∨ v.toNat % 4 = 2) then none else some stBadState
  | .pipe n => if m.pipeSt n == 1 then some stBadState else none
  | .mcast => if own || m.service then none else some stBadState
  | _ => none

/-! ### What a write does -/

/-- The level that each GPIO output drives. -/
def Mach.gpioLevel (m : Mach) (g : Nat) : Option Bool := if bitN (m.rg GLB_GPIO_DIR).toNat g then some (m.gpioOut g) else none

/-- The GPIO outputs that a write changed are shown. -/
def Mach.gpioShow (m old : Mach) : Mach :=
  forEach (upTo 24) (fun g m => match m.gpioLevel g with
    | some l => if old.gpioLevel g = some l then m else m.emit .gpio [g, b2n l]
    | none => m) m

/-- The GPIOs that a cam channel whose action is not off names (R41, R444). -/
def Mach.camGpios (m : Mach) : List Nat :=
  ((upTo 32).filter (fun n => m.camAction n != 0)).map (fun n => m.fg (SHF_CAM_CFG n) SHF_CAM_CFG_gpio)

/-- GLB_GPIO_OUT: the bits of GPIOs that cam channels drive keep their level. -/
def Mach.gpioOutWrite (m : Mach) (v : Word) : Mach :=
  let keep := m.camGpios.foldl (fun w g => setBitN w g true) 0
  let k : Word := BitVec.ofNat 32 keep
  (m.wr GLB_GPIO_OUT (((v &&& ~~~k) ||| (m.rg GLB_GPIO_OUT &&& k)) &&& 0xFFFFFF#32)).gpioShow m

/-- The actions of PRT_CTRL. -/
def Mach.prtActions (m : Mach) (p : Nat) (v : Word) : Mach :=
  let m := if v.getLsbD 0 then m.prtReset p else m
  let m := if v.getLsbD 1 then m.prtDisable p else m
  let m := if v.getLsbD 2 then m.prtSuspend p else m
  if v.getLsbD 3 then m.prtResume p else m

/-- REN_GRPn_CTRL.cancel (R99). (DEDUCED, log 38) -/
def Mach.groupCancel (m : Mach) (g : Nat) : Mach :=
  let st := REN_GRP_STAT g
  if m.fg st REN_GRP_STAT_pending == 1 && (m.grp g).changed.isEmpty then
    (m.setGrp g { m.grp g with flip := false }).fs st REN_GRP_STAT_pending 0
  else m.ev st REN_GRP_STAT_cancel_late_ev

/-- The known-answer test is switched off: no test that waits for its engine is to run (R103). -/
def Mach.katOff (m : Mach) : Mach := forEach (upTo 8) (fun e m => m.setEng e { m.eng e with katDue := false }) m

/-- A tap is enabled (R222, R232). (DEDUCED, log 47) -/
def Mach.tapEnabled (m : Mach) (n : Nat) : Mach :=
  (m.setTap n { m.tapOf n with seen := 0 }).wr (WTP_T_WPTR n) 0

/-- The ECS counts that a readout finds: the spec gives the devices' counts no value. (DESIGN CHOICE, log 7; DEDUCED, log 47) -/
def Mach.freeCounts : Nat → Mach → List Word × Mach
  | 0, m => ([], m)
  | k + 1, m =>
    let (v, m) := m.takeFree
    let (l, m) := Mach.freeCounts k m
    (BitVec.ofNat 32 v :: l, m)

/-- The grace timers that FLT_HANDLED cancels (R544). -/
def Mach.fltHandle (m : Mach) (v : Word) : Mach :=
  forEach ((upTo 8).filter (fun g => v.getLsbD g)) (fun g m => m.cancelGrace g) m

/-- FLT_INJ raises a source in factory test mode (R575). -/
def Mach.fltInject (m : Mach) (v : Word) : Mach := m.raise (v.toNat / 65536 % 256) (v.toNat % 65536)

/-- An accepted write takes effect: the status that remains to be found and the state after it. (DEDUCED, log 47; DEDUCED, log 50) -/
def Mach.writeEffect (m : Mach) (a : Nat) (v : Word) (be : Nat) (site : RegSite) : Nat × Mach :=
  let n := m.fieldWrite a v
  match site with
  | .shfCtrl => (stOk, n.shfCtrlDone (m.rg SHF_CTRL))
  | .shfLock => (stOk, n.evalLock n.ctime)
  | .renCtrl =>
    let n := if v.getLsbD 1 then n else n.katOff
    (stOk, if m.fg REN_CTRL REN_CTRL_enable == 1 && !v.getLsbD 0 then (n.haltAllNow 5 false).afterHalt else n)
  | .strCfg s => (stOk, if a % 0x10 = 0 then n.regroup (m.strGroup s) else n)
  | .renPick => (stOk, n.pickReached)
  | .grpCtrl g =>
    let m := if v.getLsbD 0 then m.groupCancel g else m
    (stOk, if v.getLsbD 1 then m.copyDirty g else m)
  | .prtRole p => (stOk, m.roleStart p (v.toNat % 4) none)
  | .prtCtrl p => (stOk, m.prtActions p v)
  | .slotCtrl p => (stOk, if v.getLsbD 0 then m.fs (PRT_SLOT_CTRL p) PRT_SLOT_CTRL_pending 1 else m)
  | .tapCfg t => (stOk, (if v.getLsbD 31 && m.fg (WTP_T_CFG t) WTP_T_CFG_enable == 0 then n.tapEnabled t else n).tapFull t)
  | .queCfg q => (stOk, n.setQ q (n.q q))
  | .dramScrub => (stOk, if v.getLsbD 30 then let (l, n) := n.freeCounts 10; n.ecsRead l else n)
  | .phyCtrl => (stOk, if v.getLsbD 2 then n.startFlash .invalidate else if v.getLsbD 3 then n.startFlash .markClear else n)
  | .hubCtrl => (stOk, (m.connectWrite (v.getLsbD 0)).2)
  | .gpioDir => (stOk, n.gpioShow m)
  | .gpioOut => (stOk, m.gpioOutWrite v)
  | .guardLock => (stOk, m)
  | .chnCtrl => (stOk, n.chnApply)
  | .hoopCtrl k =>
    if v.getLsbD 0 then (stOk, m.swOffReq (.hoop k)) else if v.getLsbD 1 then m.swOnReq (.hoop k) else (stOk, m)
  | .fltCtrl => (stOk, if v.getLsbD 0 then m.release.2 else m)
  | .fltAck => (stOk, (m.faultAck v).2)
  | .fltHandled => (stOk, m.fltHandle v)
  | .fltInj => (stOk, m.fltInject v)
  | .jnlWdog => (stOk, if v.getLsbD 30 then n.boots (fun b => { b with wdogOnce := false }) else n)
  | .strEntry k bank => m.bankWrite [(1, k)] a 0x80 bank v be
  | .mapDir k bank => m.bankWrite [(2, k)] a 0x200 bank v be
  | .mapEntry i bank => m.bankWrite (m.mapsOver i 1) a 0x20000 bank v be
  | .profile k bank => m.bankWrite [(3, k)] a 0x400 bank v be
  | .pipe _ => (stOk, m.wr a (v &&& tableMask a))
  | .slotShadow _ => (stOk, m.wr a (v &&& tableMask a))
  | .mcast => (stOk, m.wr a v)
  | .slotActive => (stOk, m)
  | .steer => (stOk, m)
  | .jnlReset => (stOk, m)
  | _ => (stOk, n)

/-- A write that reaches a CONFIG register marks its block (R431). -/
def Mach.markConfig (m : Mach) (a : Nat) : Mach :=
  match regRow a, tallyIdx a with
  | some r, some i => if r.config then m.setUncom i true else m
  | _, _ => m

/-- Checks 4 to 7 on a write that has passed checks 1 to 3. -/
def Mach.writeWord (m : Mach) (guard : Nat) (own : Bool) (keyed : Option Bool) (a : Nat) (v : Word) (be : Nat) : Nat × Mach :=
  match m.siteAt a with
  | none => if keyed.isSome then (stBadState, m) else (stOk, m)
  | some site =>
    match m.guardCheck guard a keyed with
    | some r => r
    | none =>
      match m.blockRule own v site with
      | some st => (st, m)
      | none =>
        let (st, n) := m.writeEffect a v be site
        (st, if st = stOk then n.markConfig a else n)

/-- A register write (R411): the status and the state after it. -/
def Mach.regWrite (m : Mach) (guard ch : Nat) (direct : Bool) (keyed : Option Bool) (a : Nat) (v : Word) (be : Nat) : Nat × Mach :=
  match m.accessGate ch direct a (some be) with
  | some r => r
  | none =>
    let (st, _, m) := m.overLink a (some v) (fun m => let (st, m) := m.writeWord guard (direct || ch == 2) keyed a v be; (st, 0, m))
    (st, m)

/-- The lock bits after a write (R423). -/
def guardAfter (guard : BitVec 7) (st a : Nat) (v : Word) : BitVec 7 := if st = stOk ∧ a = GLB_GUARD then guard ||| v.setWidth 7 else guard

/-- A write has ended with a status: it is answered, the lock bits follow, and an accepted JNL_RESET resets the chip once
the answer has left; while a chip reset is in progress it is ignored (R579). (DEDUCED, log 50) -/
def State.regEnd (s : State) (a : Nat) (v : Word) (r : Nat × Mach) (answer : Mach → Mach) : Host.Outcome State Fault Refusal :=
  if r.1 = stReserved then .fault (.reservedEncoding a)
  else
    let t : State := { s with m := answer r.2, guard := guardAfter s.guard r.1 a v }
    if r.1 = stOk ∧ a = JNL_RESET ∧ s.m.boot.retaining = false then .next (if v.toNat % 4 = 2 then t.warmRetain true else t.chipReset rsWarm 0 true)
    else .next t

end Sys2Proof.Machine
end

