-- ==== Sys2Proof/Machine/RegActions.lean ====
section
/-! DEFINITION. Register accesses that are rows of their own: writes that request an action, writes and reads by address, the
processor's keyed pair (R422), SERVICE mode's end (R419). -/

namespace Sys2Proof.Machine
open Reg

/-! ### Who may access -/

/-- No register access happens while the core die is held in reset or powered down (R527, R583). (DEDUCED, log 12; DEDUCED, log 48) -/
def Mach.coreDead (m : Mach) : Bool := m.boot.stop || m.pwr.off

/-- In recovery mode commands reach only the GLB_ and JNL_ blocks, from channel 1 (R584). -/
def Mach.accBarred (m : Mach) (a : Acc) (addr : Nat) : Bool :=
  m.inRecovery && !a.direct && !(a.ch == 1 && (decide (addr < 0x10000) || addr / 0x10000 == 0x18))

/-! ### The processor's keyed pair (R422) -/

/-- The held first store is discarded and counted. -/
def Mach.dropKeyed (m : Mach) : Mach :=
  match m.cmd.keyed with
  | none => m
  | some _ => { m with cmd := { m.cmd with keyed := none } }.sat GLB_KEYERR GLB_KEYERR_key

/-- A processor store to a guarded register that needs a key is held without effect: it passes checks 1 to 4. (DEDUCED, log 16) -/
def Mach.holdsStore (m : Mach) (guard ch addr be : Nat) : Bool :=
  (m.accessGate ch true addr (some be)).isNone && !m.joined
    && (match (regRow addr).bind (·.guard) with | some g => !bitN guard g | none => false)

/-- What a store comes to: a write of a register, or a status without one. -/
structure Planned where
  addr : Nat
  value : Word
  be : Nat := 15
  keyed : Option Bool := none
  status : Option Nat := none
  after : Mach

/-- A store of the processor that meets no held store. (DEDUCED, log 16) -/
def Mach.ownStore (m : Mach) (guard ch addr : Nat) (v : Word) (be : Nat) : Planned :=
  if m.holdsStore guard ch addr be then
    { addr := addr, value := v, status := some stPending, after := { m with cmd := { m.cmd with keyed := some (addr, v) } } }
  else { addr := addr, value := v, be := be, after := m }

/-- A store of the processor (R422): it may complete, break or begin a keyed pair. -/
def Mach.directStore (m : Mach) (guard ch addr : Nat) (v : Word) (be : Nat) : Planned :=
  match m.cmd.keyed with
  | none => m.ownStore guard ch addr v be
  | some (ka, kv) =>
    if addr = ka + 4 then
      if be = 15 ∧ v = ~~~kv then
        { addr := ka, value := kv, keyed := some true, after := { m with cmd := { m.cmd with keyed := none } } }
      else { addr := addr, value := v, status := some stKeyMismatch, after := m.dropKeyed }
    else m.dropKeyed.ownStore guard ch addr v be

/-- A write that is a row of its own. -/
def Mach.store (m : Mach) (guard : Nat) (a : Acc) (addr : Nat) (v : Word) (be : Nat) : Planned :=
  if m.accBarred a addr then { addr := addr, value := v, status := some stBadState, after := m }
  else if a.direct then m.directStore guard a.ch.val addr v be
  else { addr := addr, value := v, be := be, after := m }

/-- The write is made and answered; a held store completes with OK. One to PDI_ waits for a die link that carries something
already. `more` is what the row adds to an accepted write of its own register. -/
def State.put (s : State) (a : Acc) (addr : Nat) (v : Word) (be : Nat) (more : Mach → Mach := id) : Host.Outcome State Fault Refusal :=
  if s.m.coreDead then .next s
  else
    let p := s.m.store s.guard.toNat a addr v be
    match p.status with
    | some st => s.regEnd p.addr p.value (st, p.after) (fun m => m.answer a (if st = stPending then stOk else st) 0)
    | none =>
      if p.after.pdiWaits a.ch.val a.direct p.addr (some p.be) then
        .next { s with m := p.after.pdiSend (.own a) [{ addr := p.addr, write := some p.value, keyed := p.keyed }] }
      else
        let r := p.after.regWrite s.guard.toNat a.ch.val a.direct p.keyed p.addr p.value p.be
        let m := if r.1 = stOk ∧ p.addr = addr then more r.2 else r.2
        s.regEnd p.addr p.value (r.1, m) (fun m => m.answer a r.1 0)

/-- A read that is a row of its own. -/
def State.get (s : State) (a : Acc) (addr : Nat) : Host.Outcome State Fault Refusal :=
  if s.m.coreDead then .next s
  else if s.m.accBarred a addr then .next { s with m := s.m.answer a stBadState 0 }
  else if s.m.pdiWaits a.ch.val a.direct addr none then
    .next { s with m := (if a.direct then s.m.dropKeyed else s.m).pdiSend (.own a) [{ addr := addr }] }
  else
    let m := if a.direct then s.m.dropKeyed else s.m
    let (st, v, m) := m.regRead s.guard.toNat a.ch.val a.direct addr
    .next { s with m := m.answer a st v.toNat }

/-! ### The rows -/

def execGroupCancel (a : Acc) (g : Fin 16) (s : State) : Host.Outcome State Fault Refusal := s.put a (REN_GRP_CTRL g.val) 1#32 15

def execGroupRevert (a : Acc) (g : Fin 16) (s : State) : Host.Outcome State Fault Refusal := s.put a (REN_GRP_CTRL g.val) 2#32 15

def execRenCtrlWrite (a : Acc) (v : Word) (s : State) : Host.Outcome State Fault Refusal := s.put a REN_CTRL v 15

def execPrtReset (a : Acc) (p : Fin 48) (s : State) : Host.Outcome State Fault Refusal := s.put a (PRT_CTRL p.val) 1#32 15

def execPrtDisable (a : Acc) (p : Fin 48) (s : State) : Host.Outcome State Fault Refusal := s.put a (PRT_CTRL p.val) 2#32 15

def execPrtSuspend (a : Acc) (p : Fin 48) (s : State) : Host.Outcome State Fault Refusal := s.put a (PRT_CTRL p.val) 4#32 15

def execPrtResume (a : Acc) (p : Fin 48) (s : State) : Host.Outcome State Fault Refusal := s.put a (PRT_CTRL p.val) 8#32 15

def execSlotApply (a : Acc) (p : Fin 48) (s : State) : Host.Outcome State Fault Refusal := s.put a (PRT_SLOT_CTRL p.val) 1#32 15

def execQueDataRead (a : Acc) (q : Fin 56) (s : State) : Host.Outcome State Fault Refusal := s.get a (QUE_Q_DATA q.val)

def execWtpEnable (a : Acc) (n : Fin 4) (v : Word) (s : State) : Host.Outcome State Fault Refusal :=
  s.put a (WTP_T_CFG n.val) (v ||| 0x80000000#32) 15

/-- The patrol scrub's fields keep their values; the counts that the readout finds come with the command. -/
def execDmcEcsNow (a : Acc) (counts : List Word) (s : State) : Host.Outcome State Fault Refusal :=
  s.put a DMC_SCRUB (s.m.rg DMC_SCRUB &&& 0xBFFFFFFF#32) 15 (fun m => m.ecsRead counts)

def execDpyInvalidate (a : Acc) (s : State) : Host.Outcome State Fault Refusal := s.put a DPY_CTRL (s.m.rg DPY_CTRL ||| 4#32) 15

def execDpyMarkClear (a : Acc) (s : State) : Host.Outcome State Fault Refusal := s.put a DPY_CTRL (s.m.rg DPY_CTRL ||| 8#32) 15

def execHubCtrlWrite (a : Acc) (v : Word) (s : State) : Host.Outcome State Fault Refusal := s.put a HUB_CTRL v 15

def execHoopOn (a : Acc) (k : Fin 12) (s : State) : Host.Outcome State Fault Refusal := s.put a (PDI_HOOP_CTRL k.val) 2#32 15

def execHoopOff (a : Acc) (k : Fin 12) (s : State) : Host.Outcome State Fault Refusal := s.put a (PDI_HOOP_CTRL k.val) 1#32 15

def execFltHandled (a : Acc) (v : Word) (s : State) : Host.Outcome State Fault Refusal := s.put a FLT_HANDLED v 15

def execFltAckWrite (a : Acc) (v : Word) (s : State) : Host.Outcome State Fault Refusal := s.put a FLT_ACK v 15

def execFltRelease (a : Acc) (s : State) : Host.Outcome State Fault Refusal := s.put a FLT_CTRL 1#32 15

def execFltInj (a : Acc) (v : Word) (s : State) : Host.Outcome State Fault Refusal := s.put a FLT_INJ v 15

def execChnCtrlWrite (a : Acc) (v : Word) (s : State) : Host.Outcome State Fault Refusal := s.put a CHN_CTRL v 15

def execJnlResetWarm (a : Acc) (confirm : BitVec 8) (s : State) : Host.Outcome State Fault Refusal :=
  s.put a JNL_RESET (BitVec.ofNat 32 (confirm.toNat * 256 + 1)) 15

def execJnlResetWarmRetain (a : Acc) (confirm : BitVec 8) (s : State) : Host.Outcome State Fault Refusal :=
  s.put a JNL_RESET (BitVec.ofNat 32 (confirm.toNat * 256 + 2)) 15

/-- The watchdog's enable and period keep their values. -/
def execWatchdogKick (a : Acc) (s : State) : Host.Outcome State Fault Refusal := s.put a JNL_WDOG (s.m.rg JNL_WDOG ||| 0x40000000#32) 15

def execRegWrite (a : Acc) (addr : BitVec 24) (v : Word) (be : BitVec 4) (s : State) : Host.Outcome State Fault Refusal :=
  s.put a addr.toNat v be.toNat

def execRegPairLoRead (a : Acc) (addr : BitVec 24) (s : State) : Host.Outcome State Fault Refusal := s.get a addr.toNat

/-- 64 register-port cycles pass without the complement (R422). -/
def execKeyedStoreTimeout (s : State) : Host.Outcome State Fault Refusal := s.upd (·.dropKeyed)

/-- SERVICE mode ends (R419). -/
def execRegmodeExpiry (s : State) : Host.Outcome State Fault Refusal :=
  s.upd (fun m => if m.service then m.fs GLB_REGMODE GLB_REGMODE_mode 0 else m)

end Sys2Proof.Machine
end

