-- ==== Sys2Proof/Machine/RegCmds.lean ====
section
/-! DEFINITION. The register commands (R411, R412, R422) and the commands of every hub that only read or answer (R393):
NOP, ECHO, FAULT_READ, MODULE_LIST, TIME_STATUS. -/

namespace Sys2Proof.Machine
open Reg

/-! ### Serving -/

/-- A command passes every check before its own rules. (DEDUCED, log 50) -/
def Mach.serves (m : Mach) (c : Cmd) (lenOk parOk : Bool) : Bool :=
  !m.coreDead && !m.cmd.gone.any (·.same c) && c.crcOk && lenOk && parOk && !(m.inRecovery && !recoveryServes c)

/-- A command whose rules act on more than the machine. -/
def State.serve (s : State) (c : Cmd) (lenOk parOk : Bool) (f : State → Host.Outcome State Fault Refusal) : Host.Outcome State Fault Refusal :=
  if s.m.serves c lenOk parOk then f s else s.upd (fun m => m.serve c lenOk parOk id)

/-! ### The register port -/

/-- Accesses of a command to PDI_ wait for the die link (R8, R11). From then on no ABORT can stop them. (DEDUCED, log 43) -/
def Mach.pdiCmd (m : Mach) (c : Cmd) (l : List PdiAct) : Mach := (m.startRun { cmd := c, committed := true }).pdiSend (.cmd c) l

/-- REG_RD. -/
def Mach.regRd (m : Mach) (guard : Nat) (c : Cmd) : Mach :=
  m.serve c (cmdBare c) true fun m =>
    if m.pdiWaits c.arrival.val false (c.p 8 3) none then m.pdiCmd c [{ addr := c.p 8 3 }]
    else
      let (st, v, m) := m.regRead guard c.arrival.val false (c.p 8 3)
      m.reply c st (f12 v.toNat)

def execRegRd (c : Cmd) (s : State) : Host.Outcome State Fault Refusal := s.upd (·.regRd s.guard.toNat c)

/-- REG_WR and REG_WR_KEYED: a write by a command. -/
def State.regWriteCmd (s : State) (c : Cmd) (keyed : Option Bool) (v : Word) (be : Nat) : Host.Outcome State Fault Refusal :=
  let a := c.p 8 3
  if s.m.pdiWaits c.arrival.val false a (some be) then s.upd (·.pdiCmd c [{ addr := a, write := some v, keyed := keyed }])
  else
    let r := s.m.regWrite s.guard.toNat c.arrival.val false keyed a v be
    s.regEnd a v r (fun m => m.reply c r.1)

def execRegWr (c : Cmd) (s : State) : Host.Outcome State Fault Refusal :=
  s.serve c (cmdBare c) true fun s => s.regWriteCmd c none (BitVec.ofNat 32 (c.p 12 4)) (c.b 11 % 16)

def execRegWrKeyed (c : Cmd) (s : State) : Host.Outcome State Fault Refusal :=
  s.serve c (decide (c.payload.length = 4)) true fun s =>
    let v : Word := BitVec.ofNat 32 (c.p 12 4)
    s.regWriteCmd c (some (decide (leNat c.payload = (~~~v).toNat))) v 15

/-- REG_RMW: one access that reads, and writes the masked bits (R412). A refused write leaves no effect of the read. (DEDUCED, log 14) -/
def State.regRmwCmd (s : State) (c : Cmd) : Host.Outcome State Fault Refusal :=
  let a := c.p 8 3
  let ch := c.arrival.val
  let g := s.guard.toNat
  let (st, old, m) := s.m.regRead g ch false a
  if s.m.pdiWaits ch false a (some 15) then s.upd (·.pdiCmd c [{ addr := a }])
  else if st ≠ stOk then .next { s with m := m.reply c st }
  else
    let k : Word := BitVec.ofNat 32 (c.p 12 4)
    let v := (old &&& ~~~k) ||| (BitVec.ofNat 32 (leNat c.payload) &&& k)
    let w := m.regWrite g ch false none a v 15
    if w.1 = stOk then s.regEnd a v w (fun m => m.reply c stOk (f12 old.toNat))
    else
      let r := s.m.regWrite g ch false none a v 15
      s.regEnd a v r (fun m => m.reply c r.1)

def execRegRmw (c : Cmd) (s : State) : Host.Outcome State Fault Refusal :=
  s.serve c (decide (c.payload.length = 4)) true fun s => s.regRmwCmd c

/-- Whole packets of a queue, each behind its length, as many as fit in `room` bytes (R216). -/
def Mach.queBlock : Nat → Nat → Nat → Mach → List Byte × Mach
  | 0, _, _, m => ([], m)
  | k + 1, n, room, m =>
    match takePacket (m.q n).words with
    | none => ([], m)
    | some (pk, _) =>
      let size := 4 + 4 * pk.length
      if room < size || m.qForward n then ([], m)
      else
        let bs := wordsBytes pk
        let (l, m) := queBlock k n (room - size) (forEach pk (fun _ m => (m.queRead n).2) m)
        (leBytes 4 bs.length ++ bs ++ List.replicate (4 * pk.length - bs.length) 0 ++ l, m)

/-- Consecutive words up to the first that is refused (R412). (DEDUCED, log 15) -/
def Mach.wordBlock : Nat → Nat → Nat → Nat → Mach → Nat × List Byte × Mach
  | 0, _, _, _, m => (stOk, [], m)
  | k + 1, guard, ch, a, m =>
    let (st, v, m) := m.regRead guard ch false (a % 2 ^ 24)
    if st = stOk then
      let (st, l, m) := wordBlock k guard ch (a + 4) m
      (st, leBytes 4 v.toNat ++ l, m)
    else (st, [], m)

/-- REG_RD_BLOCK. -/
def Mach.regRdBlock (m : Mach) (guard : Nat) (c : Cmd) : Mach :=
  let n := c.p 12 2
  m.serve c (cmdBare c && decide (4 ≤ n ∧ n ≤ 1024 ∧ n % 4 = 0)) true fun m =>
    let a := c.p 8 3
    match siteOf a with
    | some (.queData q) =>
      (match m.accessGate c.arrival.val false a none with
      | some (st, m) => m.reply c st
      | none =>
        if m.qForward q then m.reply c stBadState
        else let (l, m) := m.queBlock n q n; m.reply c stOk 0 l)
    | _ =>
      if m.pdiWaits c.arrival.val false a none then
        m.pdiCmd c (((upTo (n / 4)).map (fun i => a + 4 * i)).filter isPdi |>.map (fun x => { addr := x }))
      else let (st, l, m) := m.wordBlock (n / 4) guard c.arrival.val a; m.reply c st 0 l

def execRegRdBlock (c : Cmd) (s : State) : Host.Outcome State Fault Refusal := s.upd (·.regRdBlock s.guard.toNat c)

/-! ### Answers alone -/

def Mach.nop (m : Mach) (c : Cmd) : Mach := m.serveCore c (cmdBare c) true fun m => m.reply c stOk

def execNop (c : Cmd) (s : State) : Host.Outcome State Fault Refusal := s.upd (·.nop c)

def Mach.echo (m : Mach) (c : Cmd) : Mach := m.serveCore c (decide (c.payload.length ≤ 1024)) true fun m => m.reply c stOk 0 c.payload

def execEcho (c : Cmd) (s : State) : Host.Outcome State Fault Refusal := s.upd (·.echo c)

/-- FAULT_READ: FLT_FIRST and FLT_OVF. -/
def Mach.faultRead (m : Mach) (c : Cmd) : Mach :=
  m.serveCore c (cmdBare c) true fun m => m.reply c stOk 0 (leBytes 4 (m.rg FLT_FIRST).toNat ++ leBytes 4 (m.rg FLT_OVF).toNat)

def execFaultRead (c : Cmd) (s : State) : Host.Outcome State Fault Refusal := s.upd (·.faultRead c)

/-- MODULE_LIST: PRT_DEV0 to PRT_DEV7 of each port (R393). (DEDUCED, log 45) -/
def Mach.moduleList (m : Mach) (c : Cmd) : Mach :=
  let first := c.b 8
  let n := c.b 9
  m.serveCore c (cmdBare c && decide (1 ≤ n ∧ n ≤ 32 ∧ (first < 48 → first + n ≤ 48))) (decide (first < 48)) fun m =>
    if ((upTo n).map (first + ·)).all (fun p => m.domOn (8 + p / 8)) then
      m.reply c stOk 0 ((upTo n).flatMap (fun i => (upTo 8).flatMap (fun d => leBytes 4 (m.rg (PRT_DEV (first + i) d)).toNat)))
    else m.reply c stDomainOff

def execModuleList (c : Cmd) (s : State) : Host.Outcome State Fault Refusal := s.upd (·.moduleList c)

/-- TIME_STATUS: chain time, SHF_STAT and the offset from node 0 (R393). (DEDUCED, log 46) -/
def Mach.timeStatus (m : Mach) (c : Cmd) : Mach :=
  m.serveCore c (cmdBare c) true fun m =>
    if m.domOn 6 then
      m.reply c stOk 0 (leBytes 8 m.ctime ++ leBytes 4 (m.rg SHF_STAT).toNat
        ++ leBytes 4 (twos 32 (if m.node = 0 then 0 else sext 16 (m.fg CHN_TIME CHN_TIME_offset))))
    else m.reply c stDomainOff

def execTimeStatus (c : Cmd) (s : State) : Host.Outcome State Fault Refusal := s.upd (·.timeStatus c)

end Sys2Proof.Machine
end

