-- ==== Sys2Proof/Machine/SysCmds.lean ====
section
/-! DEFINITION. Locks, Tally, the fault collector's commands and events, the proof tests and discovery by command
(R426-R434, R537-R557, R467). -/

namespace Sys2Proof.Machine
open Reg

/-! ### Locks -/

/-- LOCK_ACQUIRE (R426, R428). -/
def Mach.lockAcquire (m : Mach) (c : Cmd) : Mach :=
  m.serveCore c (cmdBare c) (decide (c.b 8 < 32)) fun m =>
    if c.b 8 < 4 ∧ c.chan ≠ 2#4 then m.reply c stBadState
    else
      let (st, owner, m) := m.acquire (c.b 8) c
      m.reply c st (f12 owner)

def execLockAcquire (c : Cmd) (s : State) : Host.Outcome State Fault Refusal := s.upd (·.lockAcquire c)

/-- LOCK_RELEASE (R426): by the owner's origin node and channel. -/
def Mach.lockRelease (m : Mach) (c : Cmd) : Mach :=
  m.serveCore c (cmdBare c) (decide (c.b 8 < 32)) fun m =>
    if m.lockHeld (c.b 8) && m.lockOwner (c.b 8) == (c.origin.val, c.chan.toNat) then
      (m.fs (LCK_LOCK (c.b 8)) LCK_LOCK_state 0).reply c stOk
    else m.reply c stBadState

def execLockRelease (c : Cmd) (s : State) : Host.Outcome State Fault Refusal := s.upd (·.lockRelease c)

/-- A hold timer ends (R427). -/
def execLockHoldTimeout (n : Fin 32) (s : State) : Host.Outcome State Fault Refusal :=
  s.upd (fun m => if m.coreDead then m else m.breakLock n.val 3)

/-! ### Tally -/

/-- CFG_COMMIT (R432). -/
def Mach.cfgCommit (m : Mach) (c : Cmd) : Mach :=
  m.serveCore c (cmdBare c) true fun m =>
    match (upTo 64).find? (fun i => tallyBase i == c.p 8 3) with
    | none => m.reply c stBadState
    | some i =>
      if m.blockOn (tallyBase i) then
        let m := m.tallyCommit i
        m.reply c stOk (f12 (m.rg (TLY_REF i)).toNat)
      else m.reply c stDomainOff

def execCfgCommit (c : Cmd) (s : State) : Host.Outcome State Fault Refusal := s.upd (·.cfgCommit c)

def execTallySweep (s : State) : Host.Outcome State Fault Refusal := s.upd (fun m => if m.coreDead then m else m.tallySweep)

def execTallyCommitTimeout (idx : Fin 64) (s : State) : Host.Outcome State Fault Refusal :=
  s.upd (fun m => if m.coreDead then m else m.commitTimeout idx.val)

/-! ### The fault collector -/

/-- FAULT_ACK (R539). -/
def Mach.faultAckCmd (m : Mach) (c : Cmd) : Mach :=
  m.serveCore c (cmdBare c) true fun m =>
    let (ok, m) := m.faultAck (BitVec.ofNat 32 (c.p 12 4))
    m.reply c (if ok then stOk else stBadState)

def execFaultAck (c : Cmd) (s : State) : Host.Outcome State Fault Refusal := s.upd (·.faultAckCmd c)

def execFaultRaise (source : BitVec 8) (detail : BitVec 16) (s : State) : Host.Outcome State Fault Refusal :=
  s.upd (·.raise source.toNat detail.toNat)

/-- A group's grace timer ends: the source that started it escalates (R544). (DESIGN CHOICE, log 5) -/
def Mach.graceExpiry (m : Mach) (g : Nat) : Mach :=
  if bitN (m.fg FLT_PEND FLT_PEND_running) g then (m.cancelGrace g).escalate g (spGet 0 m.flt.graceSrc g) false else m

def execGraceTimerExpiry (g : Fin 8) (s : State) : Host.Outcome State Fault Refusal := s.upd (·.graceExpiry g.val)

/-- The two copies of the collector differ (R549): HEARTBEAT_STOP comes first, and group 0's actions after it, so that no
HEARTBEAT carries HOOPS_OFF and the monitor drops the hoops (R553). (DEDUCED, log 54) -/
def Mach.collectorMismatch (m : Mach) : Mach := if m.flt.on then m.heartbeatStop.raise fFltSelf 0 else m

def execCollectorMismatch (s : State) : Host.Outcome State Fault Refusal := s.upd (·.collectorMismatch)

/-- ALIVE toggles (R550, R554, R557). -/
def Mach.aliveToggle (m : Mach) : Mach :=
  if m.flt.hbOn && m.fg FLT_HB_CFG FLT_HB_CFG_alive_en == 1 && m.fg FLT_STAT FLT_STAT_alive_frozen == 0
      && m.fg FLT_STAT FLT_STAT_hb_stop == 0 && m.fg FLT_STAT FLT_STAT_factory == 0
      && !(match m.flt.proof with | some p => p.test == 4 | none => false) then
    { m with flt := { m.flt with alive := !m.flt.alive } }.emit .alive [b2n (!m.flt.alive)]
  else m

def execAliveToggle (s : State) : Host.Outcome State Fault Refusal := s.upd (·.aliveToggle)

/-- A factory token (R557): ALIVE goes and stays low. (DEDUCED, log 27) -/
def Mach.factoryToken (m : Mach) (token : List Byte) (inTime : Bool) : Mach :=
  if m.flt.strapFactory && m.boot.cause == rsCold && inTime && !m.coreDead && Config.tokenOk Config.serial token then
    let m := m.fs FLT_STAT FLT_STAT_factory 1
    if m.flt.alive then { m with flt := { m.flt with alive := false } }.emit .alive [0] else m
  else m

def execFactoryToken (token : List Byte) (inTime : Bool) (s : State) : Host.Outcome State Fault Refusal := s.upd (·.factoryToken token inTime)

/-! ### Proof tests -/

/-- A named hoop is ON with power-good (R554). -/
def Mach.hoopReady (m : Mach) (k : Nat) : Bool :=
  m.fg (PDI_HOOP_STAT k) PDI_HOOP_STAT_state == swOn && m.fg (PDI_HOOP_STAT k) PDI_HOOP_STAT_pgood == 1

/-- The result word (R555). -/
def proofWord (outcome time hoops : Nat) : Nat := outcome * 2 ^ 24 + time % 4096 * 2 ^ 12 + hoops % 4096

/-- A proof test ends: its result is shown and answered. -/
def Mach.proofDone (m : Mach) (c : Option Cmd) (w : Nat) : Mach :=
  let m := { m with flt := { m.flt with proof := none } }.wr FLT_PROOF_LAST (BitVec.ofNat 32 w)
  match c with
  | some c => m.reply c stOk (f12 w)
  | none => m

/-- What a test does at its start (R554). -/
def Mach.proofStart (m : Mach) (test : Nat) : Mach :=
  if test = 1 then m.raiseWith fProofTest 1 true
  else if test = 5 then m.sendAlert fProofTest
  else m

/-- PROOF_TEST (R554): it commits as it starts. (DEDUCED, log 26) -/
def Mach.proofTest (m : Mach) (c : Cmd) : Mach :=
  m.serveCore c (cmdBare c) (decide (1 ≤ c.b 8 ∧ c.b 8 ≤ 6)) fun m =>
    let test := c.b 8
    if m.flt.proof.isSome then m.reply c stBusy
    else if (upTo 128).any (fun n => m.strState n == stRunning) || m.fg FLT_PEND FLT_PEND_escalated != 0
        || m.fg FLT_STAT FLT_STAT_factory == 1 then m.reply c stBadState
    else
      let named := (upTo 12).filter (bitN (m.fg FLT_PROOF_CFG FLT_PROOF_CFG_hoops))
      let late := named.filter (fun k => !m.hoopReady k)
      if test ≤ 3 ∧ late ≠ [] then m.proofDone (some c) (proofWord 4 0 0)
      else
        let m := m.startRun { cmd := c, committed := true }
        { m with flt := { m.flt with proof := some { test := test, cmd := some c } } }.proofStart test

def execProofTest (c : Cmd) (s : State) : Host.Outcome State Fault Refusal := s.upd (·.proofTest c)

/-- The known-answer tests of test 0x06: on every engine in service, and on every delegated port whose domain is ON and that
no failed test holds; the state after them and whether one failed. -/
def Mach.selfTest (m : Mach) (engines ports : List Nat) : Mach × Bool :=
  let es := if m.domOn domRen then (upTo 8).filter m.inService else []
  let ps := (upTo 48).filter (fun p => m.isDel p && m.domOn (portDom p) && !(m.port p).katHold)
  let m := forEach es (fun e m => m.katResult e (!engines.contains e)) m
  let m := forEach (ps.filter ports.contains) (fun p m => m.portKatFail p) m
  (m, es.any engines.contains || ps.any ports.contains)

/-- Outcomes that the measurements of tests 0x01-0x03 may have (R555). (DEDUCED, log 26) -/
def proofMay (test outcome : Nat) : Bool :=
  decide (outcome ≤ 2) || (test == 2 && outcome == 3) || (test == 3 && outcome == 5)

/-- A running test ends (R555). An end with an outcome that the test cannot have does not happen. (DEDUCED, log 26) -/
def Mach.proofEnd (m : Mach) (outcome time hoops : Nat) (engines ports : List Nat) : Mach :=
  match m.flt.proof with
  | none => m
  | some p =>
    if p.test ≤ 3 then if proofMay p.test outcome then m.proofDone p.cmd (proofWord outcome time hoops) else m
    else if p.test = 4 then m.proofDone p.cmd (proofWord 0 0 0)
    else if p.test = 5 then
      let others := (m.systemNodes.filter (fun e => e.1 != m.node)).length
      m.proofDone p.cmd (proofWord (if p.acks.length < others then 7 else 0) p.acks.length 0)
    else
      let (m, bad) := m.selfTest engines ports
      m.proofDone p.cmd (proofWord (if bad then 6 else 0) 0 0)

def execProofTestEnd (outcome : Fin 8) (time hoops : Nat) (engines : List (Fin 8)) (ports : List (Fin 48)) (s : State) :
    Host.Outcome State Fault Refusal :=
  s.upd (·.proofEnd outcome.val time hoops (engines.map (·.val)) (ports.map (·.val)))

/-! ### Discovery -/

/-- CHAIN_DISCOVER (R467): node 0 alone. -/
def Mach.chainDiscover (m : Mach) (c : Cmd) : Mach :=
  m.serveCore c (cmdBare c) true fun m =>
    if m.node ≠ 0 then m.reply c stBadState
    else if !m.domOn 7 then m.reply c stDomainOff
    else if m.chn.disc.isSome then m.reply c stBusy
    else (m.startRun { cmd := c }).discStart (some c)

def execChainDiscover (c : Cmd) (s : State) : Host.Outcome State Fault Refusal := s.upd (·.chainDiscover c)

end Sys2Proof.Machine
end

