-- ==== Sys2Proof/Machine/MemCmds.lean ====
section
/-! DEFINITION. The memory commands (R252, R393, R395, R396), the stream endpoints (R363) and the replies of the DRAM
controller to both, and the PENDING reply of a long command (R391). -/

namespace Sys2Proof.Machine
open Reg

/-- The crossbar input of its requests (R253). -/
def reqPort (ch : Nat) : Nat := if ch = 0 then 48 else if ch ≤ 2 then 55 else 46 + ch

/-! ### MEM_RD and MEM_WR (R395) -/

/-- The bytes that a MEM_RD or MEM_WR moves. -/
def memTotal (c : Cmd) : Nat := if c.opcode = 0x20#8 then c.p 13 2 else c.payload.length

/-- Bytes of the next request: at most 256, up to a 256-byte boundary. -/
def memPart (r : Run) : Nat := min (memTotal r.cmd - r.next) (256 - (r.cmd.p 8 5 + r.next) % 256)

/-- The next DRAM request of a command goes out. (DEDUCED, log 24) -/
def Mach.memIssue (m : Mach) (r : Run) : Mach :=
  let c := r.cmd
  let wr := c.opcode != 0x20#8
  m.dramAsk (reqPort c.arrival.val) 2 (if wr then 2 else 1) wr c.tag.toNat (c.p 8 5 + r.next) (memPart r) (cmdCtx c) none
    (if wr then slice c.payload r.next (memPart r) else [])

/-- A memory command starts. -/
def Mach.memStart (m : Mach) (c : Cmd) : Mach := (m.startRun { cmd := c }).memIssue { cmd := c }

def Mach.memRd (m : Mach) (c : Cmd) : Mach :=
  m.serve c (cmdBare c && decide (1 ≤ c.p 13 2 ∧ c.p 13 2 ≤ 1024)) true fun m => m.memStart c

def execMemRd (c : Cmd) (s : State) : Host.Outcome State Fault Refusal := s.upd (·.memRd c)

def Mach.memWr (m : Mach) (c : Cmd) : Mach :=
  m.serve c (decide (1 ≤ c.payload.length ∧ c.payload.length ≤ 1024)) true fun m => m.memStart c

def execMemWr (c : Cmd) (s : State) : Host.Outcome State Fault Refusal := s.upd (·.memWr c)

/-- The final reply of a memory command. -/
def Mach.memReply (m : Mach) (r : Run) (status : Nat) : Mach :=
  if r.cmd.opcode = 0x20#8 then m.reply r.cmd status (b2n r.corrected) (if status = stOk then r.data else [])
  else m.reply r.cmd status (b2n r.corrected + f12 r.next)

/-- A DRAM reply reaches a command (R395). (DEDUCED, log 24) -/
def Mach.memReplied (m : Mach) (c : Cmd) (st : DramStatus) (data : List Byte) : Mach :=
  match m.findRun c with
  | none => { m with cmd := { m.cmd with killed := m.cmd.killed.filter (fun d => !d.same c) } }
  | some r =>
    if c.opcode ≠ 0x20#8 ∧ c.opcode ≠ 0x21#8 then m
    else if memStatus st ≠ stOk then m.memReply r (memStatus st)
    else
      let n := memPart r
      let r := { r with next := r.next + n, corrected := r.corrected || st == .corrected, data := r.data ++ data.take n, committed := r.committed || c.opcode == 0x21#8 }
      if r.next < memTotal c then (m.setRun r).memIssue r else m.memReply r stOk

/-! ### The memory engine (R252) -/

/-- A command waits for the memory engine; before init_done it is refused. -/
def Mach.engineWait (m : Mach) (c : Cmd) : Mach :=
  if !m.initDone then m.reply c stMemNotInit
  else
    let m := m.startRun { cmd := c }
    { m with dmc := { m.dmc with engine := m.dmc.engine ++ [(c, m.dmc.grants)] } }

def Mach.memFill (m : Mach) (c : Cmd) : Mach :=
  let n := leAt c.payload 0 8
  m.serveIn 4 c (decide (c.payload.length = 12 ∧ n ≠ 0 ∧ n % 64 = 0)) (decide (c.p 8 5 % 64 = 0)) fun m => m.engineWait c

def execMemFill (c : Cmd) (s : State) : Host.Outcome State Fault Refusal := s.upd (·.memFill c)

def Mach.memCrc (m : Mach) (c : Cmd) : Mach :=
  let n := leAt c.payload 0 8
  m.serveIn 4 c (decide (c.payload.length = 8 ∧ 1 ≤ n ∧ n ≤ 2 ^ 40)) true fun m => m.engineWait c

def execMemCrc (c : Cmd) (s : State) : Host.Outcome State Fault Refusal := s.upd (·.memCrc c)

/-- The engine starts the command that waits first, once every request granted before it arrived has completed (R252). -/
def Mach.engStart (m : Mach) : Mach :=
  match m.dmc.engine with
  | [] => m
  | (c, n) :: rest =>
    if !m.dramUp || m.dmc.engRun.isSome || m.held.any (fun e => decide (e.2.grant ≤ n) || e.2.req.requester == 9) then m
    else { m with dmc := { m.dmc with engine := rest } }.engNext { cmd := c, next := c.p 8 5 / 64 * 64 }

def execMemEngineStart (s : State) : Host.Outcome State Fault Refusal := s.upd (·.engStart)

/-! ### The stream endpoints (R363, R396) -/

/-- The endpoint address of a stream endpoint. -/
def strmEp (e : Nat) : Nat := if e = 0 then 0x03 else 0x83

/-- A binding shows its position in units of 64 bytes and its end (R381). -/
def Mach.strmShow (m : Mach) (e : Nat) : Mach :=
  let x := m.strm e
  m.wr (CMF_STREAM e) (BitVec.ofNat 32 (2 ^ 31 + b2n (x.stall || x.len ≤ x.pos) * 2 ^ 30 + x.pos / 64))

/-- MEM_STREAM_SET (R396): from channel 0 for this hub alone. (DEDUCED, log 23) -/
def Mach.memStreamSet (m : Mach) (c : Cmd) : Mach :=
  m.serveIn 2 c (cmdBare c && (bitN (c.b 8) 7 || decide (c.p 13 3 ≠ 0))) (bitN (c.b 8) 7 || decide (c.b 9 < 32)) fun m =>
    let e := c.b 8 % 2
    if c.chan ≠ 0#4 ∨ c.arrival ≠ 0 ∨ c.target.toNat % 4096 ≠ 0xFFF then m.reply c stBadState
    else if bitN (c.b 8) 7 then (m.unbind e).reply c stOk
    else
      let m := m.setStrm e { next := (m.strm e).next, base := c.p 10 3 * 65536, len := c.p 13 3 * 65536, node := c.b 9 }
      (m.strmShow e).reply c stOk

def execMemStreamSet (c : Cmd) (s : State) : Host.Outcome State Fault Refusal := s.upd (·.memStreamSet c)

/-- A stream endpoint is bound. -/
def Mach.bound (m : Mach) (e : Nat) : Bool := (m.rg (CMF_STREAM e)).getLsbD 31

/-- A stream endpoint enters STALL (R363). -/
def Mach.strmStop (m : Mach) (e : Nat) : Mach :=
  (((m.setStrm e { m.strm e with stall := true }).strmShow e).ev CMF_STAT CMF_STAT_stream_ev).ev CMF_STAT CMF_STAT_halt_ev

/-- The largest packet of a bulk endpoint (R359). -/
def Mach.bulkMax (m : Mach) : Nat := if m.upHigh then 512 else 64

/-- Input 48 has room in a class for a number of bytes in cells (R196, R208). -/
def Mach.inputRoom (m : Mach) (cls bytes : Nat) : Bool := m.roomAt 48 cls ((bytes + 63) / 64)

/-- Stream buffers in use: one for 512 bytes asked for or waiting. (DEDUCED, log 23) -/
def Mach.bufsUsed (m : Mach) : Nat :=
  (m.cmf.out3.reqs.length + 1) / 2 + m.cmf.in83.reqs.length + (m.cmf.in83.ready.length + 511) / 512

/-- A stream endpoint may take another packet. (DEDUCED, log 23) -/
def Mach.strmMay (m : Mach) : Bool :=
  decide (m.bufsUsed < m.fg HUB_CARVE HUB_CARVE_stream_bufs) && m.inputRoom 2 m.bulkMax

/-- A DRAM request of a stream endpoint goes to the window's node in class 2. (DEDUCED, log 23) -/
def Mach.strmReq (m : Mach) (e op off len : Nat) (data : List Byte) : Mach :=
  let x := m.strm e
  let m := m.setStrm e { x with reqs := x.reqs ++ [x.next], next := x.next + 1 }
  if x.node = m.node ∨ !m.joined then m.dramAsk 48 2 op true x.next (x.base + off) len e none data
  else
    let head := reqHeader op true (x.next % 256) (x.base + off) len e
    match m.routePort x.node with
    | some k => m.form 48 { dst := 49 + k, cls := 2 } (if data.isEmpty then head else head ++ List.replicate 48 0 ++ data)
    | none => m

/-- A packet's bytes as DRAM writes split at 256-byte boundaries. -/
def Mach.strmWrite : Nat → Nat → List Byte → Mach → Mach
  | 0, _, _, m => m
  | k + 1, off, bs, m =>
    if bs.isEmpty then m
    else
      let n := min bs.length (256 - off % 256)
      strmWrite k (off + n) (bs.drop n) (m.strmReq 0 2 off n (bs.take n))

/-- A bulk OUT packet on endpoint 0x03, or at high speed a PING (R208, R363). One that reaches past the window is not taken. (DEDUCED, log 23) -/
def Mach.streamOut (m : Mach) (bs : List Byte) (ping : Bool) : Mach :=
  let x := m.cmf.out3
  if m.cmfSt ≠ cConfigured then m
  else if !m.bound 0 || x.stall then m.hostStall 3
  else if ping then (if !m.upHigh then m else if m.strmMay then m.hostAck 3 else m.hostNak 3)
  else if x.len ≤ x.pos ∨ x.len < x.pos + bs.length then (m.strmStop 0).hostStall 3
  else if !m.strmMay then m.hostNak 3
  else
    let m := Mach.strmWrite (bs.length + 1) x.pos bs m
    let m := (m.setStrm 0 { m.cmf.out3 with pos := x.pos + bs.length }).strmShow 0
    let m := (m.flipEp 3).hostAck 3
    if x.pos + bs.length = x.len then m.strmStop 0 else m

def execStreamOutPacket (bytes : List Byte) (ping : Bool) (s : State) : Host.Outcome State Fault Refusal := s.updUp (·.streamOut bytes ping)

/-- The bytes that the next packet on endpoint 0x83 carries. -/
def Mach.strmNext (m : Mach) : Nat := min m.bulkMax (m.cmf.in83.len - m.cmf.in83.pos)

/-- Endpoint 0x83 asks for the next 256-byte part of what its next packet needs. (DEDUCED, log 23) -/
def Mach.strmAsk (m : Mach) : Mach :=
  let x := m.cmf.in83
  let want := m.strmNext
  if !x.reqs.isEmpty || decide (want ≤ x.ready.length) then m
  else
    let off := x.pos + x.ready.length
    m.strmReq 1 1 off (min (want - x.ready.length) (256 - off % 256)) []

/-- A bulk IN on endpoint 0x83 (R363): a window that ends on a packet boundary ends with a packet of no bytes; after the
window's end the endpoint answers NAK. Bytes whose buffer fails parity are discarded unsent (R23) and read again. (DEDUCED, log 23) -/
def Mach.streamIn (m : Mach) (bufOk : Bool) : Mach :=
  let x := m.cmf.in83
  if m.cmfSt ≠ cConfigured then m
  else if !m.bound 1 || x.stall then m.hostStall 0x83
  else if x.ended then m.hostNak 0x83
  else if x.ready.length < m.strmNext then if m.strmMay then m.strmAsk.hostNak 0x83 else m.hostNak 0x83
  else if !bufOk then ((m.raise fBufParity 48).setStrm 1 { x with ready := [] }).hostNak 0x83
  else
    let n := m.strmNext
    let m := m.setStrm 1 { x with pos := x.pos + n, ready := x.ready.drop n, ended := decide (n < m.bulkMax) }
    ((m.strmShow 1).flipEp 0x83).hostData 0x83 (x.ready.take n)

def execStreamInPacket (bufOk : Bool) (s : State) : Host.Outcome State Fault Refusal := s.updUp (·.streamIn bufOk)

/-- A DRAM reply reaches a stream endpoint (R363). -/
def Mach.strmReplied (m : Mach) (e k : Nat) (st : DramStatus) (data : List Byte) : Mach :=
  let x := m.strm e
  if !m.bound e || !x.reqs.contains k then m
  else
    let bad := st = .range ∨ st = .denied ∨ st = .notInit ∨ st = .hung
    let m := m.setStrm e { x with reqs := x.reqs.filter (· != k), ready := if e = 0 ∨ bad then x.ready else x.ready ++ data }
    if bad then (if x.stall then m else m.strmStop e) else if e = 1 then m.strmAsk else m

/-- A DRAM reply arrives (R363, R395). -/
def execCmdDramReply (w : DramTo) (st : DramStatus) (data : List Byte) (s : State) : Host.Outcome State Fault Refusal :=
  s.upd (fun m => match w with
    | .command c => m.memReplied c st data
    | .stream e k => m.strmReplied e.val k st data)

/-! ### PENDING (R391) -/

/-- A long command of R391 whose execution is one step of the model: STREAM_ARM with verify set, and FW_ACTIVATE. -/
def longOne (c : Cmd) : Bool := (c.opcode == 0x31#8 && bitN (c.b 9) 0) || c.opcode == 0xA1#8

/-- 1 ms has passed without the commit point: one PENDING reply. PROOF_TEST commits as it starts and is one of the commands
that R391 lists, so one that still runs is answered too. (DEDUCED, log 25) -/
def Mach.commandPending (m : Mach) (c : Cmd) : Mach :=
  match m.findRun c with
  | none =>
    if longOne c && m.cmd.acc.any (·.same c) then
      ({ m with cmd := { m.cmd with run := m.cmd.run ++ [{ cmd := c, pendingSent := true }] } } : Mach).sendReply c stPending 0 []
    else m
  | some r =>
    if r.pendingSent || (r.committed && c.opcode != 0x72#8) then m
    else (m.setRun { r with pendingSent := true }).sendReply c stPending 0 []

def execCommandPendingTimeout (c : Cmd) (s : State) : Host.Outcome State Fault Refusal := s.upd (·.commandPending c)

end Sys2Proof.Machine
end

