-- ==== Sys2Proof/Machine/CmdFn.lean ====
section
/-! DEFINITION. The command function and the origin's side of commands: endpoint 0x01 and SUBMIT (R360, R404), replies on
their way to the host (R361, R388) and GET_CMF_INFO (R364). -/

namespace Sys2Proof.Machine
open Reg

/-! ### Cutting packets (R360) -/

/-- A channel 0 or 1 packet as a command of this hub. -/
def Mach.ownCmd (m : Mach) (ch : Fin 7) (bs : List Byte) : Cmd := parseCmd (Fin.ofNat 32 m.node) ch bs

/-- A framing error. -/
def Mach.frameErr (m : Mach) : Mach := (m.inc CMF_FRAME_CNT CMF_FRAME_CNT_count).ev CMF_STAT CMF_STAT_frame_ev

/-- A bad header puts endpoint 0x01 in STALL. -/
def Mach.badHeader (m : Mach) : Mach :=
  (m.frameErr.dropPart0.fs CMF_STAT CMF_STAT_out_halted 1).ev CMF_STAT CMF_STAT_halt_ev

/-- Whole packets leave the byte stream of endpoint 0x01 up to the limit of R387; what a transfer leaves unfinished is
answered or counted. -/
def Mach.cutOut : Nat → Mach → Mach
  | 0, m => m
  | k + 1, m =>
    let bs := m.cmd.part0
    if bs.length < 16 then
      if m.cmd.ended then if bs.isEmpty then m.dropPart0 else m.dropPart0.frameErr else m
    else if !headerOk bs then m.badHeader
    else
      let c := m.ownCmd 0 bs
      if packetLen bs ≤ bs.length then
        if m.atLimit 0 false || m.atLimit 0 c.urgent then m
        else
          let pk := bs.take (packetLen bs)
          let m := { m with cmd := { m.cmd with part0 := bs.drop (packetLen bs) } }
          cutOut k (m.originTake 0 (m.ownCmd 0 pk))
      else if m.cmd.ended then m.dropPart0.refuseAtOrigin 0 c stBadLength
      else m

/-- Endpoint 0x01 holds a whole packet that it may not take yet. -/
def Mach.outBlocked (m : Mach) : Bool :=
  let bs := m.cmd.part0
  decide (16 ≤ bs.length) && decide (packetLen bs ≤ bs.length)

/-- Bytes on endpoint 0x01, or at high speed a PING, which is only answered (R360, R361, R208). (PRESUMED, log 22) -/
def Mach.cmdOut (m : Mach) (bs : List Byte) (ping : Bool) (t : Nat) : Mach :=
  let m := m.at_ t
  if m.cmfSt ≠ cConfigured then m
  else if m.fg CMF_STAT CMF_STAT_out_halted = 1 then m.hostStall 1
  else
    let m := m.cutOut (m.cmd.part0.length + 1)
    if m.atLimit 0 false || m.outBlocked || !m.inputRoom 0 m.bulkMax then m.hostNak 1
    else if ping then (if m.upHigh then m.hostAck 1 else m)
    else
      let m := (m.flipEp 1).hostAck 1
      let m := { m with cmd := { m.cmd with part0 := m.cmd.part0 ++ bs, ended := decide (bs.length < m.bulkMax) } }
      m.cutOut (m.cmd.part0.length + 1)

def execCmdOutRx (bytes : List Byte) (ping : Bool) (t : Nat) (s : State) : Host.Outcome State Fault Refusal := s.updUp (·.cmdOut bytes ping t)

/-- SUBMIT (R364, R404): one packet of channel 0; beyond a limit, or where input 48 has no room for one that is not urgent,
it is answered BUSY. (PRESUMED, log 22) -/
def Mach.submit (m : Mach) (bs : List Byte) : Mach :=
  if m.cmfSt ≠ cConfigured ∨ bs.length < 20 ∨ 1044 < bs.length then m.hostStall 0
  else
    let m := m.hostAck 0
    let c := m.ownCmd 0 bs
    if !headerOk bs then m.frameErr
    else if packetLen bs ≠ bs.length then m.refuseAtOrigin 0 c stBadLength
    else if m.atLimit 0 c.urgent || (!c.urgent && !m.inputRoom 0 bs.length) then m.refuseAtOrigin 0 c stBusy
    else m.originTake 0 c

def execSubmit (bytes : List Byte) (s : State) : Host.Outcome State Fault Refusal := s.updUp (·.submit bytes)

/-! ### Replies -/

/-- The last packet of the reply at the head of queue 48 is acknowledged (R361); a packet whose parity fails is discarded
unsent (R219). A reply of a whole number of packets has one more, of no bytes. -/
def Mach.replyIn (m : Mach) : Mach :=
  if m.cmfSt ≠ cConfigured then m
  else match takePacket (m.q 48).words with
    | none => m
    | some (pk, rest) =>
      let m := m.qTake 48 rest
      let bs := wordsBytes pk
      let m := if pk.any (fun w => !w.parityOk) then m.queueBad 48
        else
          let m := m.hostData 0x81 bs
          if bs.length / m.bulkMax % 2 = 0 then m.flipEp 0x81 else m
      m.pumpHeld m.cmd.held.length 0

def execReplyInAck (s : State) : Host.Outcome State Fault Refusal := s.updUp (·.replyIn)

/-- The outstanding command that a reply answers (R388, R476): tag and generation, a node that is awaited, and for another
node its join count. (DEDUCED, log 50) -/
def Mach.repliesTo (m : Mach) (r : ReplyPkt) : Option Outst :=
  m.cmd.out.find? (fun o => o.chan == r.chan.toNat && o.tag == r.tag.toNat && o.gen == r.gen.toNat
    && o.awaits.any (fun e => e.1 == r.node.val && (r.node.val == m.node || e.2 == r.join.val)))

/-- The bytes that a reply packet has. -/
def replyPktBytes (r : ReplyPkt) : List Byte :=
  replyBytes r.opcode.toNat r.tag.toNat r.gen.toNat r.chan.toNat r.node.val r.status.toNat r.fields.toNat r.payload

/-- A reply reaches its hub of origin (R388): it is delivered once its queue has room, and a final one frees the tag; one
that answers nothing is discarded, and counted for channel 0. (DEDUCED, log 50) -/
def Mach.replyAtOrigin (m : Mach) (r : ReplyPkt) : Mach :=
  if r.origin.val ≠ m.node ∨ m.coreDead then m
  else match m.repliesTo r with
    | none =>
      if r.chan = 0#4 then (m.inc CMF_STALE_CNT CMF_STALE_CNT_count).ev CMF_STAT CMF_STAT_stale_ev else m
    | some o =>
      let bs := replyPktBytes r
      if m.cmd.held.any (fun e => e.1 == o.chan) || !m.replyRoom o.chan bs.length then m
      else
        let m := (m.emit .delivered [o.chan, o.tag, o.gen, r.status.toNat]).deliverReply o.chan bs
        if r.status.toNat = stPending then m
        else
          let m := m.answered o r.node.val
          if o.chan = 0 then m.cutOut (m.cmd.part0.length + 1) else m

def execReplyAtOrigin (r : ReplyPkt) (s : State) : Host.Outcome State Fault Refusal := s.upd (·.replyAtOrigin r)

/-! ### GET_CMF_INFO (R364) -/

/-- The firmware version of the slot that runs; 0 in the boot ROM. -/
def Mach.fwVersion (m : Mach) : Nat := match m.boot.slot with | some n => m.fg (JNL_SLOT n) JNL_SLOT_fw_version | none => 0

def Mach.cmfInfo (m : Mach) : Mach :=
  m.hostData 0 (leBytes 4 (m.rg GLB_CHIPID).toNat ++ leBytes 1 m.node ++ leBytes 1 (b2n m.joined + 2 * b2n m.upHigh)
    ++ leBytes 2 m.fwVersion ++ leBytes 1 (m.fg HUB_CARVE HUB_CARVE_stream_bufs) ++ leBytes 1 m.lcount ++ [64#8]
    ++ leBytes 1 (m.fg CMF_UP_RESET_POLICY CMF_UP_RESET_POLICY_policy) ++ leBytes 20 0)

def execGetCmfInfo (s : State) : Host.Outcome State Fault Refusal := s.updUp (fun m => if m.cmfSt = cConfigured then m.cmfInfo else m.hostStall 0)

end Sys2Proof.Machine
end

