-- ==== Sys2Proof/Machine/FlashConfig.lean ====
section
/-! DEFINITION. The configuration in flash (R132, R529, R582, R589): firmware writes it in boot step S10, and a domain's part of it
as the domain comes back from OFF. -/

namespace Sys2Proof.Machine
open Reg

/-- The copy of the configuration in use (R583). -/
def Mach.config (m : Mach) : FlashCfg := if m.boot.cfgAlt then m.boot.cfg2 else m.boot.cfg

/-- Firmware writes a CONFIG register (R582), a guarded one with its key (R420, R421). -/
def Mach.cfgReg (m : Mach) (guard a : Nat) (v : Word) : Mach :=
  match regRow a with
  | some r => if r.config then (m.regWrite guard 2 true (if r.guard.isSome then some true else none) a v 15).2 else m
  | none => m

/-- Firmware writes those registers of the configuration that a test picks. (DESIGN CHOICE, log 65) -/
def Mach.cfgWrites (m : Mach) (guard : Nat) (t : Nat → Bool) : Mach :=
  forEach (m.config.regs.filter (fun e => t e.1)) (fun e m => m.cfgReg guard e.1 e.2) m

/-- A port's power at boot (R582): as PORT_POWER switches it on. -/
def Mach.cfgPower (m : Mach) (p : Nat) : Mach :=
  match portNo p with
  | none => m
  | some p => if !m.domOn (portDom p.val) || m.role p.val == roleNone then m else (m.portOnReq p).2

/-- A domain is back from OFF while D1 runs the firmware (R529): its configuration is written and its Tally blocks are
committed, and D2 is told to connect as S11 does. (DEDUCED, log 65) -/
def Mach.cfgDomain (m : Mach) (guard d : Nat) : Mach :=
  if !m.domOn 1 then m
  else
    let m := m.cfgWrites guard (fun a => domOf a == some d)
    let m := forEach (domBlocks d) (fun i m => m.tallyCommit i) m
    if d = 2 && m.config.connect then (m.connectWrite true).2 else m

/-! ### A domain comes back ON -/

/-- What follows as a domain is back ON (R519, R520). (DEDUCED, log 32) -/
def Mach.domBack (m : Mach) (d : Nat) (off : Bool) : Mach :=
  let m := if off && d != 4 then m.domReset d else m
  match d with
  | 1 => forEach (upTo 48) (fun p m => m.enumNext p) m
  | 3 => forEach (upTo 57) (fun i m => m.refeed i) m
  | 4 =>
    let m := { m with dmc := { m.dmc with stopGrants := false } }
    if !m.initDone && m.fg DPY_STAT DPY_STAT_trained == 1 then { m with dmc := { m.dmc with initing := true } }.saveIfDue else m
  | 6 => (({ m with running := true, ctime := 0 } : Mach).rephase (-(m.ctime : Int))).timeAfresh
  | 7 => m.chnApply
  | _ => if 8 ≤ d ∧ d ≤ 13 then forEach ((upTo 8).map (fun i => 8 * (d - 8) + i)) (fun p m => m.wakeResume p) m else m

/-- A domain cannot come out of OFF (R517): D4's training has failed, or D1's firmware does not authenticate. -/
def Mach.exitFails (m : Mach) (d : Nat) : Bool :=
  (d == 4 && m.fg DPY_STAT DPY_STAT_trained == 0) || (d == 1 && m.authSlot m.boot.active != 0)

/-- D1 out of OFF runs the firmware of the active slot (R517). -/
def Mach.fwLoaded (m : Mach) (d : Nat) : Mach :=
  if d = 1 then (m.boots (fun b => { b with slot := some b.active })).fs JNL_STAT JNL_STAT_slot m.boot.active else m

/-- The domain is ON (R519, R520): after OFF with its registers reset and its configuration written again (R529). -/
def Mach.domArrives (m : Mach) (guard d : Nat) : Mach :=
  let off := m.domState d == dsOff
  let m := ((m.setMove d none).fs (pwrStat d) PWR_D_STAT_state dsOn).setIsls d (if d < 15 then 1 else 0)
  let m := m.domBack d off
  if off then (m.fwLoaded d).cfgDomain guard d else m

/-- A domain's exit ends (R519). D4 first runs its exit sequence, or is trained (R274, R517); `temp` is the junction temperature
that the power die reports (R301). A domain that cannot come out of OFF stays OFF, and the requests that wait for it fail, as
they do where D4 comes out of RETENTION untrained (R512). (DEDUCED, log 32) -/
def Mach.domainExitDone (m : Mach) (guard d : Nat) (temp : Int) : Mach :=
  match m.domMove d with
  | none => m
  | some x =>
    if x.entering then m
    else if d = 4 && !x.begun then m.dramExit x temp
    else if d = 4 && m.dpy.run.isSome then m
    else if m.domState d == dsOff && m.exitFails d then ((m.setMove d none).domFailed d stBadState).coreOffNext
    else
      let m := m.domArrives guard d
      (if d = 4 && m.fg DPY_STAT DPY_STAT_trained == 0 then m.domFailed d stBadState else m.domPump).coreOffNext

def execDomainExitDone (d : Fin 19) (temp : Int) (s : State) : Host.Outcome State Fault Refusal :=
  s.upd (fun m => m.domainExitDone s.guard.toNat d.val temp)

end Sys2Proof.Machine
end

