-- ==== Sys2Proof/Machine/HubFn.lean ====
section
/-! DEFINITION. The commands of the hub function: connecting, the hub class requests, TTs, the repeat path, suspend, resume
and LPM (R332-R358), and the standard requests of both devices (R355, R364, R365). What the host sends arrives only while
the pull-up is connected. -/

namespace Sys2Proof.Machine
open Reg

/-! ### Connection and reset -/

/-- VBUS_DET has been high for 10 ms (R332, R334). -/
def Mach.vbusStable (m : Mach) : Mach :=
  if !m.domOn 2 then m
  else
    let m := m.fs HUB_STAT HUB_STAT_vbus_det 1
    if m.fg HUB_CTRL HUB_CTRL_connect == 1 then m.pullUp else m

def execVbusDetStable (s : State) : Host.Outcome State Fault Refusal := s.upd (·.vbusStable)

/-- VBUS_DET falls (R334): with the pull-up connected this is an upstream reset of kind 3. -/
def Mach.vbusFall (m : Mach) (cut : CtrlCut) : Mach :=
  if !m.domOn 2 || m.fg HUB_STAT HUB_STAT_vbus_det == 0 then m
  else
    let m := (m.fs HUB_STAT HUB_STAT_vbus_det 0).ev HUB_STAT HUB_STAT_vbus_ev
    if m.fg HUB_STAT HUB_STAT_pullup == 1 then (m.upReset 3 cut).pullDown else m

def execVbusDetFall (cut : CtrlCut) (s : State) : Host.Outcome State Fault Refusal := s.upd (·.vbusFall cut)

/-- A bus reset on the upstream port, with the speed it finds (R367). -/
def Mach.busReset (m : Mach) (high : Bool) (cut : CtrlCut) : Mach :=
  ((m.fs HUB_STAT HUB_STAT_speed (if high then 3 else 2)).ev HUB_STAT HUB_STAT_reset_ev).upReset 1 cut

def execUpBusReset (highSpeed : Bool) (cut : CtrlCut) (s : State) : Host.Outcome State Fault Refusal := s.updUp (·.busReset highSpeed cut)

/-! ### Hub class requests (R338-R344) -/

/-- GetHubStatus. -/
def Mach.getHubStatus (m : Mach) : Mach :=
  m.hostData 0 (leBytes 2 (2 * b2n (m.hub.oc && m.fg HUB_CFG HUB_CFG_oc_mode == 0)) ++ leBytes 2 (2 * b2n m.hub.cOc))

def execGetHubStatus (s : State) : Host.Outcome State Fault Refusal := s.updUp (·.getHubStatus)

/-- ClearHubFeature: C_HUB_OVER_CURRENT, or C_HUB_LOCAL_POWER, which is never set (R344). -/
def Mach.clearHubFeature (m : Mach) (overCurrent : Bool) : Mach :=
  (if overCurrent then { m with hub := { m.hub with cOc := false } } else m).hostAck 0

def execClearHubFeature (overCurrent : Bool) (s : State) : Host.Outcome State Fault Refusal := s.updUp (·.clearHubFeature overCurrent)

/-- wPortStatus of a hub-mode port (R338). -/
def Mach.portBits (m : Mach) (p : Nat) : Nat :=
  let s := m.pst p
  let on := s == pEnabled || s == pSusp || s == pResuming
  let sp := m.fg (PRT_STAT p) PRT_STAT_speed
  b2n (connState s) + 2 * b2n on + 4 * b2n (s == pSusp || s == pResuming) + 8 * b2n (m.port p).overCurrent + 16 * b2n (s == pReset)
    + 256 * b2n (decide (pPowering ≤ s)) + 512 * b2n (sp == 1) + 1024 * b2n (sp == 3) + 2048 * b2n ((m.port p).testMode != 0)

/-- wPortStatus of a logical port (R338-R340). -/
def Mach.portStatus (m : Mach) (n : Nat) : Nat :=
  if n = 1 then 257 + 1024 * b2n m.upHigh
  else match m.physOf n with
    | some p => if m.isHub p.val then m.portBits p.val else 256 * b2n (m.port p.val).powerReq
    | none => 0

/-- wPortChange of a logical port. -/
def Mach.portChanges (m : Mach) (n : Nat) : Nat :=
  match m.physOf n with
  | some p => (m.port p.val).change
  | none => 0

/-- A request that names a logical port, STALL where there is none (R341). -/
def Mach.onLogical (m : Mach) (n : Nat) (f : Mach → Mach) : Mach :=
  if n = 0 ∨ m.lcount < n then m.hostStall 0 else f m

/-- GetPortStatus. -/
def Mach.getPortStatus (m : Mach) (n : Nat) : Mach :=
  m.onLogical n (fun m => m.hostData 0 (leBytes 2 (m.portStatus n) ++ leBytes 2 (m.portChanges n)))

def execGetPortStatus (n : Fin 50) (s : State) : Host.Outcome State Fault Refusal := s.updUp (·.getPortStatus n.val)

/-- An on request of the host is refused for holdoff, budget or permit (R342). -/
def Mach.hostRefused (m : Mach) (p : Fin 48) : Bool :=
  match m.onRefusal (.vbus p) with
  | some st => st == stHoldoff || (st == stBusy && !m.swLive (.vbus p))
      || (m.domOn (swDomain (.vbus p)) && !m.stopPersists (.vbus p) && m.fg (PDI_VBUS_CFG p.val) PDI_VBUS_CFG_permit == 0)
  | none => false

/-- SetPortFeature(PORT_POWER) (R340, R342): the request is recorded, and a hub-mode port is powered or the request refused
without the host being told. -/
def Mach.setPortPower (m : Mach) (n : Nat) : Mach :=
  m.onLogical n (fun m =>
    match m.physOf n with
    | none => m.hostAck 0
    | some p =>
      let m := m.setPort p.val { m.port p.val with powerReq := true }
      if !m.isHub p.val then m.hostAck 0
      else
        let m := if m.pst p.val ≤ pHold && m.hostRefused p then m.inc HUB_PWR_REFUSED HUB_PWR_REFUSED_count else m
        (m.portOnReq p).2.hostAck 0)

def execSetPortFeaturePower (n : Fin 50) (s : State) : Host.Outcome State Fault Refusal := s.updUp (·.setPortPower n.val)

/-- SetPortFeature(PORT_RESET) (R128, R339). -/
def Mach.setPortReset (m : Mach) (n : Nat) (cut : CtrlCut) : Mach :=
  m.onLogical n (fun m =>
    match m.physOf n with
    | none => (m.upReset 2 cut).hostAck 0
    | some p =>
      (if m.isHub p.val && m.domOn (portDom p.val) && (m.canReset p.val || m.pst p.val == pConn && !(m.port p.val).katHold) then
          m.resetHubPort p.val
        else m).hostAck 0)

def execSetPortFeatureReset (n : Fin 50) (cut : CtrlCut) (s : State) : Host.Outcome State Fault Refusal := s.updUp (·.setPortReset n.val cut)

/-- SetPortFeature(PORT_SUSPEND) (R339, R354). -/
def Mach.setPortSuspend (m : Mach) (n : Nat) : Mach :=
  m.onLogical n (fun m =>
    match m.physOf n with
    | none =>
      let m := if m.cmfSt < cSuspended then
          { m with cmf := { m.cmf with before := m.cmfSt, sel := true } }.setCmfSt cSuspended
        else m
      m.hostAck 0
    | some p =>
      (if m.isHub p.val && m.domOn (portDom p.val) && m.pst p.val == pEnabled then (m.setPst p.val pSusp).emit .portBus [p.val, 2] else m).hostAck 0)

def execSetPortFeatureSuspend (n : Fin 50) (s : State) : Host.Outcome State Fault Refusal := s.updUp (·.setPortSuspend n.val)

/-- Every logical port is suspended, disabled or powered off (R341). -/
def Mach.allIdle (m : Mach) : Bool :=
  m.cmfSt == cSuspended && m.hubPorts.all (fun p => let s := m.pst p.val; s < pPowering || s == pSusp || s == pDisabled || s == pError)

/-- SetPortFeature(PORT_TEST) with a test selector, 1-5. -/
def Mach.setPortTest (m : Mach) (n sel : Nat) : Mach :=
  m.onLogical n (fun m =>
    match m.physOf n with
    | none => m.hostStall 0
    | some p =>
      if !m.isHub p.val || sel = 0 || !m.allIdle then m.hostStall 0
      else ((m.setPort p.val { m.port p.val with testMode := sel }).emit .portBus [p.val, 4, sel]).hostAck 0)

def execSetPortFeatureTest (n : Fin 50) (sel : Fin 6) (s : State) : Host.Outcome State Fault Refusal := s.updUp (·.setPortTest n.val sel.val)

/-- The bit of wPortChange that a feature names. -/
def changeBit : PortFeature → Option Nat
  | .cConnection => some 0
  | .cEnable => some 1
  | .cSuspend => some 2
  | .cOverCurrent => some 3
  | .cReset => some 4
  | _ => none

/-- ClearPortFeature on a hub-mode port. -/
def Mach.clearHubPort (m : Mach) (p : Fin 48) (f : PortFeature) : Mach :=
  match f with
  | .enable => if m.pst p.val == pEnabled then m.setPst p.val pDisabled else m
  | .suspend => if m.domOn (portDom p.val) && m.pst p.val == pSusp then m.driveResume p.val 1 else m
  | .power => m.vbusOff p
  | _ => m

/-- ClearPortFeature (R339-R342). -/
def Mach.clearPortFeature (m : Mach) (n : Nat) (f : PortFeature) : Mach :=
  m.onLogical n (fun m =>
    match m.physOf n with
    | none =>
      (if f = .suspend ∧ m.cmf.sel = true ∧ m.hub.susp = false then { m.cmfBack with cmf := { m.cmf with sel := false } } else m).hostAck 0
    | some p =>
      let x := m.port p.val
      let x := if f = .power then { x with powerReq := false } else x
      let m := m.setPort p.val (match changeBit f with | some b => { x with change := setBitN x.change b false } | none => x)
      (if m.isHub p.val then m.clearHubPort p f else m).hostAck 0)

def execClearPortFeature (n : Fin 50) (f : PortFeature) (s : State) : Host.Outcome State Fault Refusal := s.updUp (·.clearPortFeature n.val f)

/-- SetPortFeature and ClearPortFeature PORT_INDICATOR (R341). -/
def execPortIndicatorRequest (s : State) : Host.Outcome State Fault Refusal := s.updUp (·.hostStall 0)

/-- SetHubDescriptor, GetTTState and StopTT (R341). -/
def execUnsupportedHubRequest (s : State) : Host.Outcome State Fault Refusal := s.updUp (·.hostStall 0)

/-- The hub descriptor (R337). -/
def Mach.hubDescriptor (m : Mach) : List Byte :=
  let l := m.lcount
  let d := (l + 8) / 8
  let fixed := (upTo (l + 1)).foldl (fun v n =>
    v + (if n = 1 then 2 else if 2 ≤ n then m.fg (HUB_PMAP (n - 2)) HUB_PMAP_fixed * 2 ^ n else 0)) 0
  leBytes 1 (7 + 2 * d) ++ [0x29] ++ leBytes 1 l ++ leBytes 2 (5 + 8 * m.fg HUB_CFG HUB_CFG_oc_mode)
    ++ leBytes 1 (m.fg HUB_CFG HUB_CFG_pwr2good) ++ [0] ++ leBytes d fixed ++ List.replicate d 0xFF

/-- The status-change bitmap (R338): bit 0 is the hub, bit n logical port n. -/
def Mach.changeMap (m : Mach) : Nat :=
  (upTo (m.lcount + 1)).foldl (fun v n => v + (if n = 0 then b2n m.hub.cOc else b2n (m.portChanges n != 0)) * 2 ^ n) 0

/-- Bytes of the bitmap. -/
def Mach.mapBytes (m : Mach) : Nat := (m.lcount + 8) / 8

/-- A device descriptor (R335). (PRESUMED, log 67) -/
def Mach.deviceDesc (m : Mach) (cmf : Bool) : List Byte :=
  let c := m.boot.cfg
  [18, 1] ++ leBytes 2 0x0201 ++ (if cmf then [0, 0, 0] else [9, 0, if m.upHigh then 2 else 0]) ++ [64] ++ leBytes 2 c.vid
    ++ leBytes 2 (if cmf then c.pidCmf else c.pidHub) ++ leBytes 2 0x00A1 ++ [0, 0, BitVec.ofNat 8 c.iSerial, 1]

/-- An interface descriptor: alternate setting, endpoints, class, subclass and protocol. -/
def ifDesc (alt n cls sub proto : Nat) : List Byte :=
  [9, 4, 0] ++ leBytes 1 alt ++ leBytes 1 n ++ leBytes 1 cls ++ leBytes 1 sub ++ leBytes 1 proto ++ [0]

/-- An endpoint descriptor: address, type, maximum packet size, interval. -/
def epDesc (a type mps ival : Nat) : List Byte := [7, 5] ++ leBytes 1 a ++ leBytes 1 type ++ leBytes 2 mps ++ leBytes 1 ival

/-- The interfaces and endpoints of a configuration (R335, R359). -/
def Mach.interfaces (m : Mach) (cmf : Bool) : List Byte :=
  let bulk := if m.upHigh then 512 else 64
  if cmf then
    ifDesc 0 5 0xFF 0xA8 1 ++ epDesc 1 2 bulk 0 ++ epDesc 0x81 2 bulk 0 ++ epDesc 0x82 3 8 (if m.upHigh then 4 else 1)
      ++ epDesc 3 2 bulk 0 ++ epDesc 0x83 2 bulk 0
  else
    let ep := epDesc 0x81 3 m.mapBytes (if m.upHigh then 0x0C else 0xFF)
    if m.upHigh then ifDesc 0 1 9 0 1 ++ ep ++ ifDesc 1 1 9 0 2 ++ ep else ifDesc 0 1 9 0 0 ++ ep

/-- A configuration descriptor with what follows it: self-powered, remote wakeup, bMaxPower 0 (R335). (PRESUMED, log 67) -/
def Mach.configDesc (m : Mach) (cmf : Bool) : List Byte :=
  let body := m.interfaces cmf
  [9, 2] ++ leBytes 2 (9 + body.length) ++ [1, 1, 0, 0xE0, 0] ++ body

/-- The BOS descriptor with its USB 2.0 extension: LPM, BESL, baseline BESL valid with value 0, deep BESL not valid (R335). -/
def bosDesc : List Byte := [5, 15, 12, 0, 1, 7, 16, 2, 0x0E, 0, 0, 0]

/-- What the host reads of the hub and the command function (R335, R337, R338). -/
def Mach.hubRead (m : Mach) (what : HubRead) : Mach :=
  match what with
  | .hubDescriptor => m.hostData 0 m.hubDescriptor
  | .device cmf => m.hostData 0 (m.deviceDesc cmf)
  | .configuration cmf => m.hostData 0 (m.configDesc cmf)
  | .bos _ => m.hostData 0 bosDesc
  | .string _ i => match m.boot.cfg.strings[i.val]? with | some bs => m.hostData 0 bs | none => m.hostStall 0
  | .changes => if m.hubSt ≠ uConfigured then m else if m.changeMap = 0 then m.hostNak 0x81 else m.hostData 0x81 (leBytes m.mapBytes m.changeMap)

def execGetHubDescriptor (what : HubRead) (s : State) : Host.Outcome State Fault Refusal := s.updUp (·.hubRead what)

/-! ### TTs (R345) -/

/-- The TT that a request names in wIndex, none where there is none. -/
def Mach.ttNamed (m : Mach) (i : Nat) : Option Nat :=
  if m.fg HUB_STAT HUB_STAT_multi_tt = 1 then (if 2 ≤ i ∧ i ≤ m.lcount then some i else none) else if i = 1 then some 0 else none

/-- ClearTTBuffer. -/
def Mach.clearTt (m : Mach) (i dev ep : Nat) (isIn : Bool) : Mach :=
  match m.ttNamed i with
  | none => m.hostStall 0
  | some k => (m.setTt k (dropFirst (fun x => !x.periodic && x.dev == dev && x.ep == ep && x.isIn == isIn) (m.tt k))).hostAck 0

def execClearTtBuffer (tt : Nat) (dev : Fin 128) (ep : Fin 16) (isIn : Bool) (s : State) : Host.Outcome State Fault Refusal :=
  s.updUp (·.clearTt tt dev.val ep.val isIn)

/-- ResetTT. -/
def Mach.resetTt (m : Mach) (i : Nat) : Mach :=
  match m.ttNamed i with
  | none => m.hostStall 0
  | some k => (m.setTt k []).hostAck 0

def execResetTt (tt : Nat) (s : State) : Host.Outcome State Fault Refusal := s.updUp (·.resetTt tt)

/-- A transaction of a TT is the one that a split token names. -/
def TtTx.isOf (y : TtTx) (x : SplitTok) : Bool :=
  y.port == x.port.val && y.dev == x.dev.val && y.ep == x.ep.val && y.isIn == x.isIn && y.periodic == x.periodic

/-- A start-split (R345, R346). At full speed the hub uses no TT (R349). -/
def Mach.startSplit (m : Mach) (x : SplitTok) : Mach :=
  match m.physOf x.port.val with
  | none => m
  | some p =>
    if !m.upHigh then m
    else
      let k := m.ttOf x.port.val
      let kept := (m.tt k).filter (fun y => !(y.isOf x && (y.refused || y.res.isSome)))
      let l := kept.filter (fun y => y.periodic == x.periodic && !y.refused)
      let tx : TtTx := { port := x.port.val, dev := x.dev.val, ep := x.ep.val, isIn := x.isIn, periodic := x.periodic, bytes := x.bytes }
      let full := if x.periodic then decide (16 ≤ l.length) || decide (1536 < x.bytes + (l.map (·.bytes)).sum) else decide (2 ≤ l.length)
      if full then
        if x.periodic then (m.setTt k (kept ++ [{ tx with refused := true }])).inc HUB_TT_OVR HUB_TT_OVR_count else m.hostNak x.ep.val
      else
        let m := m.setTt k (kept ++ [tx])
        let m := if x.periodic then m else m.hostAck x.ep.val
        let m := m.form 48 { dst := p.val, cls := 2 } (ttHead x.dev.val x.ep.val x.isIn ++ x.data)
        m.emit .portTx [p.val, if x.isIn then 2 else 1, x.dev.val, x.ep.val] x.data

def execTtStartSplit (x : SplitTok) (s : State) : Host.Outcome State Fault Refusal := s.updUp (·.startSplit x)

/-- How a complete-split is answered (R345): by what the transaction came to, or ERR where it was discarded; data whose buffer
fails parity go out with a CRC16 forced bad (R23, R205). (PRESUMED, log 66) -/
def Mach.splitAnswer (m : Mach) (y : TtTx) (bufOk : Bool) : Mach :=
  let err := m.emit .upstream [6, y.ep]
  if y.refused then err
  else match y.res with
    | none => m.emit .upstream [4, y.ep]
    | some .ack => m.hostAck y.ep
    | some .nak => m.hostNak y.ep
    | some .nyet => m.emit .upstream [4, y.ep]
    | some .stall => m.hostStall y.ep
    | some .error => err
    | some (.data _ bs) => if bufOk then m.hostData y.ep bs else ((m.raise fBufParity 48).poisoned).emit .upstream [5, y.ep]

/-- A complete-split (R345): a transaction that has ended leaves its TT. -/
def Mach.completeSplit (m : Mach) (x : SplitTok) (bufOk : Bool) : Mach :=
  let k := m.ttOf x.port.val
  match (m.tt k).find? (·.isOf x) with
  | none => m
  | some y =>
    (if y.refused || y.res.isSome then m.setTt k (dropFirst (·.isOf x) (m.tt k)) else m).splitAnswer y bufOk

/-! ### The repeat path and steering (R348-R352) -/

/-- A SET_ADDRESS to address 0 completes its status stage (R351, rule 2). -/
def Mach.assignObserved (m : Mach) (a : Nat) : Mach :=
  if m.upHigh && a != 0 then m.wr (steerAddr a) (match m.steered 0 with | some p => steerWord p | none => 0) else m

def execSetAddressObserved (addr : Fin 128) (s : State) : Host.Outcome State Fault Refusal := s.updUp (·.assignObserved addr.val)

/-- The hub-mode ports that a packet from the host is repeated to at most: enabled, and at high speed while the hub is. -/
def Mach.repeatTo (m : Mach) : List Nat :=
  (m.hubPorts.map (·.val)).filter (fun p => m.pst p == pEnabled && (!m.upHigh || m.fg (PRT_STAT p) PRT_STAT_speed == 3))

/-- A packet goes out on ports: kind 0 SOF, 1 token, 2 data, 3 handshake. -/
def Mach.repeatOn (m : Mach) (l : List Nat) (kind pid : Nat) (bytes : List Byte) : Mach :=
  forEach l (fun p m => m.emit .portTx [p, 5, kind, pid] bytes) m

/-- The hub's own address, or the command function's (R350). Address 0 is the command function's only while it has no owner. -/
def Mach.ownAddr (m : Mach) (a : Nat) : Bool := a == m.hub.addr || (a == m.cmf.addr && (a != 0 || (m.steered 0).isNone))

/-- The ports that data and handshakes after a token for an address go to, and whether for want of an entry (R350). -/
def Mach.steerTo (m : Mach) (a : Nat) : List Nat × Bool :=
  let l := m.repeatTo
  if !m.upHigh || m.fg HUB_CFG HUB_CFG_steer_en == 0 then (l, false)
  else match m.steered a with
    | some p => (l.filter (· == p), false)
    | none => (l, true)

/-- While the hub runs at high speed, the first SOF of a frame sends a SOF or keep-alive on each full- or low-speed hub-mode port
(R346). -/
def Mach.slowSof (m : Mach) (frame : Nat) : Mach :=
  if m.hub.frame = some frame ∨ !m.upHigh then m
  else
    let slow := (m.hubPorts.map (·.val)).filter (fun p => m.pst p == pEnabled && m.fg (PRT_STAT p) PRT_STAT_speed != 3)
    forEach slow (fun p m => m.emit .portBus [p, 5, frame]) { m with hub := { m.hub with frame := some frame } }

/-- PIDs of USB 2.0. -/
def pidSetup : BitVec 4 := 13
def pidAck : BitVec 4 := 2

/-- A packet from the host is repeated (R348-R351); nothing is while the bus is suspended (R354). -/
def Mach.hsRepeat (m : Mach) (pk : UpPacket) : Mach :=
  if m.hub.susp then m
  else match pk with
    | .sof frame => (m.slowSof frame.toNat).repeatOn m.repeatTo 0 5 (leBytes 2 frame.toNat)
    | .csplit x bufOk => if m.upHigh then m.completeSplit x bufOk else m
    | .token pid a ep =>
      let m := { m with hub := { m.hub with tok := some (a.val, ep.val), setup := pid == pidSetup } }
      let m := if pid == pidSetup && m.hub.seenReset == some a.val then { m with hub := { m.hub with seenReset := none } } else m
      if m.ownAddr a.val then m else m.repeatOn m.repeatTo 1 pid.toNat [BitVec.ofNat 8 a.val, BitVec.ofNat 8 ep.val]
    | .data pid bytes =>
      match m.hub.tok with
      | none => m
      | some (a, _) =>
        if m.ownAddr a then m
        else
          let (l, bcast) := m.steerTo a
          let m := if bcast then m.inc HUB_STEER_BCAST HUB_STEER_BCAST_count else m
          let m := if m.hub.setup && bytes.take 4 == [0x23, 0x03, 0x04, 0x00] then { m with hub := { m.hub with seenReset := some a } } else m
          m.repeatOn l 2 pid.toNat bytes
    | .handshake pid =>
      match m.hub.tok with
      | none => m
      | some (a, ep) =>
        if m.ownAddr a then m
        else
          let l := (m.steerTo a).1
          let m := if pid == pidAck && ep == 0 && !m.hub.setup && m.hub.seenReset == some a then
              let m := { m with hub := { m.hub with seenReset := none } }
              match m.steered a with
              | some p => m.ownZero p
              | none => m
            else m
          m.repeatOn l 3 pid.toNat []

def execHsPacketRepeat (pk : UpPacket) (s : State) : Host.Outcome State Fault Refusal := s.updUp (·.hsRepeat pk)

/-! ### Suspend, resume and LPM (R354-R358) -/

/-- The upstream bus has been idle for 3 ms (R354). -/
def Mach.idleSuspend (m : Mach) : Mach :=
  if m.hub.susp || m.hubSt == uL1 then m
  else
    let m := { m with hub := { m.hub with susp := true, before := m.hubSt } }
    let m := (m.setHubSt uSuspended).ev HUB_STAT HUB_STAT_suspend_ev
    if m.cmfSt == cSuspended then m
    else { m with cmf := { m.cmf with before := if m.cmfSt == cL1 then m.cmf.before else m.cmfSt } }.setCmfSt cSuspended

def execUpIdleSuspend (s : State) : Host.Outcome State Fault Refusal := s.updUp (·.idleSuspend)

/-- A wake source is enabled (R355, R358). -/
def Mach.wakeEnabled (m : Mach) (source : Nat) : Bool :=
  if m.hubSt == uL1 then m.hub.l1Wake && (source != 2 || m.cmf.l1Wake)
  else m.hub.rwake && (source != 2 || m.fg CMF_STAT CMF_STAT_rwake_en == 1)

/-- A wake source is there (R355): a connection, enable or over-current change of a hub-mode port, a K of a device on a suspended
one, or a masked flag of the notification. -/
def Mach.wakeThere (m : Mach) (source : Nat) : Bool :=
  match source with
  | 0 => m.hub.cOc || m.hubPorts.any (fun p => (m.port p.val).change &&& 0b1011 != 0)
  | 1 => m.hubPorts.any (fun p => m.pst p.val == pSusp || m.pst p.val == pResuming || m.pst p.val == pEnabled)
  | 2 => m.notifyFlags &&& m.fg CMF_NOTIFY CMF_NOTIFY_mask != 0
  | _ => false

/-- An enabled wake source of a suspended hub (R355, R356): the hub drives K, or gives way to the host's. -/
def Mach.remoteWake (m : Mach) (source : Nat) (hostK : Bool) : Mach :=
  if !(m.hub.susp || m.hubSt == uL1) || m.hub.driving || !m.wakeThere source || !m.wakeEnabled source then m
  else
    let a := HUB_WAKE_REASON
    let m := (m.ev HUB_STAT HUB_STAT_wake_ev).fs a HUB_WAKE_REASON_source source
    if hostK then (m.fs a HUB_WAKE_REASON_reason 1).fs a HUB_WAKE_REASON_pending 1
    else { m with hub := { m.hub with driving := true } }.emit .upBus [0]

def execHubRemoteWake (source : Fin 4) (hostK : Bool) (s : State) : Host.Outcome State Fault Refusal := s.updUp (·.remoteWake source.val hostK)

/-- The host resumes the bus, from suspend or from L1 (R356, R357). -/
def Mach.hostResume (m : Mach) (during : Bool) : Mach :=
  if m.hub.susp then m.upResume false during
  else if m.hubSt == uL1 || m.cmfSt == cL1 then m.upResume true during
  else m

def execHostResume (during : Bool) (s : State) : Host.Outcome State Fault Refusal := s.updUp (·.hostResume during)

/-- The hub may enter L1 (R358). -/
def Mach.hubIdle (m : Mach) : Bool :=
  decide (cSuspended ≤ m.cmfSt) && m.hub.tts.all (fun e => e.2.isEmpty)
    && m.hubPorts.all (fun p => let s := m.pst p.val; s < pConn || s == pSusp || s == pDisabled || s == pError)

/-- The command function may enter L1 (R358). -/
def Mach.cmfIdle (m : Mach) : Bool :=
  m.cmd.part0.isEmpty && (m.q 48).words.isEmpty && !m.cmd.held.any (fun e => e.1 == 0) && m.cmf.notif.isNone

/-- An LPM transaction (R358): NYET is kind 4. -/
def Mach.lpm (m : Mach) (hub : Bool) (link : Nat) (wake : Bool) : Mach :=
  if link ≠ 1 then m.hostStall 0
  else if hub then
    if !m.hubIdle || m.hub.susp then m.emit .upstream [4, 0]
    else if m.hubSt == uL1 then m.hostAck 0
    else
      let m := { m with hub := { m.hub with before := m.hubSt, l1Wake := wake } }
      ((m.setHubSt uL1).ev HUB_STAT HUB_STAT_l1_ev).hostAck 0
  else if !m.cmfIdle || m.cmfSt == cSuspended then m.emit .upstream [4, 0]
  else if m.cmfSt == cL1 then m.hostAck 0
  else ({ m with cmf := { m.cmf with before := m.cmfSt, l1Wake := wake } }.setCmfSt cL1).hostAck 0

def execLpmTransaction (hub : Bool) (linkState : BitVec 4) (rwake : Bool) (s : State) : Host.Outcome State Fault Refusal :=
  s.updUp (·.lpm hub linkState.toNat rwake)

/-! ### Standard requests -/

/-- DEVICE_REMOTE_WAKEUP set or cleared (R355). -/
def Mach.setRwake (m : Mach) (hub on : Bool) : Mach :=
  (if hub then { m with hub := { m.hub with rwake := on } } else m.fs CMF_STAT CMF_STAT_rwake_en (b2n on)).hostAck 0

def execSetFeatureDeviceRemoteWakeup (hub on : Bool) (s : State) : Host.Outcome State Fault Refusal := s.updUp (·.setRwake hub on)

/-- SET_ADDRESS completes its status stage (R364). -/
def Mach.setAddress (m : Mach) (hub : Bool) (a : Nat) : Mach :=
  if hub then
    if m.hubSt = uDefault ∨ m.hubSt = uAddress then
      { m with hub := { m.hub with addr := a } }.setHubSt (if a = 0 then uDefault else uAddress)
    else m
  else if m.cmfSt = cDefault ∨ m.cmfSt = cAddress then
    { m with cmf := { m.cmf with addr := a } }.setCmfSt (if a = 0 then cDefault else cAddress)
  else m

def execSetAddress (hub : Bool) (addr : Fin 128) (s : State) : Host.Outcome State Fault Refusal := s.updUp (·.setAddress hub addr.val)

/-- SET_CONFIGURATION and SET_INTERFACE of the hub (R335, R352). -/
def Mach.configHub (m : Mach) (value : Nat) (iface : Bool) : Mach :=
  if iface then
    if m.hubSt ≠ uConfigured ∨ 1 < value ∨ (value = 1 ∧ m.upHigh = false) then m.hostStall 0
    else ({ m.fs HUB_STAT HUB_STAT_multi_tt value with hub := { m.hub with tts := [] } }).hostAck 0
  else if 1 < value ∨ m.hubSt < uAddress ∨ uConfigured < m.hubSt then m.hostStall 0
  else if value = 1 then
    ({ m.fs HUB_STAT HUB_STAT_multi_tt 0 with hub := { m.hub with tts := [] } }.setHubSt uConfigured).hostAck 0
  else (m.clearSteer.setHubSt uAddress).hostAck 0

/-- SET_CONFIGURATION and SET_INTERFACE of the command function (R362, R365). -/
def Mach.configCmf (m : Mach) (value : Nat) (iface : Bool) : Mach :=
  let moved := { m with cmf := { m.cmf with tog := [] } }.dropPart0
  if iface then (if m.cmfSt ≠ cConfigured ∨ value ≠ 0 then m.hostStall 0 else moved.hostAck 0)
  else if 1 < value ∨ m.cmfSt < cAddress ∨ cConfigured < m.cmfSt then m.hostStall 0
  else if value = 1 then
    let m := moved.setCmfSt cConfigured
    { m with cmf := { m.cmf with flags := 0 } }.notifyEval.hostAck 0
  else (moved.setCmfSt cAddress).hostAck 0

def execSetConfiguration (hub : Bool) (value : Nat) (iface : Bool) (s : State) : Host.Outcome State Fault Refusal :=
  s.updUp (fun m => if hub then m.configHub value iface else m.configCmf value iface)

/-- CLEAR_FEATURE(ENDPOINT_HALT) of an endpoint of the command function (R365): a stalled stream endpoint keeps its
position, and ends only where its window is exhausted. -/
def Mach.clearHalt (m : Mach) (ep : Nat) : Mach :=
  let m := m.clearTog ep
  let un (e : Nat) (m : Mach) : Mach :=
    let x := m.strm e
    (m.setStrm e { x with stall := false }).fs (CMF_STREAM e) CMF_STREAM_end (b2n (m.fg (CMF_STREAM e) CMF_STREAM_bound == 1 && decide (x.len ≤ x.pos)))
  if ep = 1 then m.dropPart0.fs CMF_STAT CMF_STAT_out_halted 0
  else if ep = 3 then un 0 m
  else if ep = 0x83 then un 1 m
  else m

def execClearFeatureEndpointHalt (ep : BitVec 8) (s : State) : Host.Outcome State Fault Refusal :=
  s.updUp (fun m =>
    if ep.toNat = 1 ∨ ep.toNat = 0x81 ∨ ep.toNat = 0x82 ∨ ep.toNat = 3 ∨ ep.toNat = 0x83 then (m.clearHalt ep.toNat).hostAck 0 else m.hostStall 0)

/-- RESYNC (R364, R365). -/
def execCmfResync (s : State) : Host.Outcome State Fault Refusal := s.updUp (fun m => ((m.clearHalt 1).clearHalt 0x81).hostAck 0)

/-! ### Notifications (R362) -/

/-- A masked flag rises. -/
def execNotifyReady (s : State) : Host.Outcome State Fault Refusal := s.upd (fun m => if m.domOn 2 then m.notifyEval else m)

/-- The host's IN takes the notification that waits; NAK where none does. -/
def Mach.notifyIn (m : Mach) : Mach :=
  if m.cmfSt ≠ cConfigured then m
  else match m.cmf.notif with
    | none => m.hostNak 0x82
    | some (f, k, e, t) =>
      ({ m with cmf := { m.cmf with notif := none } }.hostData 0x82 (leBytes 1 f ++ leBytes 1 k ++ leBytes 2 e ++ leBytes 4 t)).flipEp 0x82

def execNotifyIn (s : State) : Host.Outcome State Fault Refusal := s.updUp (·.notifyIn)

end Sys2Proof.Machine
end

