-- ==== Sys2Proof/Machine/Training.lean ====
section
/-! DEFINITION. The events of training and of the training cache in flash (R297-R312). -/

namespace Sys2Proof.Machine
open Reg

/-- The bits of a register that a sub-step sets (R297, R322, R326-R330): 0 where it sets none of it. -/
def trainMask (ddr5 : Bool) (step rank : Nat) (a : Nat) : Nat :=
  let lane := a - 0x110100
  let bit := a - 0x110200
  let laneOk := decide (0x110100 ≤ a ∧ lane / 0x10 / 5 = rank ∧ lane < 0xA0 ∧ a % 4 = 0)
  let bitOk := decide (0x110200 ≤ a ∧ bit / 4 / 40 = rank ∧ bit / 4 < 80 ∧ a % 4 = 0)
  match step with
  | 3 => if ddr5 && a == DPY_CA rank then 0xFFFFFF else 0
  | 4 => if laneOk && lane % 0x10 == 8 then 0x3FF else 0
  | 5 => if laneOk && lane % 0x10 == 0 then (if ddr5 then 0xF0FFF else 0xFFF) else 0
  | 6 => if laneOk && lane % 0x10 == 4 then 0xFFFF03FF else if bitOk then 0xFF00 else 0
  | 7 => if laneOk && lane % 0x10 == 12 then 0xFF else 0
  | 8 => if laneOk && lane % 0x10 == 8 then 0xFF3FF000 else if laneOk && lane % 0x10 == 12 && ddr5 then 0xFFFF0000
      else if bitOk then 0xFF else 0
  | _ => 0

/-- A deskew byte within its range of -32 to +31 taps (R295). -/
def dskClamp (b : Nat) : Nat := if b < 128 then min b 31 else max b 224

/-- The deskews of a bit within their range (R295, R330). -/
def bitClamp (a : Nat) (v : Word) : Word :=
  if 0x110200 ≤ a then BitVec.ofNat 32 (dskClamp (v.toNat % 256) + 256 * dskClamp (v.toNat / 256 % 256)) else v

/-- What the PHY found in a sub-step goes into its registers. -/
def Mach.takeResults (m : Mach) (step rank : Nat) (l : List (BitVec 24 × Word)) : Mach :=
  forEach l (fun e m =>
    let a := e.1.toNat
    let k : Word := BitVec.ofNat 32 (trainMask m.ddr5 step rank a)
    m.wr a ((m.rg a &&& ~~~k) ||| (bitClamp a e.2 &&& k))) m

/-- Devices of a rank (R240). -/
def Mach.devices (m : Mach) : Nat := if m.fg DMC_CFG DMC_CFG_org = 1 then 3 else 5

/-- The first `n` widths that were found are at least a limit; one that is not given counts as 0. -/
def widthsOk (l : List Nat) (n limit : Nat) : Bool := (upTo n).all (fun i => decide (limit ≤ (l[i]?).getD 0))

/-- Every lane of a rank meets a condition. -/
def lanesOk (rank : Nat) (g : Nat → Bool) : Bool := (upTo 5).all (fun l => g (5 * rank + l))

/-- The criterion of a sub-step (R297, R321) on the machine that holds its results. -/
def Mach.criterion (m : Mach) (r : TrainRun) (x : Sys2Proof.TrainRes) : Bool :=
  x.ok && match r.step with
    | 3 => !m.ddr5 || widthsOk x.widths (2 * m.devices) 40
    | 4 => lanesOk r.rank (fun n => decide (m.fg (DPY_LANE_WR n) DPY_LANE_WR_wr_lvl ≤ 511))
    | 5 => widthsOk x.widths 5 32
    | 6 => lanesOk r.rank (fun n => decide (m.fg DPY_MARGIN DPY_MARGIN_rd_min ≤ m.fg (DPY_LANE_RD n) DPY_LANE_RD_rd_eye))
    | 7 => widthsOk x.widths (2 * m.devices) (m.fg DPY_MARGIN DPY_MARGIN_vref_min)
    | 8 => lanesOk r.rank (fun n => decide (m.fg DPY_MARGIN DPY_MARGIN_wr_min ≤ m.fg (DPY_LANE_WR n) DPY_LANE_WR_wr_eye))
    | _ => true

/-- The mode registers of a rank's devices are written with the settings that DPY_LANEn_VREF shows. -/
def Mach.writeModes (m : Mach) (rank : Nat) : Mach :=
  forEach (upTo 5) (fun l m => let n := 5 * rank + l; m.emit .dramDev [8, n, (m.rg (DPY_LANE_VREF n)).toNat]) m

/-- What a sub-step that passes has done to the devices (R297, R299): S5.2 has released DDR_RESET_N and written the mode registers,
S5.7 and S5.8 have written the settings they found, S5.9 has written and read its pattern over the top 2 MiB. -/
def Mach.deviceActs (m : Mach) (r : TrainRun) : Mach :=
  match r.step with
  | 2 => forEach (upTo m.rankCount) (fun k m => (m.writeModes k).emit .dramDev [5, k]) (m.setResetN true)
  | 7 => m.writeModes r.rank
  | 8 => if m.ddr5 then m.writeModes r.rank else m
  | 9 => m.emit .dramDev [10, r.rank, m.capacity - 2 ^ 21]
  | _ => m

/-- Every delay is loaded from the entry for the bin in service (R304). -/
def Mach.loadEntry (m : Mach) : Mach :=
  match m.entryFor (m.fg DMC_STAT DMC_STAT_bin_act) with
  | some bs => forEach (upTo m.rankCount) (fun k m => Mach.loadRank m bs k) m
  | none => m

/-- Cached values stand in for S5.4-S5.8 (R304). -/
def Mach.recordCached (m : Mach) : Mach :=
  forEach [4, 5, 6, 7, 8] (fun s m => (m.stepResult s 4 0 0 0xF).journal (stepCode s) jCached 0 (m.trainDetail 0xF)) m

/-- The exit sequence has passed on every rank (R274, R312): after a warm-retain reset the trained values are RETAINED. -/
def Mach.exitPassed (m : Mach) (r : TrainRun) : Mach :=
  let m := (m.setTrain none).fs DMC_STAT DMC_STAT_selfref 0
  if r.retained then (m.fs DPY_STAT DPY_STAT_source 3).fs DPY_STAT DPY_STAT_trained 1 else m

/-- A sub-step has passed: the next one starts, or S5 ends. -/
def Mach.stepPassed (m : Mach) (r : TrainRun) : Mach :=
  let next := fun (s : Nat) (m : Mach) => m.stepStart { r with step := s, attempt := 1 }
  let more := decide (r.rank + 1 < m.rankCount)
  let up : TrainRun := { r with rank := r.rank + 1, attempt := 1 }
  if r.retained || r.exit then (if more then m.stepStart up else m.exitPassed r)
  else match r.step, r.cached with
    | 1, _ => next 2 m
    | 2, _ => m.stepThree r
    | 3, true => next 10 m
    | 10, _ => next 9 m.recordCached
    | 9, true => if more then m.stepThree up else m.trainDone 2
    | 9, false => if more then m.stepThree up else m.trainDone 1
    | s, _ => next (s + 1) m

/-- A sub-step has failed its third attempt (R304, R308, R309, R312). The exit sequence of a domain that leaves RETENTION is the
one that R312 names, and ends like it. (DEDUCED, log 40) -/
def Mach.stepFailed (m : Mach) (r : TrainRun) : Mach :=
  let bin := m.fg DMC_STAT DMC_STAT_bin_act
  let last := if r.step = 10 then 5 else r.step
  if r.retained then
    ({ m with boot := { m.boot with retained := false } }.fs JNL_STAT JNL_STAT_retained 0).trainStart false
  else if r.exit then m.trainStart false
  else if r.cached && (r.step == 3 || r.step == 10 || r.step == 9) then
    let m := { m with dpy := { m.dpy with aside := m.dpy.aside ++ [bin] } }.ev DPY_STAT DPY_STAT_cache_ev
    if m.dpy.marks.contains (16 * m.band + bin) then m.tryBins last m.lowerBins
    else ((m.setResetN false).fs DPY_STAT DPY_STAT_source 1).stepStart { step := 2, cached := false }
  else
    let m := { m with dpy := { m.dpy with marks := m.dpy.marks.filter (· != 16 * m.band + bin) ++ [16 * m.band + bin] } }
    (m.ev DPY_STAT DPY_STAT_fallback_ev).tryBins last m.lowerBins

/-- The machine with what an attempt found: of a full training the results, of S5.2 of a cached one the entry's values (R304). -/
def Mach.attempt (m : Mach) (r : TrainRun) (x : Sys2Proof.TrainRes) : Mach :=
  if !r.cached then m.takeResults r.step r.rank x.results else if r.step = 2 then m.loadEntry else m

/-- A sub-step ends (R298): it met its criterion, is repeated, or has failed. -/
def Mach.trainingSubstepDone (m : Mach) (x : Sys2Proof.TrainRes) : Mach :=
  match m.dpy.run with
  | none => m
  | some r =>
    let m := m.bootTime x.time.toNat
    let got := m.attempt r x
    if got.criterion r x then
      let m := (got.deviceActs r).stepResult r.step 1 r.attempt x.duration.toNat 0xF
      (m.journal (stepCode r.step) jPass r.attempt (m.trainDetail 0xF)).stepPassed r
    else
      let m := m.stepResult r.step 2 r.attempt x.duration.toNat x.lane.val
      let m := m.journal (stepCode r.step) jFail r.attempt (m.trainDetail x.lane.val)
      if r.attempt < 3 then m.stepStart { r with attempt := r.attempt + 1 } else m.stepFailed r

def execTrainingSubstepDone (r : TrainRes) (s : State) : Host.Outcome State Fault Refusal := s.upd (·.trainingSubstepDone r)

/-- A write or erase of the training cache in flash ends, and the next one begins (R305, R306). -/
def Mach.flashOpDone (m : Mach) : Mach :=
  match m.dpy.flashOps with
  | [] => m
  | op :: l =>
    let d := m.dpy
    let d := match op with
      | .entry k bs => { d with cache := spSet [] d.cache k bs }
      | .invalidate => { d with cache := [], marks := [] }
      | .markClear => { d with marks := [] }
    { m with dpy := { d with flashOps := l } }.showFlash

end Sys2Proof.Machine
end

