-- ==== Sys2Proof/Machine/ResetBoot.lean ====
section
/-! DEFINITION. The resets, the boot steps, the watchdog, core wake, and the commands of the journal and the firmware slots
(R576-R593, R528). -/

namespace Sys2Proof.Machine
open Reg

def execPowerOnReset (straps : BitVec 4) (s : State) : Host.Outcome State Fault Refusal :=
  let s := s.chipReset rsPowerOn 0 false
  .next { s with m := s.m.sampleStraps straps.toNat }

/-- A low pulse on RESET_N (R612): from 1 µs on a cold reset, below 0.8 µs nothing, between them either. (DESIGN CHOICE, log 7) -/
def execColdReset (straps : BitVec 4) (lowNs : Nat) (s : State) : Host.Outcome State Fault Refusal :=
  let go := fun (s : State) =>
    let s := s.chipReset rsCold 0 false
    { s with m := s.m.sampleStraps straps.toNat }
  if lowNs < 800 then .next s
  else if 1000 ≤ lowNs then .next (go s)
  else
    let (v, m) := s.m.takeFree
    .next (if v % 2 = 1 then go { s with m := m } else { s with m := m })

/-- The watchdog runs from the start of S3 (R580). (DEDUCED, log 31) -/
def Mach.wdogRuns (m : Mach) : Bool :=
  m.fg JNL_WDOG JNL_WDOG_enable == 1 && !m.boot.stop && !m.pwr.off && (match m.boot.step with | some s => decide (3 ≤ s) | none => true)

/-- The watchdog expires (R580): CPU_WDOG first, a warm reset the second time. -/
def execWatchdogExpiry (s : State) : Host.Outcome State Fault Refusal :=
  if !s.m.wdogRuns then .next s
  else if s.m.boot.wdogOnce then .next (if s.m.boot.retaining then s else s.chipReset rsWatchdog 0 false)
  else .next { s with m := (s.m.boots (fun b => { b with wdogOnce := true })).raise fCpuWdog 0 }

/-! ### The ends of S0 and S10, and of every step -/

/-- S10 ends (R582): the configuration of the domains that are ON and of the power die is written, with the ports' power; every
Tally block is committed (R434), and the heartbeat starts; CLOCK_FAIL is raised for a USB PLL that did not lock. A hub that does
not connect upstream has then completed its boot. (DEDUCED, log 29) -/
def Mach.endS10 (m : Mach) (x : BootRes) : Mach :=
  let on := fun (m : Mach) (a : Nat) => match domOf a with | some d => m.domOn d | none => false
  let m := m.cfgWrites 0 (on m)
  let m := forEach m.config.power (fun p m => m.cfgPower p) m
  let m := forEach ((upTo 64).filter (fun i => on m (tallyBase i))) (fun i m => m.tallyCommit i) m
  let m := m.heartbeatStart
  let m := if m.boot.usbPll then m else m.raise fClockFail 1
  let m := m.journal 10 jPass m.boot.attempt x.detail.toNat
  if m.config.connect then m.bootEnter 13 11 x else m.bootComplete

/-- S0 ends or waits (R583): the reset's cause and the start of S0 are recorded before its first outcome, and a supply out of
range is recorded each time it holds the step up. (DEDUCED, log 29) -/
def Mach.endS0 (m : Mach) (x : BootRes) : Mach :=
  let n := (if m.boot.index = 0 then m.causeRecord.journal 0 jStart 1 0 else m).bootTime x.time.toNat
  if !x.pass then n.journal 0 jFail 1 x.detail.toNat
  else if m.pdi.badSupply.isEmpty then n.stepPass 0 x
  else m.bootTime x.time.toNat

/-- A boot step ends (R582, R583). (DESIGN CHOICE, log 9; DEDUCED, log 29) -/
def Mach.bootStepEnd (m0 : Mach) (x : BootRes) : Mach :=
  match m0.boot.step with
  | none => m0
  | some s =>
    let m := m0.bootTime x.time.toNat
    let d := x.detail.toNat
    match s with
    | 0 => m0.endS0 x
    | 1 => if x.pass then m.collectorStart.stepPass 1 x else m.bootStop 1 1 d
    | 2 => m.endS2 x
    | 3 => m.endS3 x
    | 4 => m.endS4 x
    | 5 =>
      if m.dpy.run.isSome then m
      else
        if m.fg DPY_STAT DPY_STAT_trained == 1 then (m.journal 5 jPass 1 (m.trainDetail 0xF)).bootEnter 13 6 x
        else (m.journal 5 jFail 1 (m.trainDetail 0xF)).bootEnter 13 6 x
    | 6 => if m.initDone then m.stepPass 6 x else m
    | 7 => if x.pass then m.stepPass 7 x else m.failS7 x
    | 8 =>
      let m := forEach (upTo 8) (fun e m => m.katResult e (x.pass || !bitN d e)) m
      if x.pass then m.stepPass 8 x else (m.degraded 8 jFail 1 d).bootEnter 13 9 x
    | 9 =>
      if x.pass then (if m.chn.disc.isSome then m else m.stepPass 9 x)
      else ((m.setDisc none).degraded 9 jFail 1 d).bootEnter 13 10 x
    | 10 =>
      if x.pass then m.endS10 x
      else if m.boot.attempt = 1 then (m.degraded 10 jAlt 1 d).boots (fun b => { b with attempt := 2, cfgAlt := true })
      else (m.journal 10 jFail m.boot.attempt d).enterRecovery
    | 11 => if m.fg HUB_STAT HUB_STAT_vbus_det == 1 then (m.journal 11 jPass 1 d).bootComplete else m
    | _ => m

def execBootStepComplete (r : BootRes) (s : State) : Host.Outcome State Fault Refusal := s.upd (·.bootStepEnd r)

/-- The processor faults (R427): channel 2 resets. -/
def execProcessorFault (s : State) : Host.Outcome State Fault Refusal :=
  s.upd (fun m => ({ m with cmd := { m.cmd with keyed := none } } : Mach).channelReset 2 2)

/-! ### The end of D4's entry for a warm-retain reset (R578) -/

def execDomainDrainDone (d : Fin 19) (ok : Bool) (s : State) : Host.Outcome State Fault Refusal :=
  .next (State.retainEnd { s with m := s.m.domainDrainDone d.val ok })

def execDomainEntryTimeout (d : Fin 19) (s : State) : Host.Outcome State Fault Refusal :=
  .next (State.retainEnd { s with m := s.m.domainEntryTimeout d.val })

/-! ### Core wake (R528) -/

/-- Core off is given up for a core wake event before the core die is powered down. -/
def Mach.coreOffAborted (m : Mach) : Mach :=
  match m.pwr.coreOff with
  | none => m
  | some c =>
    let m := forEach (upTo 15) (fun d m => match m.domMove d with | some x => if x.entering then m.domGiveUp d else m | none => m) m
    ({ m with pwr := { m.pwr with coreOff := none } }.countRefuser 0 dsOff c.arrival.val 0x01 true).refusedReply (some c) 0x01

/-- A core wake event with the core die on: every domain of the set comes ON. -/
def Mach.coreWoken (m : Mach) : Mach :=
  forEach (wakeSet (m.rg PWR_CORE_WAKE).toNat) (fun d m => if m.domOn d then m else m.domTurnOn d none) m.coreOffAborted

/-- The selection of core wake events that applies: Rind's copy while the core die is down (R527, R530). -/
def Mach.wakeWord (m : Mach) : Word := if m.pwr.off then m.pwr.wake else m.rg PWR_CORE_WAKE

def execCoreWakeEvent (waken : Bool) (s : State) : Host.Outcome State Fault Refusal :=
  if getF s.m.wakeWord (if waken then PWR_CORE_WAKE_waken else PWR_CORE_WAKE_smbus) = 0 then .next s
  else if s.m.pwr.off then .next (s.chipReset rsCoreWake 0 false)
  else .next { s with m := s.m.coreWoken }

/-! ### Journal and firmware -/

/-- JOURNAL_READ (R593). -/
def Mach.journalRead (m : Mach) (c : Cmd) : Mach :=
  m.serveCore c (cmdBare c && decide (c.p 14 2 ≤ 42)) (decide (c.b 8 ≤ 1)) fun m =>
    let l := if c.b 8 = 0 then m.boot.ram else m.boot.flash
    m.reply c stOk 0 (((l.reverse.drop (c.p 12 2)).take (c.p 14 2)).reverse.flatMap jBytes)

def execJournalRead (c : Cmd) (s : State) : Host.Outcome State Fault Refusal := s.upd (·.journalRead c)

/-- FW_WRITE (R396): not into the running slot. Its end is a FLASH_OP_DONE. (DEDUCED, log 30) -/
def Mach.fwWrite (m : Mach) (c : Cmd) : Mach :=
  let n := c.payload.length
  m.serveCore c (decide (4 ≤ n ∧ n ≤ 1024 ∧ c.p 12 4 + n ≤ 2 ^ 22)) (decide (c.b 8 ≤ 1)) fun m =>
    if m.boot.slot = some (fwSlot c) then m.reply c stBadState
    else (m.startRun { cmd := c }).boots (fun b => { b with fw := b.fw ++ [c] })

def execFwWrite (c : Cmd) (s : State) : Host.Outcome State Fault Refusal := s.upd (·.fwWrite c)

/-- A write or erase in flash ends (R305, R306): of a FW_WRITE, or of the training cache. (DEDUCED, log 30) -/
def execFlashOpDone (fw : Bool) (s : State) : Host.Outcome State Fault Refusal := s.upd (if fw then (·.fwDone) else (·.flashOpDone))

/-- FW_ACTIVATE is accepted: the trial mark is written, or the slot becomes active in recovery mode (R588). -/
def Mach.fwMark (m : Mach) (n : Nat) : Mach :=
  if m.inRecovery then m.boots (fun b => { b with active := n, trial := none })
  else if m.boot.slot = some n then m
  else m.boots (fun b => { b with trial := some n })

/-- The FW_ACTIVATE goes through to its reset. -/
def Mach.fwGoes (m : Mach) (c : Cmd) : Bool :=
  !m.boot.stop && !m.pwr.off && !m.cmd.gone.any (·.same c) && c.crcOk && cmdBare c && decide (c.b 8 ≤ 1)
    && (!m.inRecovery || recoveryServes c) && m.portOn false && m.authSlot (c.b 8) == 0

/-- FW_ACTIVATE (R588). (DEDUCED, log 30) -/
def Mach.fwActivate (m : Mach) (c : Cmd) : Mach :=
  m.serveCore c (cmdBare c) (decide (c.b 8 ≤ 1)) fun m =>
    let r := m.authSlot (c.b 8)
    let m := m.fs (JNL_SLOT (c.b 8)) JNL_SLOT_result r
    if r = 0 then (m.fwMark (c.b 8)).reply c stOk else m.reply c stBadState r

def execFwActivate (c : Cmd) (s : State) : Host.Outcome State Fault Refusal :=
  let t : State := { s with m := s.m.fwActivate c }
  .next (if s.m.fwGoes c && !s.m.boot.retaining then t.chipReset rsFwActivate 0 false else t)

end Sys2Proof.Machine
end

