-- ==== Sys2Proof/Machine/Smbus.lean ====
section
/-! DEFINITION. Channel 1: the SMBus slave of Rind (R405-R408), and the die link's return to service (R10), which hands over
what Rind held. -/

namespace Sys2Proof.Machine
open Reg

/-! ### The byte stream of channel 1 -/

/-- The core die takes segments: it is powered, not held in reset, and the die link is up. (DEDUCED, log 20) -/
def Mach.smbLink (m : Mach) : Bool := !m.coreDead && m.dl.inService

/-- Whole packets leave the byte stream up to the limits of R387; a bad header discards what is held. (DEDUCED, log 21) -/
def Mach.cutSmb : Nat → Mach → Mach
  | 0, m => m
  | k + 1, m =>
    let bs := m.cmd.part1
    if bs.length < 16 then m
    else if !headerOk bs then { m with cmd := { m.cmd with part1 := [] } }
    else if bs.length < packetLen bs || m.atLimit 1 (m.ownCmd 1 bs).urgent then m
    else
      let pk := bs.take (packetLen bs)
      let m := { m with cmd := { m.cmd with part1 := bs.drop (packetLen bs) } }
      cutSmb k (m.originTake 1 (m.ownCmd 1 pk))

/-- Bytes join the stream. -/
def Mach.smbTake (m : Mach) (bs : List Byte) : Mach :=
  let m := { m with cmd := { m.cmd with part1 := m.cmd.part1 ++ bs } }
  m.cutSmb (m.cmd.part1.length + 1)

/-- Bytes cross the die link as SMBUS packets (R8): over a quiet link within the step, else the core die takes them as their
packets arrive. (DEDUCED, log 19) -/
def Mach.smbCross (m : Mach) (bs : List Byte) : Mach :=
  if m.dl.quiet then (m.dlSegments .power bs).smbTake bs else m.dlSegments .power bs

/-- Rind cuts the commands out of what it takes, and switches VBUS off for an urgent PORT_POWER off of this hub (R402). What is
left is a partial command. (DEDUCED, log 21) -/
def Mach.rindCut : Nat → List Byte → Mach → Mach
  | 0, _, m => m
  | k + 1, bs, m =>
    if bs.length < 16 then { m with cmd := { m.cmd with rindPart := bs } }
    else if !headerOk bs then { m with cmd := { m.cmd with rindPart := [] } }
    else if bs.length < packetLen bs then { m with cmd := { m.cmd with rindPart := bs } }
    else
      let c := m.ownCmd 1 (bs.take (packetLen bs))
      let mine := match m.targetOf c with | .all => true | .self => true | _ => false
      let m := match portNo (c.b 8) with
        | some p => if c.crcOk && c.urgent && c.chan == 1#4 && c.opcode == 0x51#8 && urgentAllowed c && mine then m.swOffReq (.vbus p) else m
        | none => m
      rindCut k (bs.drop (packetLen bs)) m

/-- Rind takes a segment. -/
def Mach.rindTake (m : Mach) (bs : List Byte) : Mach :=
  let l := m.cmd.rindPart ++ bs
  m.rindCut (l.length + 1) l

/-- What Rind holds goes on over a link that is up (R408). -/
def Mach.rindPump (m : Mach) : Mach :=
  if m.smbLink && !m.cmd.rind.isEmpty then { m with cmd := { m.cmd with rind := [] } }.smbCross m.cmd.rind else m

/-- A segment that the limit of R406 lets in: the first of an urgent command, or any below the limit. (DEDUCED, log 21) -/
def Mach.smbMay (m : Mach) (bs : List Byte) : Bool :=
  !m.atLimit 1 false || (m.cmd.part1.isEmpty && decide (4 ≤ bs.length) && bitN (leAt bs 3 1) 4)

/-- A whole packet that may not be taken yet holds up the stream. (DEDUCED, log 21) -/
def Mach.smbBlocked (m : Mach) : Bool :=
  let bs := m.cmd.part1
  decide (16 ≤ bs.length) && decide (packetLen bs ≤ bs.length)

def Mach.smbAck (m : Mach) : Mach := m.emit .smbus [0]
def Mach.smbNack (m : Mach) : Mach := m.emit .smbus [1]

/-- A Block Write (R405-R408). (DEDUCED, log 21; DEDUCED, log 48) -/
def Mach.smbWrite (m : Mach) (bs : List Byte) (pecOk : Bool) : Mach :=
  if m.boot.stop || bs.isEmpty || decide (64 < bs.length) || !pecOk then m.smbNack
  else if !m.smbLink then
    if m.cmd.rind.length + bs.length ≤ 2048 then ({ m with cmd := { m.cmd with rind := m.cmd.rind ++ bs } }.rindTake bs).smbAck else m.smbNack
  else
    let m := m.rindPump
    let m := m.cutSmb (m.cmd.part1.length + 1)
    if m.smbBlocked || !m.smbMay bs then m.smbNack else ((m.rindTake bs).smbCross bs).smbAck

def execSmbusBlockWrite (bytes : List Byte) (pecOk : Bool) (s : State) : Host.Outcome State Fault Refusal := s.upd (·.smbWrite bytes pecOk)

/-! ### Replies -/

/-- Up to `n` bytes of reply data, with what is left of a reply that was not read whole. (DEDUCED, log 21) -/
def Mach.smbBytes : Nat → Nat → Mach → List Byte × Mach
  | 0, _, m => ([], m)
  | k + 1, n, m =>
    if n = 0 then ([], m)
    else if m.cmd.smbRead.isEmpty then
      match takePacket (m.q 49).words with
      | none => ([], m)
      | some (pk, rest) =>
        let m := m.qTake 49 rest
        let m := if pk.any (fun w => !w.parityOk) then m.queueBad 49 else { m with cmd := { m.cmd with smbRead := wordsBytes pk } }
        smbBytes k n (m.pumpHeld m.cmd.held.length 1)
    else
      let l := m.cmd.smbRead.take n
      let (l', m) := smbBytes k (n - l.length) { m with cmd := { m.cmd with smbRead := m.cmd.smbRead.drop n } }
      (l ++ l', m)

/-- A Block Read of at most 64 bytes; with the core die powered down Rind sends the reply to core off (R527). -/
def Mach.smbReadBlock (m : Mach) (n : Nat) : Mach :=
  if !m.smbLink then
    ({ m with cmd := { m.cmd with rindOut := m.cmd.rindOut.drop (min n 64) } } : Mach).emit .smbus [2] (m.cmd.rindOut.take (min n 64))
  else
    let (l, m) := Mach.smbBytes 130 (min n 64) m
    (m.dlSegments .core l).emit .smbus [2] l

def execSmbusBlockRead (n : Nat) (s : State) : Host.Outcome State Fault Refusal := s.upd (·.smbReadBlock n)

/-- Read Word: replies waiting, commands outstanding, a partial command. -/
def Mach.smbWord (m : Mach) : Mach :=
  let w := if m.smbLink then
      min 255 (m.q 49).packets + 256 * min 127 (m.outCount 1 false + m.outCount 1 true) + 2 ^ 15 * b2n (!m.cmd.part1.isEmpty)
    else b2n (!m.cmd.rindOut.isEmpty) + 2 ^ 15 * b2n (!m.cmd.rind.isEmpty)
  m.emit .smbus [2] (leBytes 2 w)

def execSmbusReadWord (s : State) : Host.Outcome State Fault Refusal := s.upd (·.smbWord)

/-- The whole packets that bytes begin with. -/
def wholePackets : Nat → List Byte → List Byte
  | 0, _ => []
  | k + 1, bs =>
    if bs.length < 16 || !headerOk bs || decide (bs.length < packetLen bs) then []
    else bs.take (packetLen bs) ++ wholePackets k (bs.drop (packetLen bs))

/-- A partial command is discarded, in the core die or in Rind. -/
def Mach.dropPart1 (m : Mach) : Mach :=
  { m with cmd := { m.cmd with rindPart := [], part1 := wholePackets (m.cmd.part1.length + 1) m.cmd.part1, rind := wholePackets (m.cmd.rind.length + 1) m.cmd.rind } }

/-- Send Byte. -/
def Mach.smbSend (m : Mach) : Mach :=
  let m := m.dropPart1
  { m with cmd := { m.cmd with smbRead := [], rindOut := [] } }.smbAck

def execSmbusSendByte (s : State) : Host.Outcome State Fault Refusal := s.upd (·.smbSend)

/-- SMBCLK low for more than 25 ms (R407): a reset of channel 1. -/
def Mach.smbTimeout (m : Mach) : Mach :=
  let m := m.dropPart1
  let m := { m with cmd := { m.cmd with smbRead := [], rindOut := [] } }
  if m.coreDead then m
  else
    let m := { m with cmd := { m.cmd with held := m.cmd.held.filter (fun e => e.1 != 1) } }
    (m.setQ 49 {}).channelReset 1 1

def execSmbusTimeout (s : State) : Host.Outcome State Fault Refusal := s.upd (·.smbTimeout)

/-! ### Packets of the die link that act (R8, R10) -/

/-- Change the first entry of a list that has a property. -/
def updFirst {α : Type} (p : α → Bool) (f : α → α) : List α → List α
  | [] => []
  | x :: l => if p x then f x :: l else x :: updFirst p f l

/-- The channel that an access came through. -/
def PdiWho.ch : PdiWho → Nat
  | .own a => a.ch.val
  | .cmd c => c.arrival.val
  | .gone => 0

/-- The access is the processor's own. -/
def PdiWho.direct : PdiWho → Bool
  | .own a => a.direct
  | _ => false

/-- The power die carries out the access of a REG_REQ: status, data, state. -/
def Mach.pdiDo (m : Mach) (guard : Nat) (who : PdiWho) (x : PdiAct) : Nat × Word × Mach :=
  match x.write with
  | none => m.readWord guard who.ch x.addr
  | some v => let (st, m) := m.writeWord guard (who.direct || who.ch == 2) x.keyed x.addr v 15; (st, 0, m)

/-- A REG_REQ reaches the power die: the access is carried out, and a REG_RSP goes back. -/
def Mach.pdiReqIn (m : Mach) (guard : Nat) : Mach :=
  match m.dl.reqs.find? (fun r => !r.reqs.isEmpty) with
  | none => m
  | some r => match r.reqs with
    | [] => m
    | x :: l =>
      let (st, v, m) := m.pdiDo guard r.who x
      let m := { m with dl := { m.dl with reqs := updFirst (fun r => !r.reqs.isEmpty) (fun r => { r with reqs := l, done := r.done ++ [(st, v)] }) m.dl.reqs } }
      m.dlSend .power 0x2 0 (regRspData st v)

/-- The words up to the first that was refused, and the status. -/
def gotWords : List (Nat × Word) → Nat × List Byte
  | [] => (stOk, [])
  | (st, v) :: l => if st = stOk then ((gotWords l).1, leBytes 4 v.toNat ++ (gotWords l).2) else (st, [])

/-- The answer to accesses whose results are all there. -/
def Mach.pdiAnswer (m : Mach) (who : PdiWho) (got : List (Nat × Word)) : Mach :=
  let st := ((got.find? (fun e => e.1 != stOk)).map (·.1)).getD stOk
  let v := (got.head?.map (·.2)).getD 0
  match who with
  | .own a => m.answer a st v.toNat
  | .cmd c =>
    if (m.findRun c).isNone then m
    else if c.opcode = 0x14#8 then m.reply c (gotWords got).1 0 (gotWords got).2
    else m.reply c st (if st = stOk ∧ (c.opcode = 0x10#8 ∨ c.opcode = 0x12#8) then f12 v.toNat else 0)
  | .gone => m

/-- The write of a REG_RMW, once what it read is there (R412). -/
def rmwWrite (who : PdiWho) (got : List (Nat × Word)) : Option PdiAct :=
  match who, got with
  | .cmd c, [(st, old)] =>
    let k : Word := BitVec.ofNat 32 (c.p 12 4)
    if c.opcode = 0x12#8 ∧ st = stOk then
      some { addr := c.p 8 3, write := some ((old &&& ~~~k) ||| (BitVec.ofNat 32 (leNat c.payload) &&& k)) }
    else none
  | _, _ => none

/-- A REG_RSP reaches the core die: the access it ends is answered once it has all its results. -/
def Mach.pdiRspIn (m : Mach) : Mach :=
  match m.dl.reqs.find? (fun r => !r.done.isEmpty) with
  | none => m
  | some r => match r.done with
    | [] => m
    | x :: l =>
      let r' := { r with done := l, got := r.got ++ [x] }
      let put := fun (m : Mach) (q : PdiReq) => { m with dl := { m.dl with reqs := updFirst (fun r => !r.done.isEmpty) (fun _ => q) m.dl.reqs } }
      if !r'.reqs.isEmpty || !l.isEmpty then put m r'
      else match rmwWrite r.who r'.got with
        | some w => (put m { r' with reqs := [w], writes := true }).dlSend .core 0x1 1 (regReqData w.addr w.write)
        | none => ({ m with dl := { m.dl with reqs := m.dl.reqs.erase r } }).pdiAnswer r.who r'.got

/-- What an accepted packet does at its end (R8): a REG_REQ at the power die, a REG_RSP or a segment at the core die. What
the others carry acts by the rows of its own kind. (DEDUCED, log 19) -/
def Mach.dlAct (guard : Nat) (e : DieEnd) (pk : DlPkt) (m : Mach) : Mach :=
  match e, pk.type.toNat with
  | .power, 0x1 => m.pdiReqIn guard
  | .core, 0x2 => if m.coreDead then m else m.pdiRspIn
  | .core, 0x5 => if m.coreDead then m else m.smbTake (segBytes (pk.spec.getLsbD 0) pk.data)
  | _, _ => m

/-- A die-link packet arrives (R9). -/
def execDielinkPacketRx (e : DieEnd) (pk : DlPkt) (s : State) : Host.Outcome State Fault Refusal :=
  s.upd (fun m => m.dlPacket e pk (Mach.dlAct s.guard.toNat e pk))

/-! ### The die link's return -/

/-- A write whose completion never arrived is answered BUSY (R10). -/
def Mach.pdiBusy (m : Mach) (who : PdiWho) : Mach :=
  match who with
  | .own a => m.answer a stBusy 0
  | .cmd c => if (m.findRun c).isNone then m else m.reply c stBusy
  | .gone => m

/-- The link is back (R10): held packets go out again, and each write whose completion never arrived is answered BUSY,
carried out before the reset or not. (DEDUCED, log 19) -/
def Mach.linkResynced (m : Mach) : Mach :=
  if m.coreDead || m.dl.inService then m
  else
    let lost := m.dl.reqs.filter (·.writes)
    let m := { m with dl := { m.dl with reqs := m.dl.reqs.map (fun (r : PdiReq) => if r.writes then { r with who := .gone } else r) } }
    (forEach lost (fun (r : PdiReq) (m : Mach) => m.pdiBusy r.who) m.dlInService).rindPump

def execDielinkResyncDone (s : State) : Host.Outcome State Fault Refusal := s.upd (·.linkResynced)

end Sys2Proof.Machine
end

