-- ==== Sys2Proof/Machine/Dispatch.lean ====
section
/-! DEFINITION. The dispatch: one arm per command, each a direct call of its meaning. -/

namespace Sys2Proof.Machine

def exec (i : Instr) (s : State) : Host.Outcome State Fault Refusal :=
  match i with
  | .dielinkPacketRx e pk => Sys2Proof.Machine.execDielinkPacketRx e pk s
  | .dielinkAckRx e seq => Sys2Proof.Machine.execDielinkAckRx e seq s
  | .dielinkNakRx e seq => Sys2Proof.Machine.execDielinkNakRx e seq s
  | .dielinkResyncDone => Sys2Proof.Machine.execDielinkResyncDone s
  | .dielinkEventRx ev => Sys2Proof.Machine.execDielinkEventRx ev s
  | .heartbeatSend => Sys2Proof.Machine.execHeartbeatSend s
  | .heartbeatRx count spec => Sys2Proof.Machine.execHeartbeatRx count spec s
  | .heartbeatLost => Sys2Proof.Machine.execHeartbeatLost s
  | .encoderEdge ch a b samples t => Sys2Proof.Machine.execEncoderEdge ch a b samples t s
  | .indexPulse ch level samples t => Sys2Proof.Machine.execIndexPulse ch level samples t s
  | .shaftRecordRx src r t => Sys2Proof.Machine.execShaftRecordRx src r t s
  | .recordOverdue t => Sys2Proof.Machine.execRecordOverdue t s
  | .camFirePredicted n t => Sys2Proof.Machine.execCamFirePredicted n t s
  | .camPulseEnd n => Sys2Proof.Machine.execCamPulseEnd n s
  | .plausCheck t => Sys2Proof.Machine.execPlausCheck t s
  | .sofLaunch p t => Sys2Proof.Machine.execSofLaunch p t s
  | .frameTimerInPhase => Sys2Proof.Machine.execFrameTimerInPhase s
  | .streamDefine c => Sys2Proof.Machine.execStreamDefine c s
  | .streamArm c => Sys2Proof.Machine.execStreamArm c s
  | .streamStart c => Sys2Proof.Machine.execStreamStart c s
  | .streamHalt c => Sys2Proof.Machine.execStreamHalt c s
  | .haltAll c => Sys2Proof.Machine.execHaltAll c s
  | .streamSwitch c => Sys2Proof.Machine.execStreamSwitch c s
  | .tableWrite c => Sys2Proof.Machine.execTableWrite c s
  | .tableFlip c => Sys2Proof.Machine.execTableFlip c s
  | .groupCancel a g => Sys2Proof.Machine.execGroupCancel a g s
  | .groupRevert a g => Sys2Proof.Machine.execGroupRevert a g s
  | .renCtrlWrite a v => Sys2Proof.Machine.execRenCtrlWrite a v s
  | .renCommitFrozen n => Sys2Proof.Machine.execRenCommitFrozen n s
  | .renCommitMissed n => Sys2Proof.Machine.execRenCommitMissed n s
  | .renEngineStart t => Sys2Proof.Machine.execRenEngineStart t s
  | .renDramData e st parityOk count t => Sys2Proof.Machine.execRenDramData e st parityOk count t s
  | .resyncCopyDone g => Sys2Proof.Machine.execResyncCopyDone g s
  | .renKatRun e pass => Sys2Proof.Machine.execRenKatRun e pass s
  | .presenceSample p dp dm => Sys2Proof.Machine.execPresenceSample p dp dm s
  | .portPower c => Sys2Proof.Machine.execPortPower c s
  | .vbusPowerGood p => Sys2Proof.Machine.execVbusPowerGood p s
  | .connectDetect p => Sys2Proof.Machine.execConnectDetect p s
  | .connectDebounceDone p => Sys2Proof.Machine.execConnectDebounceDone p s
  | .portResetDone p speed attached => Sys2Proof.Machine.execPortResetDone p speed attached s
  | .disconnectDetect p sub => Sys2Proof.Machine.execDisconnectDetect p sub s
  | .portReset c => Sys2Proof.Machine.execPortReset c s
  | .prtReset a p => Sys2Proof.Machine.execPrtReset a p s
  | .prtSuspend a p => Sys2Proof.Machine.execPrtSuspend a p s
  | .prtResume a p => Sys2Proof.Machine.execPrtResume a p s
  | .prtDisable a p => Sys2Proof.Machine.execPrtDisable a p s
  | .resumeDone p sub => Sys2Proof.Machine.execResumeDone p sub s
  | .deviceRemoteWake p => Sys2Proof.Machine.execDeviceRemoteWake p s
  | .babble p => Sys2Proof.Machine.execBabble p s
  | .portRole c => Sys2Proof.Machine.execPortRole c s
  | .roleChangeComplete p => Sys2Proof.Machine.execRoleChangeComplete p s
  | .enumTransferDone p sub r errs => Sys2Proof.Machine.execEnumTransferDone p sub r errs s
  | .enumTransferTimeout p sub errs => Sys2Proof.Machine.execEnumTransferTimeout p sub errs s
  | .slotApply a p => Sys2Proof.Machine.execSlotApply a p s
  | .slotCopy p t => Sys2Proof.Machine.execSlotCopy p t s
  | .microframeStart p upset t => Sys2Proof.Machine.execMicroframeStart p upset t s
  | .playoutItemArrive p item parityOk t => Sys2Proof.Machine.execPlayoutItemArrive p item parityOk t s
  | .transactionComplete p pipe res t => Sys2Proof.Machine.execTransactionComplete p pipe res t s
  | .playoutDeadlinePass p t => Sys2Proof.Machine.execPlayoutDeadlinePass p t s
  | .quarantineEnd p addr => Sys2Proof.Machine.execQuarantineEnd p addr s
  | .portKatRun p pass => Sys2Proof.Machine.execPortKatRun p pass s
  | .playingTimeout p t => Sys2Proof.Machine.execPlayingTimeout p t s
  | .xbarCellEnqueue input cell groupOk => Sys2Proof.Machine.execXbarCellEnqueue input cell groupOk s
  | .xbarCellDeliver input output cls parityOk dstOk bufOk => Sys2Proof.Machine.execXbarCellDeliver input output cls parityOk dstOk bufOk s
  | .creditReturn output pool n => Sys2Proof.Machine.execCreditReturn output pool n s
  | .packetLockTimeout output cls => Sys2Proof.Machine.execPacketLockTimeout output cls s
  | .queueWordWrite q w last bytes bad => Sys2Proof.Machine.execQueueWordWrite q w last bytes bad s
  | .queDataRead a q => Sys2Proof.Machine.execQueDataRead a q s
  | .queueStale q => Sys2Proof.Machine.execQueueStale q s
  | .reportForward p => Sys2Proof.Machine.execReportForward p s
  | .tapObserve n pk => Sys2Proof.Machine.execTapObserve n pk s
  | .wtpEnable a n v => Sys2Proof.Machine.execWtpEnable a n v s
  | .dramRequestArrive p => Sys2Proof.Machine.execDramRequestArrive p s
  | .frontArbGrant t => Sys2Proof.Machine.execFrontArbGrant t s
  | .quotaWindowEnd => Sys2Proof.Machine.execQuotaWindowEnd s
  | .bankScheduleStart openRows ready t => Sys2Proof.Machine.execBankScheduleStart openRows ready t s
  | .dramRequestComplete slot ecc track t => Sys2Proof.Machine.execDramRequestComplete slot ecc track t s
  | .arbHang slot done => Sys2Proof.Machine.execArbHang slot done s
  | .refreshDue rank rfm => Sys2Proof.Machine.execRefreshDue rank rfm s
  | .retrainRound rank moves => Sys2Proof.Machine.execRetrainRound rank moves s
  | .tempEstimate junction devs => Sys2Proof.Machine.execTempEstimate junction devs s
  | .dramAlert rank burst => Sys2Proof.Machine.execDramAlert rank burst s
  | .patrolScrubRead ecc counts track t => Sys2Proof.Machine.execPatrolScrubRead ecc counts track t s
  | .dmcEcsNow a counts => Sys2Proof.Machine.execDmcEcsNow a counts s
  | .memEngineStart => Sys2Proof.Machine.execMemEngineStart s
  | .eccInitDone => Sys2Proof.Machine.execEccInitDone s
  | .trainingSubstepDone r => Sys2Proof.Machine.execTrainingSubstepDone r s
  | .flashOpDone fw => Sys2Proof.Machine.execFlashOpDone fw s
  | .dpyInvalidate a => Sys2Proof.Machine.execDpyInvalidate a s
  | .dpyMarkClear a => Sys2Proof.Machine.execDpyMarkClear a s
  | .hubCtrlWrite a v => Sys2Proof.Machine.execHubCtrlWrite a v s
  | .vbusDetFall cut => Sys2Proof.Machine.execVbusDetFall cut s
  | .vbusDetStable => Sys2Proof.Machine.execVbusDetStable s
  | .upBusReset highSpeed cut => Sys2Proof.Machine.execUpBusReset highSpeed cut s
  | .getHubStatus => Sys2Proof.Machine.execGetHubStatus s
  | .clearHubFeature overCurrent => Sys2Proof.Machine.execClearHubFeature overCurrent s
  | .getPortStatus n => Sys2Proof.Machine.execGetPortStatus n s
  | .setPortFeaturePower n => Sys2Proof.Machine.execSetPortFeaturePower n s
  | .setPortFeatureReset n cut => Sys2Proof.Machine.execSetPortFeatureReset n cut s
  | .setPortFeatureSuspend n => Sys2Proof.Machine.execSetPortFeatureSuspend n s
  | .setPortFeatureTest n sel => Sys2Proof.Machine.execSetPortFeatureTest n sel s
  | .clearPortFeature n f => Sys2Proof.Machine.execClearPortFeature n f s
  | .portIndicatorRequest => Sys2Proof.Machine.execPortIndicatorRequest s
  | .getHubDescriptor what => Sys2Proof.Machine.execGetHubDescriptor what s
  | .unsupportedHubRequest => Sys2Proof.Machine.execUnsupportedHubRequest s
  | .clearTtBuffer tt dev ep isIn => Sys2Proof.Machine.execClearTtBuffer tt dev ep isIn s
  | .resetTt tt => Sys2Proof.Machine.execResetTt tt s
  | .setAddressObserved addr => Sys2Proof.Machine.execSetAddressObserved addr s
  | .setConfiguration hub value iface => Sys2Proof.Machine.execSetConfiguration hub value iface s
  | .clearFeatureEndpointHalt ep => Sys2Proof.Machine.execClearFeatureEndpointHalt ep s
  | .hsPacketRepeat pk => Sys2Proof.Machine.execHsPacketRepeat pk s
  | .ttStartSplit x => Sys2Proof.Machine.execTtStartSplit x s
  | .upIdleSuspend => Sys2Proof.Machine.execUpIdleSuspend s
  | .hubRemoteWake source hostK => Sys2Proof.Machine.execHubRemoteWake source hostK s
  | .hostResume during => Sys2Proof.Machine.execHostResume during s
  | .lpmTransaction hub linkState rwake => Sys2Proof.Machine.execLpmTransaction hub linkState rwake s
  | .cmdOutRx bytes ping t => Sys2Proof.Machine.execCmdOutRx bytes ping t s
  | .replyInAck => Sys2Proof.Machine.execReplyInAck s
  | .notifyReady => Sys2Proof.Machine.execNotifyReady s
  | .notifyIn => Sys2Proof.Machine.execNotifyIn s
  | .streamOutPacket bytes ping => Sys2Proof.Machine.execStreamOutPacket bytes ping s
  | .streamInPacket bufOk => Sys2Proof.Machine.execStreamInPacket bufOk s
  | .getCmfInfo => Sys2Proof.Machine.execGetCmfInfo s
  | .submit bytes => Sys2Proof.Machine.execSubmit bytes s
  | .cmfResync => Sys2Proof.Machine.execCmfResync s
  | .nop c => Sys2Proof.Machine.execNop c s
  | .echo c => Sys2Proof.Machine.execEcho c s
  | .regRd c => Sys2Proof.Machine.execRegRd c s
  | .regWr c => Sys2Proof.Machine.execRegWr c s
  | .regRmw c => Sys2Proof.Machine.execRegRmw c s
  | .regWrKeyed c => Sys2Proof.Machine.execRegWrKeyed c s
  | .regRdBlock c => Sys2Proof.Machine.execRegRdBlock c s
  | .memRd c => Sys2Proof.Machine.execMemRd c s
  | .memWr c => Sys2Proof.Machine.execMemWr c s
  | .memFill c => Sys2Proof.Machine.execMemFill c s
  | .memCrc c => Sys2Proof.Machine.execMemCrc c s
  | .memStreamSet c => Sys2Proof.Machine.execMemStreamSet c s
  | .cmdDramReply w st data => Sys2Proof.Machine.execCmdDramReply w st data s
  | .moduleList c => Sys2Proof.Machine.execModuleList c s
  | .lockAcquire c => Sys2Proof.Machine.execLockAcquire c s
  | .lockRelease c => Sys2Proof.Machine.execLockRelease c s
  | .cfgCommit c => Sys2Proof.Machine.execCfgCommit c s
  | .faultRead c => Sys2Proof.Machine.execFaultRead c s
  | .faultAck c => Sys2Proof.Machine.execFaultAck c s
  | .proofTest c => Sys2Proof.Machine.execProofTest c s
  | .proofTestEnd outcome time hoops engines ports => Sys2Proof.Machine.execProofTestEnd outcome time hoops engines ports s
  | .domainSet c wake => Sys2Proof.Machine.execDomainSet c wake s
  | .domainStatus c => Sys2Proof.Machine.execDomainStatus c s
  | .journalRead c => Sys2Proof.Machine.execJournalRead c s
  | .fwWrite c => Sys2Proof.Machine.execFwWrite c s
  | .fwActivate c => Sys2Proof.Machine.execFwActivate c s
  | .abort c => Sys2Proof.Machine.execAbort c s
  | .chainDiscover c => Sys2Proof.Machine.execChainDiscover c s
  | .timeStatus c => Sys2Proof.Machine.execTimeStatus c s
  | .commandPendingTimeout c => Sys2Proof.Machine.execCommandPendingTimeout c s
  | .replyAtOrigin r => Sys2Proof.Machine.execReplyAtOrigin r s
  | .smbusBlockWrite bytes pecOk => Sys2Proof.Machine.execSmbusBlockWrite bytes pecOk s
  | .smbusBlockRead n => Sys2Proof.Machine.execSmbusBlockRead n s
  | .smbusReadWord => Sys2Proof.Machine.execSmbusReadWord s
  | .smbusSendByte => Sys2Proof.Machine.execSmbusSendByte s
  | .smbusTimeout => Sys2Proof.Machine.execSmbusTimeout s
  | .regWrite a addr v be => Sys2Proof.Machine.execRegWrite a addr v be s
  | .regPairLoRead a addr => Sys2Proof.Machine.execRegPairLoRead a addr s
  | .keyedStoreTimeout => Sys2Proof.Machine.execKeyedStoreTimeout s
  | .regmodeExpiry => Sys2Proof.Machine.execRegmodeExpiry s
  | .lockHoldTimeout n => Sys2Proof.Machine.execLockHoldTimeout n s
  | .tallySweep => Sys2Proof.Machine.execTallySweep s
  | .tallyCommitTimeout idx => Sys2Proof.Machine.execTallyCommitTimeout idx s
  | .chnCtrlWrite a v => Sys2Proof.Machine.execChnCtrlWrite a v s
  | .linkTrained k nbrNode nbrPort => Sys2Proof.Machine.execLinkTrained k nbrNode nbrPort s
  | .linkLoss k => Sys2Proof.Machine.execLinkLoss k s
  | .linkQuietEnd k => Sys2Proof.Machine.execLinkQuietEnd k s
  | .flitRx k f t => Sys2Proof.Machine.execFlitRx k f t s
  | .flitNakRx k seq => Sys2Proof.Machine.execFlitNakRx k seq s
  | .chainPacketRx k bufOk => Sys2Proof.Machine.execChainPacketRx k bufOk s
  | .syncSend t => Sys2Proof.Machine.execSyncSend t s
  | .syncRx k ts offset t => Sys2Proof.Machine.execSyncRx k ts offset t s
  | .delayReqSend t half => Sys2Proof.Machine.execDelayReqSend t half s
  | .delayReqRx k t2 t3 => Sys2Proof.Machine.execDelayReqRx k t2 t3 s
  | .delayRespRx k t2 t3 t4 => Sys2Proof.Machine.execDelayRespRx k t2 t3 t4 s
  | .syncAgeExpiry t => Sys2Proof.Machine.execSyncAgeExpiry t s
  | .alertRx k node source => Sys2Proof.Machine.execAlertRx k node source s
  | .proofAlertAckRx node => Sys2Proof.Machine.execProofAlertAckRx node s
  | .chanResetRx k node chan => Sys2Proof.Machine.execChanResetRx k node chan s
  | .probeRx k root run => Sys2Proof.Machine.execProbeRx k root run s
  | .reportRx x => Sys2Proof.Machine.execReportRx x s
  | .topologyRx x => Sys2Proof.Machine.execTopologyRx x s
  | .activateRx => Sys2Proof.Machine.execActivateRx s
  | .discoveryTimeout => Sys2Proof.Machine.execDiscoveryTimeout s
  | .linkDownRx => Sys2Proof.Machine.execLinkDownRx s
  | .routeTimeout => Sys2Proof.Machine.execRouteTimeout s
  | .hoopOn a k => Sys2Proof.Machine.execHoopOn a k s
  | .hoopOff a k => Sys2Proof.Machine.execHoopOff a k s
  | .hoopInrushDone k => Sys2Proof.Machine.execHoopInrushDone k s
  | .hoopInrushTimeout k => Sys2Proof.Machine.execHoopInrushTimeout k s
  | .hoopPowerGood k => Sys2Proof.Machine.execHoopPowerGood k s
  | .switchLimitEngage w => Sys2Proof.Machine.execSwitchLimitEngage w s
  | .switchLimitClean w => Sys2Proof.Machine.execSwitchLimitClean w s
  | .faultTimerExpiry w => Sys2Proof.Machine.execFaultTimerExpiry w s
  | .vbusThermalTrip p => Sys2Proof.Machine.execVbusThermalTrip p s
  | .vinUvTrip k => Sys2Proof.Machine.execVinUvTrip k s
  | .supplyFault n high => Sys2Proof.Machine.execSupplyFault n high s
  | .supplyRecover n => Sys2Proof.Machine.execSupplyRecover n s
  | .holdoffEnd w => Sys2Proof.Machine.execHoldoffEnd w s
  | .safeStopAssert => Sys2Proof.Machine.execSafeStopAssert s
  | .safeStopRelease => Sys2Proof.Machine.execSafeStopRelease s
  | .domainDrainDone d ok => Sys2Proof.Machine.execDomainDrainDone d ok s
  | .domainEntryTimeout d => Sys2Proof.Machine.execDomainEntryTimeout d s
  | .domainExitDone d temp => Sys2Proof.Machine.execDomainExitDone d temp s
  | .domainWakeSource d src => Sys2Proof.Machine.execDomainWakeSource d src s
  | .islandIdleEntry d n => Sys2Proof.Machine.execIslandIdleEntry d n s
  | .islandSleepEntry d n => Sys2Proof.Machine.execIslandSleepEntry d n s
  | .islandWordArrive d n => Sys2Proof.Machine.execIslandWordArrive d n s
  | .vcoreAssistChange mv => Sys2Proof.Machine.execVcoreAssistChange mv s
  | .coreWakeEvent waken => Sys2Proof.Machine.execCoreWakeEvent waken s
  | .faultRaise source detail => Sys2Proof.Machine.execFaultRaise source detail s
  | .graceTimerExpiry g => Sys2Proof.Machine.execGraceTimerExpiry g s
  | .fltHandled a v => Sys2Proof.Machine.execFltHandled a v s
  | .fltAckWrite a v => Sys2Proof.Machine.execFltAckWrite a v s
  | .fltRelease a => Sys2Proof.Machine.execFltRelease a s
  | .collectorMismatch => Sys2Proof.Machine.execCollectorMismatch s
  | .aliveToggle => Sys2Proof.Machine.execAliveToggle s
  | .fltInj a v => Sys2Proof.Machine.execFltInj a v s
  | .factoryToken token inTime => Sys2Proof.Machine.execFactoryToken token inTime s
  | .powerOnReset straps => Sys2Proof.Machine.execPowerOnReset straps s
  | .coldReset straps lowNs => Sys2Proof.Machine.execColdReset straps lowNs s
  | .jnlResetWarm a confirm => Sys2Proof.Machine.execJnlResetWarm a confirm s
  | .jnlResetWarmRetain a confirm => Sys2Proof.Machine.execJnlResetWarmRetain a confirm s
  | .watchdogExpiry => Sys2Proof.Machine.execWatchdogExpiry s
  | .watchdogKick a => Sys2Proof.Machine.execWatchdogKick a s
  | .bootStepComplete r => Sys2Proof.Machine.execBootStepComplete r s
  | .alertNEnd rank => Sys2Proof.Machine.execAlertNEnd rank s
  | .processorFault => Sys2Proof.Machine.execProcessorFault s
  | .debugPortAccess rank on => Sys2Proof.Machine.execDebugPortAccess rank on s
  | .refreshComplete rank => Sys2Proof.Machine.execRefreshComplete rank s
  | .setFeatureDeviceRemoteWakeup hub on => Sys2Proof.Machine.execSetFeatureDeviceRemoteWakeup hub on s
  | .setAddress hub addr => Sys2Proof.Machine.execSetAddress hub addr s

end Sys2Proof.Machine
end

