-- ==== Sys2Proof/Machine/Step.lean ====
section
/-! DEFINITION. One step of the block: the command at the front of the queue runs, with the queue's rest. -/

namespace Sys2Proof.Machine

/-- One idle cycle of the 200 MHz shaft clock: chain time counts 5 ns once it runs (R37). (DESIGN CHOICE, log 3) -/
def idle (s : State) : State :=
  { s with m := { s.m with ctime := if s.m.running then (s.m.ctime + 5) % 2 ^ 64 else s.m.ctime } }

/-- The step: take the front command, run it on the state with the queue's rest; an empty queue lets one cycle pass. (DESIGN CHOICE, log 3; DESIGN CHOICE, log 9) -/
def step (s : State) : Host.Outcome State Fault Refusal :=
  match s.pending with
  | [] => .next (idle s)
  | c :: rest => exec c { s with pending := rest }

/-- The table gives no row a word, so no word spells a command and the state stays as it is. (DESIGN CHOICE, log 9) -/
def State.withFetchWord (s : State) (nbits w : Nat) : State :=
  match decodeTableWord nbits w with
  | none => s
  | some c => { s with pending := c :: s.pending }

end Sys2Proof.Machine
end

