-- ==== Sys2Proof/Safety.lean ====
section
/-! DEFINITION. What statements say of the block: the canonical form of the DRAM, what a step keeps, and the parts of the
state a command leaves alone. -/

namespace Sys2Proof.Machine

/-- The DRAM contents are in their canonical form: addresses strictly rising, no listed byte 0. -/
def Memory.wf (s : State) : Bool := spWf (fun _ => 0) s.dram

/-- A step that answers does not stop the block with a fault. -/
def Safe (s : State) : Prop := ∀ f, step s ≠ .fault f

/-- The command leaves the DRAM, the reset-only lock bits and the queue of commands as they are. -/
def KeepsRest (s t : State) : Prop := t.dram = s.dram ∧ t.guard = s.guard ∧ t.pending = s.pending

/-- A register access of a whole word reaches its register: the core die runs, recovery mode serves it, checks 1 to 3 of R411
pass (`wr` marks a write), and no store of the processor is held (R422). -/
def Reaches (s : State) (a : Acc) (addr : Nat) (wr : Bool) : Prop :=
  s.m.coreDead = false ∧ s.m.accBarred a addr = false ∧
    s.m.accessGate a.ch.val a.direct addr (if wr then some 15 else none) = none ∧ (a.direct = true → s.m.cmd.keyed = none)

/-- A step answers with a change of the machine part alone: the DRAM, the lock bits and the queue stay. -/
def Quiet (s : State) (o : Host.Outcome State Fault Refusal) : Prop := ∃ m : Mach, o = .next { s with m := m }

/-- The chip has been reset and its boot has begun (R576). -/
def Restarted (t : State) : Prop := t.guard = 0 ∧ t.m.boot.done = false ∧ (t.m.boot.step = some 0 ∨ t.m.boot.step = some 1)

/-- The rows that write the DRAM. -/
def writesDram : Instr → Bool
  | .dramRequestComplete .. => true
  | .arbHang .. => true
  | .retrainRound .. => true
  | .eccInitDone => true
  | _ => false

/-- The rows that write a register by its address, or one register of their own, through the register port. -/
def writesRegister : Instr → Bool
  | .regWr .. => true
  | .regRmw .. => true
  | .regWrKeyed .. => true
  | .regWrite .. => true
  | .groupCancel .. => true
  | .groupRevert .. => true
  | .renCtrlWrite .. => true
  | .prtReset .. => true
  | .prtSuspend .. => true
  | .prtResume .. => true
  | .prtDisable .. => true
  | .slotApply .. => true
  | .wtpEnable .. => true
  | .dmcEcsNow .. => true
  | .dpyInvalidate .. => true
  | .dpyMarkClear .. => true
  | .hubCtrlWrite .. => true
  | .chnCtrlWrite .. => true
  | .hoopOn .. => true
  | .hoopOff .. => true
  | .fltHandled .. => true
  | .fltAckWrite .. => true
  | .fltRelease .. => true
  | .fltInj .. => true
  | .jnlResetWarm .. => true
  | .jnlResetWarmRetain .. => true
  | .watchdogKick .. => true
  | _ => false

/-- The rows that may fire a cam channel at once. -/
def firesCams : Instr → Bool
  | .encoderEdge .. => true
  | .shaftRecordRx .. => true
  | .camFirePredicted .. => true
  | _ => false

/-- The rows that may reset the chip, beside a write of JNL_RESET. -/
def resetsChip : Instr → Bool
  | .powerOnReset .. => true
  | .coldReset .. => true
  | .watchdogExpiry => true
  | .coreWakeEvent .. => true
  | .fwActivate .. => true
  | .domainDrainDone .. => true
  | .domainEntryTimeout .. => true
  | _ => false

/-- The power domain of the block behind the crossbar that executes the row's command (R16): D5 of Rennet, D4 of the memory
engine, D2 of the stream endpoints; none where the command never waits for a domain. -/
def blockDomain : Instr → Option Nat
  | .streamDefine _ => some 5
  | .streamArm _ => some 5
  | .streamStart _ => some 5
  | .streamHalt _ => some 5
  | .streamSwitch _ => some 5
  | .tableWrite _ => some 5
  | .tableFlip _ => some 5
  | .memFill _ => some 4
  | .memCrc _ => some 4
  | .memStreamSet _ => some 2
  | _ => none

end Sys2Proof.Machine
end

