-- ==== Sys2Proof/WellFormed.lean ====
section
/-! DEFINITION. Which commands are well formed: the operand values that the spec gives the row's packet, cell, flit or item
a form for. A command packet carries its row's opcode (R393). -/

namespace Sys2Proof

/-- A command packet that can exist: payload of at most 1,024 bytes, origin channel 0-2 (R382, R385). -/
def Cmd.wf (c : Cmd) : Bool := decide (c.payload.length ≤ 1024) && decide (c.chan.toNat ≤ 2)

/-- A command packet of an opcode. -/
def Cmd.wfAs (c : Cmd) (code : Nat) : Bool := c.wf && c.opcode.toNat == code

/-- A reply packet that can exist (R384). -/
def ReplyPkt.wf (r : ReplyPkt) : Bool := decide (r.payload.length ≤ 1024) && decide (r.chan.toNat ≤ 2)

/-- A die-link packet of 1 to 9 transfers whose length field says so (R8). -/
def DlPkt.wf (p : DlPkt) : Bool := decide (p.data.length ≤ 8) && p.len.toNat == 1 + p.data.length

/-- A cell for one of the crossbar's 57 outputs with at most 64 data bytes (R193). -/
def CellIn.wf (c : CellIn) : Bool := decide (c.data.length ≤ 64)

/-- A report of a hub's four chain ports (R467). -/
def DiscMsg.wf : DiscMsg → Bool
  | .report r => r.ports.length == 4
  | .answer _ => true

/-- A work item is as long as its body length says, 1 to 64 bytes of body (R74). -/
def itemWf (item : List Byte) : Bool :=
  match item.drop 20 with
  | lo :: hi :: _ => hi == 0#8 && decide (1 ≤ lo.toNat ∧ lo.toNat ≤ 64) && item.length == 28 + lo.toNat
  | _ => false

/-- The command packet that a row carries out. -/
def Instr.cmd : Instr → Option Cmd
  | .dielinkPacketRx _ _ => none
  | .dielinkAckRx _ _ => none
  | .dielinkNakRx _ _ => none
  | .dielinkResyncDone => none
  | .dielinkEventRx _ => none
  | .heartbeatSend => none
  | .heartbeatRx _ _ => none
  | .heartbeatLost => none
  | .encoderEdge _ _ _ _ _ => none
  | .indexPulse _ _ _ _ => none
  | .shaftRecordRx _ _ _ => none
  | .recordOverdue _ => none
  | .camFirePredicted _ _ => none
  | .camPulseEnd _ => none
  | .plausCheck _ => none
  | .sofLaunch _ _ => none
  | .frameTimerInPhase => none
  | .streamDefine c => some c
  | .streamArm c => some c
  | .streamStart c => some c
  | .streamHalt c => some c
  | .haltAll c => some c
  | .streamSwitch c => some c
  | .tableWrite c => some c
  | .tableFlip c => some c
  | .groupCancel _ _ => none
  | .groupRevert _ _ => none
  | .renCtrlWrite _ _ => none
  | .renCommitFrozen _ => none
  | .renCommitMissed _ => none
  | .renEngineStart _ => none
  | .renDramData _ _ _ _ _ => none
  | .resyncCopyDone _ => none
  | .renKatRun _ _ => none
  | .presenceSample _ _ _ => none
  | .portPower c => some c
  | .vbusPowerGood _ => none
  | .connectDetect _ => none
  | .connectDebounceDone _ => none
  | .portResetDone _ _ _ => none
  | .disconnectDetect _ _ => none
  | .portReset c => some c
  | .prtReset _ _ => none
  | .prtSuspend _ _ => none
  | .prtResume _ _ => none
  | .prtDisable _ _ => none
  | .resumeDone _ _ => none
  | .deviceRemoteWake _ => none
  | .babble _ => none
  | .portRole c => some c
  | .roleChangeComplete _ => none
  | .enumTransferDone _ _ _ _ => none
  | .enumTransferTimeout _ _ _ => none
  | .slotApply _ _ => none
  | .slotCopy _ _ => none
  | .microframeStart _ _ _ => none
  | .playoutItemArrive _ _ _ _ => none
  | .transactionComplete _ _ _ _ => none
  | .playoutDeadlinePass _ _ => none
  | .quarantineEnd _ _ => none
  | .portKatRun _ _ => none
  | .playingTimeout _ _ => none
  | .xbarCellEnqueue _ _ _ => none
  | .xbarCellDeliver _ _ _ _ _ _ => none
  | .creditReturn _ _ _ => none
  | .packetLockTimeout _ _ => none
  | .queueWordWrite _ _ _ _ _ => none
  | .queDataRead _ _ => none
  | .queueStale _ => none
  | .reportForward _ => none
  | .tapObserve _ _ => none
  | .wtpEnable _ _ _ => none
  | .dramRequestArrive _ => none
  | .frontArbGrant _ => none
  | .quotaWindowEnd => none
  | .bankScheduleStart _ _ _ => none
  | .dramRequestComplete _ _ _ _ => none
  | .arbHang _ _ => none
  | .refreshDue _ _ => none
  | .retrainRound _ _ => none
  | .tempEstimate _ _ => none
  | .dramAlert _ _ => none
  | .patrolScrubRead _ _ _ _ => none
  | .dmcEcsNow _ _ => none
  | .memEngineStart => none
  | .eccInitDone => none
  | .trainingSubstepDone _ => none
  | .flashOpDone _ => none
  | .dpyInvalidate _ => none
  | .dpyMarkClear _ => none
  | .hubCtrlWrite _ _ => none
  | .vbusDetFall _ => none
  | .vbusDetStable => none
  | .upBusReset _ _ => none
  | .getHubStatus => none
  | .clearHubFeature _ => none
  | .getPortStatus _ => none
  | .setPortFeaturePower _ => none
  | .setPortFeatureReset _ _ => none
  | .setPortFeatureSuspend _ => none
  | .setPortFeatureTest _ _ => none
  | .clearPortFeature _ _ => none
  | .portIndicatorRequest => none
  | .getHubDescriptor _ => none
  | .unsupportedHubRequest => none
  | .clearTtBuffer _ _ _ _ => none
  | .resetTt _ => none
  | .setAddressObserved _ => none
  | .setConfiguration _ _ _ => none
  | .clearFeatureEndpointHalt _ => none
  | .hsPacketRepeat _ => none
  | .ttStartSplit _ => none
  | .upIdleSuspend => none
  | .hubRemoteWake _ _ => none
  | .hostResume _ => none
  | .lpmTransaction _ _ _ => none
  | .cmdOutRx _ _ _ => none
  | .replyInAck => none
  | .notifyReady => none
  | .notifyIn => none
  | .streamOutPacket _ _ => none
  | .streamInPacket _ => none
  | .getCmfInfo => none
  | .submit _ => none
  | .cmfResync => none
  | .nop c => some c
  | .echo c => some c
  | .regRd c => some c
  | .regWr c => some c
  | .regRmw c => some c
  | .regWrKeyed c => some c
  | .regRdBlock c => some c
  | .memRd c => some c
  | .memWr c => some c
  | .memFill c => some c
  | .memCrc c => some c
  | .memStreamSet c => some c
  | .cmdDramReply _ _ _ => none
  | .moduleList c => some c
  | .lockAcquire c => some c
  | .lockRelease c => some c
  | .cfgCommit c => some c
  | .faultRead c => some c
  | .faultAck c => some c
  | .proofTest c => some c
  | .proofTestEnd _ _ _ _ _ => none
  | .domainSet c _ => some c
  | .domainStatus c => some c
  | .journalRead c => some c
  | .fwWrite c => some c
  | .fwActivate c => some c
  | .abort c => some c
  | .chainDiscover c => some c
  | .timeStatus c => some c
  | .commandPendingTimeout _ => none
  | .replyAtOrigin _ => none
  | .smbusBlockWrite _ _ => none
  | .smbusBlockRead _ => none
  | .smbusReadWord => none
  | .smbusSendByte => none
  | .smbusTimeout => none
  | .regWrite _ _ _ _ => none
  | .regPairLoRead _ _ => none
  | .keyedStoreTimeout => none
  | .regmodeExpiry => none
  | .lockHoldTimeout _ => none
  | .tallySweep => none
  | .tallyCommitTimeout _ => none
  | .chnCtrlWrite _ _ => none
  | .linkTrained _ _ _ => none
  | .linkLoss _ => none
  | .linkQuietEnd _ => none
  | .flitRx _ _ _ => none
  | .flitNakRx _ _ => none
  | .chainPacketRx _ _ => none
  | .syncSend _ => none
  | .syncRx _ _ _ _ => none
  | .delayReqSend _ _ => none
  | .delayReqRx _ _ _ => none
  | .delayRespRx _ _ _ _ => none
  | .syncAgeExpiry _ => none
  | .alertRx _ _ _ => none
  | .proofAlertAckRx _ => none
  | .chanResetRx _ _ _ => none
  | .probeRx _ _ _ => none
  | .reportRx _ => none
  | .topologyRx _ => none
  | .activateRx => none
  | .discoveryTimeout => none
  | .linkDownRx => none
  | .routeTimeout => none
  | .hoopOn _ _ => none
  | .hoopOff _ _ => none
  | .hoopInrushDone _ => none
  | .hoopInrushTimeout _ => none
  | .hoopPowerGood _ => none
  | .switchLimitEngage _ => none
  | .switchLimitClean _ => none
  | .faultTimerExpiry _ => none
  | .vbusThermalTrip _ => none
  | .vinUvTrip _ => none
  | .supplyFault _ _ => none
  | .supplyRecover _ => none
  | .holdoffEnd _ => none
  | .safeStopAssert => none
  | .safeStopRelease => none
  | .domainDrainDone _ _ => none
  | .domainEntryTimeout _ => none
  | .domainExitDone _ _ => none
  | .domainWakeSource _ _ => none
  | .islandIdleEntry _ _ => none
  | .islandSleepEntry _ _ => none
  | .islandWordArrive _ _ => none
  | .vcoreAssistChange _ => none
  | .coreWakeEvent _ => none
  | .faultRaise _ _ => none
  | .graceTimerExpiry _ => none
  | .fltHandled _ _ => none
  | .fltAckWrite _ _ => none
  | .fltRelease _ => none
  | .collectorMismatch => none
  | .aliveToggle => none
  | .fltInj _ _ => none
  | .factoryToken _ _ => none
  | .powerOnReset _ => none
  | .coldReset _ _ => none
  | .jnlResetWarm _ _ => none
  | .jnlResetWarmRetain _ _ => none
  | .watchdogExpiry => none
  | .watchdogKick _ => none
  | .bootStepComplete _ => none
  | .alertNEnd _ => none
  | .processorFault => none
  | .debugPortAccess _ _ => none
  | .refreshComplete _ => none
  | .setFeatureDeviceRemoteWakeup _ _ => none
  | .setAddress _ _ => none

/-- A command is well formed. -/
def Instr.wf : Instr → Bool
  | .dielinkPacketRx _ pk => pk.wf
  | .dielinkAckRx _ _ => true
  | .dielinkNakRx _ _ => true
  | .dielinkResyncDone => true
  | .dielinkEventRx _ => true
  | .heartbeatSend => true
  | .heartbeatRx _ _ => true
  | .heartbeatLost => true
  | .encoderEdge _ _ _ _ _ => true
  | .indexPulse _ _ _ _ => true
  | .shaftRecordRx _ _ _ => true
  | .recordOverdue _ => true
  | .camFirePredicted _ _ => true
  | .camPulseEnd _ => true
  | .plausCheck _ => true
  | .sofLaunch _ _ => true
  | .frameTimerInPhase => true
  | .streamDefine c => c.wfAs 0x30
  | .streamArm c => c.wfAs 0x31
  | .streamStart c => c.wfAs 0x32
  | .streamHalt c => c.wfAs 0x33
  | .haltAll c => c.wfAs 0xB1
  | .streamSwitch c => c.wfAs 0x34
  | .tableWrite c => c.wfAs 0x40
  | .tableFlip c => c.wfAs 0x41
  | .groupCancel _ _ => true
  | .groupRevert _ _ => true
  | .renCtrlWrite _ _ => true
  | .renCommitFrozen _ => true
  | .renCommitMissed _ => true
  | .renEngineStart _ => true
  | .renDramData _ _ _ _ _ => true
  | .resyncCopyDone _ => true
  | .renKatRun _ _ => true
  | .presenceSample _ _ _ => true
  | .portPower c => c.wfAs 0x51
  | .vbusPowerGood _ => true
  | .connectDetect _ => true
  | .connectDebounceDone _ => true
  | .portResetDone _ _ _ => true
  | .disconnectDetect _ _ => true
  | .portReset c => c.wfAs 0x52
  | .prtReset _ _ => true
  | .prtSuspend _ _ => true
  | .prtResume _ _ => true
  | .prtDisable _ _ => true
  | .resumeDone _ _ => true
  | .deviceRemoteWake _ => true
  | .babble _ => true
  | .portRole c => c.wfAs 0x50
  | .roleChangeComplete _ => true
  | .enumTransferDone _ _ _ _ => true
  | .enumTransferTimeout _ _ _ => true
  | .slotApply _ _ => true
  | .slotCopy _ _ => true
  | .microframeStart _ _ _ => true
  | .playoutItemArrive _ item _ _ => itemWf item
  | .transactionComplete _ _ _ _ => true
  | .playoutDeadlinePass _ _ => true
  | .quarantineEnd _ _ => true
  | .portKatRun _ _ => true
  | .playingTimeout _ _ => true
  | .xbarCellEnqueue _ cell _ => cell.wf
  | .xbarCellDeliver _ _ _ _ _ _ => true
  | .creditReturn _ _ _ => true
  | .packetLockTimeout _ _ => true
  | .queueWordWrite _ _ last bytes _ => last || bytes.val == 0
  | .queDataRead _ _ => true
  | .queueStale _ => true
  | .reportForward _ => true
  | .tapObserve _ pk => decide (1 ≤ pk.bytes.length ∧ pk.bytes.length ≤ 2048)
  | .wtpEnable _ _ _ => true
  | .dramRequestArrive p => p.head.length == 16 && decide (p.data.length ≤ 1984) && (decide (48 ≤ p.src.val ∧ p.src.val ≠ 53))
  | .frontArbGrant _ => true
  | .quotaWindowEnd => true
  | .bankScheduleStart _ _ _ => true
  | .dramRequestComplete _ _ _ _ => true
  | .arbHang _ _ => true
  | .refreshDue _ _ => true
  | .retrainRound _ _ => true
  | .tempEstimate _ _ => true
  | .dramAlert _ _ => true
  | .patrolScrubRead _ _ _ _ => true
  | .dmcEcsNow _ _ => true
  | .memEngineStart => true
  | .eccInitDone => true
  | .trainingSubstepDone _ => true
  | .flashOpDone _ => true
  | .dpyInvalidate _ => true
  | .dpyMarkClear _ => true
  | .hubCtrlWrite _ _ => true
  | .vbusDetFall _ => true
  | .vbusDetStable => true
  | .upBusReset _ _ => true
  | .getHubStatus => true
  | .clearHubFeature _ => true
  | .getPortStatus _ => true
  | .setPortFeaturePower _ => true
  | .setPortFeatureReset _ _ => true
  | .setPortFeatureSuspend _ => true
  | .setPortFeatureTest _ _ => true
  | .clearPortFeature _ _ => true
  | .portIndicatorRequest => true
  | .getHubDescriptor _ => true
  | .unsupportedHubRequest => true
  | .clearTtBuffer _ _ _ _ => true
  | .resetTt _ => true
  | .setAddressObserved _ => true
  | .setConfiguration _ _ _ => true
  | .clearFeatureEndpointHalt _ => true
  | .hsPacketRepeat _ => true
  | .ttStartSplit _ => true
  | .upIdleSuspend => true
  | .hubRemoteWake source _ => decide (source.val < 3)
  | .hostResume _ => true
  | .lpmTransaction _ _ _ => true
  | .cmdOutRx bytes _ _ => decide (bytes.length ≤ 512)
  | .replyInAck => true
  | .notifyReady => true
  | .notifyIn => true
  | .streamOutPacket bytes _ => decide (bytes.length ≤ 512)
  | .streamInPacket _ => true
  | .getCmfInfo => true
  | .submit bytes => decide (20 ≤ bytes.length ∧ bytes.length ≤ 1044)
  | .cmfResync => true
  | .nop c => c.wfAs 0x00
  | .echo c => c.wfAs 0x01
  | .regRd c => c.wfAs 0x10
  | .regWr c => c.wfAs 0x11
  | .regRmw c => c.wfAs 0x12
  | .regWrKeyed c => c.wfAs 0x13
  | .regRdBlock c => c.wfAs 0x14
  | .memRd c => c.wfAs 0x20
  | .memWr c => c.wfAs 0x21
  | .memFill c => c.wfAs 0x22
  | .memCrc c => c.wfAs 0x23
  | .memStreamSet c => c.wfAs 0x24
  | .cmdDramReply _ _ _ => true
  | .moduleList c => c.wfAs 0x53
  | .lockAcquire c => c.wfAs 0x60
  | .lockRelease c => c.wfAs 0x61
  | .cfgCommit c => c.wfAs 0x62
  | .faultRead c => c.wfAs 0x70
  | .faultAck c => c.wfAs 0x71
  | .proofTest c => c.wfAs 0x72
  | .proofTestEnd _ time hoops _ _ => decide (time < 4096 ∧ hoops < 4096)
  | .domainSet c _ => c.wfAs 0x80
  | .domainStatus c => c.wfAs 0x81
  | .journalRead c => c.wfAs 0x90
  | .fwWrite c => c.wfAs 0xA0
  | .fwActivate c => c.wfAs 0xA1
  | .abort c => c.wfAs 0xB0
  | .chainDiscover c => c.wfAs 0xC0
  | .timeStatus c => c.wfAs 0xC1
  | .commandPendingTimeout c => c.wf
  | .replyAtOrigin r => r.wf
  | .smbusBlockWrite bytes _ => decide (1 ≤ bytes.length ∧ bytes.length ≤ 64)
  | .smbusBlockRead n => decide (n ≤ 64)
  | .smbusReadWord => true
  | .smbusSendByte => true
  | .smbusTimeout => true
  | .regWrite _ _ _ _ => true
  | .regPairLoRead _ _ => true
  | .keyedStoreTimeout => true
  | .regmodeExpiry => true
  | .lockHoldTimeout _ => true
  | .tallySweep => true
  | .tallyCommitTimeout _ => true
  | .chnCtrlWrite _ _ => true
  | .linkTrained _ _ _ => true
  | .linkLoss _ => true
  | .linkQuietEnd _ => true
  | .flitRx _ f _ => decide (f.body.length = 56)
  | .flitNakRx _ _ => true
  | .chainPacketRx _ _ => true
  | .syncSend _ => true
  | .syncRx _ _ _ _ => true
  | .delayReqSend _ _ => true
  | .delayReqRx _ _ _ => true
  | .delayRespRx _ _ _ _ => true
  | .syncAgeExpiry _ => true
  | .alertRx _ _ _ => true
  | .proofAlertAckRx _ => true
  | .chanResetRx _ _ _ => true
  | .probeRx _ _ _ => true
  | .reportRx x => x.wf
  | .topologyRx _ => true
  | .activateRx => true
  | .discoveryTimeout => true
  | .linkDownRx => true
  | .routeTimeout => true
  | .hoopOn _ _ => true
  | .hoopOff _ _ => true
  | .hoopInrushDone _ => true
  | .hoopInrushTimeout _ => true
  | .hoopPowerGood _ => true
  | .switchLimitEngage _ => true
  | .switchLimitClean _ => true
  | .faultTimerExpiry _ => true
  | .vbusThermalTrip _ => true
  | .vinUvTrip _ => true
  | .supplyFault n _ => decide (n.val < 9)
  | .supplyRecover n => decide (n.val < 9)
  | .holdoffEnd _ => true
  | .safeStopAssert => true
  | .safeStopRelease => true
  | .domainDrainDone _ _ => true
  | .domainEntryTimeout _ => true
  | .domainExitDone _ _ => true
  | .domainWakeSource _ _ => true
  | .islandIdleEntry d i => decide (i.val = 0 ∨ d.val = 7 ∨ (d.val = 0 ∧ i.val = 1))
  | .islandSleepEntry d i => decide (i.val = 0 ∨ d.val = 7 ∨ (d.val = 0 ∧ i.val = 1))
  | .islandWordArrive d i => decide (i.val = 0 ∨ d.val = 7 ∨ (d.val = 0 ∧ i.val = 1))
  | .vcoreAssistChange _ => true
  | .coreWakeEvent _ => true
  | .faultRaise _ _ => true
  | .graceTimerExpiry _ => true
  | .fltHandled _ _ => true
  | .fltAckWrite _ _ => true
  | .fltRelease _ => true
  | .collectorMismatch => true
  | .aliveToggle => true
  | .fltInj _ _ => true
  | .factoryToken _ _ => true
  | .powerOnReset _ => true
  | .coldReset _ _ => true
  | .jnlResetWarm _ _ => true
  | .jnlResetWarmRetain _ _ => true
  | .watchdogExpiry => true
  | .watchdogKick _ => true
  | .bootStepComplete _ => true
  | .alertNEnd _ => true
  | .processorFault => true
  | .debugPortAccess _ _ => true
  | .refreshComplete _ => true
  | .setFeatureDeviceRemoteWakeup _ _ => true
  | .setAddress _ _ => true

end Sys2Proof
end

