-- ==== Sys2Proof/Certificates/Slice0/Obligations.lean ====
section
/-! DEFINITION. The statements for the provers: what a step is, what the commands do and leave alone, per family of the
command table, and the invariants that every step keeps. -/

open Sys2Proof Sys2Proof.Machine Sys2Proof.Machine.Reg

/-- For every command c, every rest r and every state s, the step of s with c :: r waiting is exec of c on s with r
waiting, and a step with nothing waiting lets one 5 ns cycle of the 64-bit chain time pass if chain time runs (the
model's own reading of an empty queue, log 3). (95_what_each_step_holds.md) -/
def Obligations.StepRunsFrontCommand : Prop :=
  (∀ (c : Instr) (r : List Instr) (s : State), step { s with pending := c :: r } = exec c { s with pending := r }) ∧
  (∀ s : State, s.pending = [] →
    step s = .next { s with m := { s.m with ctime := if s.m.running then (s.m.ctime + 5) % 2 ^ 64 else s.m.ctime } })

/-- While the link is in service: a packet with a parity error or a reserved type is discarded and answered NAK with the
sequence number expected; a sound packet of types 0x1-0x5 that is not the one expected changes nothing (the model's
reading of "everything after it"); the expected one is acknowledged and passed on, the expected number goes up by one
modulo 16, and then the packet acts (a REG_REQ at the power die, a REG_RSP or an SMBUS segment at the core die;
HEARTBEAT and EVENT packets act by commands of their own), but for one that acted before a reset of the link and is
only acknowledged again. Nothing else changes: registers, the other direction, the DRAM, the lock bits and the queue.
(R9) -/
def Obligations.DieLinkReceiverAcceptsInOrder : Prop :=
  ∀ (e : DieEnd) (pk : DlPkt) (s : State), s.m.dl.inService = true →
    ((pk.parityOk = false ∨ pk.type = 0#4 ∨ 9 ≤ pk.type.toNat) →
      exec (.dielinkPacketRx e pk) s =
        .next { s with m := s.m.emit .dieLink [e.num, 7, (s.m.dl.dir e.other).rxExp % 16, 1, 0] [] }) ∧
    (pk.parityOk = true → 1 ≤ pk.type.toNat → pk.type.toNat ≤ 5 →
      (pk.seq.toNat ≠ (s.m.dl.dir e.other).rxExp % 16 → exec (.dielinkPacketRx e pk) s = .next s) ∧
      (pk.seq.toNat = (s.m.dl.dir e.other).rxExp % 16 →
        let d := s.m.dl.dir e.other
        let n : Mach := { s.m with dl := s.m.dl.setDir e.other { d with rxExp := (d.rxExp + 1) % 16, dup := d.dup - 1 }, out := s.m.out ++ [⟨.dieLink, [e.num, 6, pk.seq.toNat, 1, 0], []⟩, ⟨.dieDeliver, [e.num, pk.type.toNat], pk.data.flatMap (fun w => leBytes 2 w.toNat)⟩] }
        exec (.dielinkPacketRx e pk) s = .next { s with m := if d.dup = 0 then Mach.dlAct s.guard.toNat e pk n else n } ∧
        ((pk.type = 3#4 ∨ pk.type = 4#4) → exec (.dielinkPacketRx e pk) s = .next { s with m := n })))

/-- In service, with a held packet of the number and nothing waiting behind the window: an ACK frees the held packets up
to and including that one and changes nothing else; a NAK for a packet whose replay did not come just before keeps the
held packets from the named one on and puts each of them on the wire again, in order. (R9) -/
def Obligations.DieLinkSenderReplaysFromNak : Prop :=
  ∀ (e : DieEnd) (seq : BitVec 4) (s : State), s.m.dl.inService = true → (∃ p ∈ (s.m.dl.dir e).held, p.seq = seq) →
    ((s.m.dl.dir e).waiting = [] →
      exec (.dielinkAckRx e seq) s = .next { s with m := { s.m with dl := s.m.dl.setDir e { s.m.dl.dir e with held := ((s.m.dl.dir e).held.dropWhile (fun p => p.seq != seq)).drop 1, replays := 0, replaySeq := none } } }) ∧
    ((s.m.dl.dir e).replaySeq ≠ some seq.toNat → ∃ t, exec (.dielinkNakRx e seq) s = .next t ∧
      (t.m.dl.dir e).held = (s.m.dl.dir e).held.dropWhile (fun p => p.seq != seq) ∧
      (t.m.dl.dir e).replays = 1 ∧ (t.m.dl.dir e).replaySeq = some seq.toNat ∧
      t.m.out = s.m.out ++ ((s.m.dl.dir e).held.dropWhile (fun p => p.seq != seq)).map (fun p =>
        ⟨.dieLink, [e.num, p.type.toNat, p.seq.toNat, p.len.toNat, p.spec.toNat], p.data.flatMap (fun w => leBytes 2 w.toNat)⟩) ∧
      t.m.regs = s.m.regs ∧ KeepsRest s t)

/-- HEARTBEAT_SEND of a running collector that withholds nothing, on a link with room and HOOPS_OFF not held, puts out one
HEARTBEAT packet with its count, mon_en in bit 3, and the count goes up by one modulo 65,536; a stopped collector
(HEARTBEAT_STOP) sends nothing. At the monitor a packet whose count is not the previous count plus one only becomes
the previous one; an intact one that finds no loss and no change of HOOPS_OFF sets the arming to its bit 3. Nothing
else changes. (R12, R548, R551) -/
def Obligations.HeartbeatCountsAndArms : Prop :=
  (∀ s : State, s.m.flt.proof = none → s.m.flt.hbOn = true → s.m.fg FLT_STAT FLT_STAT_hb_stop = 0 → s.m.fg FLT_STAT FLT_STAT_hoops_off = 0 →
    s.m.dl.inService = true → s.m.dl.down.waiting = [] → s.m.dl.down.held.length < 15 →
    ∃ t, exec .heartbeatSend s = .next t ∧ t.m.flt = { s.m.flt with hbCount := (s.m.flt.hbCount + 1) % 65536 } ∧
      t.m.out = s.m.out ++ [⟨.dieLink, [0, 3, s.m.dl.down.txSeq % 16, 2, 8 * s.m.fg FLT_HB_CFG FLT_HB_CFG_mon_en],
        leBytes 2 (s.m.flt.hbCount % 65536)⟩] ∧
      t.m.dl.down.txSeq = (s.m.dl.down.txSeq + 1) % 16 ∧ t.m.regs = s.m.regs ∧ t.m.pdi = s.m.pdi ∧ KeepsRest s t) ∧
  (∀ s : State, s.m.flt.proof = none → s.m.fg FLT_STAT FLT_STAT_hb_stop = 1 → exec .heartbeatSend s = .next s) ∧
  (∀ (count : BitVec 16) (spec : BitVec 4) (s : State) (c : Nat), s.m.pdi.lastCount = some c →
    (count.toNat ≠ (c + 1) % 65536 → exec (.heartbeatRx count spec) s =
      .next { s with m := { s.m with pdi := { s.m.pdi with lastCount := some count.toNat } } }) ∧
    (count.toNat = (c + 1) % 65536 → s.m.fg PDI_PWR_STAT PDI_PWR_STAT_hb_lost = 0 →
      s.m.fg PDI_PWR_STAT PDI_PWR_STAT_hoops_off = (if spec.getLsbD 0 then 1 else 0) → exec (.heartbeatRx count spec) s =
      .next { s with m := { s.m with pdi := { s.m.pdi with lastCount := some count.toNat, armed := spec.getLsbD 3 } } }))

/-- HEARTBEAT_LOST of an armed monitor without a loss sets hb_lost and hb_ev, SAFE_STOP_ASSERT without a stop sets
safe_stop and safe_stop_ev; then every hoop that conducted is in HOLDOFF with cause HEARTBEAT (6) or SAFE_STOP (5),
without power-good, no hoop conducts, and every register but PDI_PWR_STAT and the hoops' status and counters is
unchanged. A monitor that is not armed does nothing. (R12, R496, R552) -/
def Obligations.StopsDropEveryHoop : Prop :=
  (∀ s : State, s.m.pdi.armed = false → exec .heartbeatLost s = .next s) ∧
  (∀ s : State, s.m.pdi.armed = true → s.m.fg PDI_PWR_STAT PDI_PWR_STAT_hb_lost = 0 → ∃ t, exec .heartbeatLost s = .next t ∧
    t.m.fg PDI_PWR_STAT PDI_PWR_STAT_hb_lost = 1 ∧ t.m.fg PDI_PWR_STAT PDI_PWR_STAT_hb_ev = 1 ∧
    (∀ k : Fin 12, t.m.swLive (.hoop k) = false ∧ (s.m.swLive (.hoop k) = true →
      t.m.fg (PDI_HOOP_STAT k) PDI_HOOP_STAT_state = 3 ∧ t.m.fg (PDI_HOOP_STAT k) PDI_HOOP_STAT_cause = 6 ∧
      t.m.fg (PDI_HOOP_STAT k) PDI_HOOP_STAT_pgood = 0)) ∧
    (∀ a, a ≠ PDI_PWR_STAT → (∀ k : Fin 12, a ≠ PDI_HOOP_STAT k ∧ a ≠ PDI_HOOP_CNT k) → t.m.rg a = s.m.rg a) ∧ KeepsRest s t) ∧
  (∀ s : State, s.m.fg PDI_PWR_STAT PDI_PWR_STAT_safe_stop = 0 → ∃ t, exec .safeStopAssert s = .next t ∧
    t.m.fg PDI_PWR_STAT PDI_PWR_STAT_safe_stop = 1 ∧ t.m.fg PDI_PWR_STAT PDI_PWR_STAT_safe_stop_ev = 1 ∧
    (∀ k : Fin 12, t.m.swLive (.hoop k) = false ∧ (s.m.swLive (.hoop k) = true →
      t.m.fg (PDI_HOOP_STAT k) PDI_HOOP_STAT_state = 3 ∧ t.m.fg (PDI_HOOP_STAT k) PDI_HOOP_STAT_cause = 5 ∧
      t.m.fg (PDI_HOOP_STAT k) PDI_HOOP_STAT_pgood = 0)) ∧
    (∀ a, a ≠ PDI_PWR_STAT → (∀ k : Fin 12, a ≠ PDI_HOOP_STAT k ∧ a ≠ PDI_HOOP_CNT k) → t.m.rg a = s.m.rg a) ∧ KeepsRest s t)

/-- ENCODER_EDGE at chain time t of a level stable for a number of 5 ns samples. Fewer than filter + 1 samples accept
nothing. An accepted change: on a channel that is neither master nor second channel only its levels change. On a
counted channel a change of both levels at once counts in SHF_ENC_ERR (which stops at its largest value, the model's
reading), sets enc_ev and reports SHAFT_ENC with the channel. On the second channel in auxiliary mode (no master) a
change of one level in the order of A leading B moves c to c + 1 modulo N (backwards: c + N - 1 modulo N), and
SHF_AUX_ANGLE carries the angle fraction (zoff + floor(c * 65536 / N)) mod 65536 of the new count. On the master
channel the counted edge goes to the record, the cams and Rennet as masterEdge says, from the same new count, stamped
with t less the filter's delay, in steps of 5 ns. (R26, R27, R28, R31, R55) -/
def Obligations.EncoderCountsQuadrature : Prop :=
  ∀ (ch : Fin 2) (a b : Bool) (k tm : Nat) (s : State),
    let m := s.m.at_ tm
    let e := s.m.enc ch
    let n := s.m.fg (encCfg ch) SHF_ENC0_CFG_cpr_m1 + 1
    let rev := s.m.fg (encCfg ch) SHF_ENC0_CFG_reverse
    let accepted := s.m.fg (encCfg ch) SHF_ENC0_CFG_filter < k
    (k ≤ s.m.fg (encCfg ch) SHF_ENC0_CFG_filter → exec (.encoderEdge ch a b k tm) s = .next { s with m := m }) ∧
    (accepted → s.m.isMaster ch = false → s.m.isAux ch = false →
      exec (.encoderEdge ch a b k tm) s = .next { s with m := m.setEnc ch { e with a := a, b := b } }) ∧
    (accepted → (s.m.isMaster ch = true ∨ s.m.isAux ch = true) → e.a ≠ a → e.b ≠ b →
      exec (.encoderEdge ch a b k tm) s = .next { s with m := (((m.setEnc ch { e with a := a, b := b }).sat SHF_ENC_ERR (if ch = 0 then SHF_ENC_ERR_enc0_err else SHF_ENC_ERR_enc1_err)).ev SHF_STAT SHF_STAT_enc_ev).raise 0x40 ch }) ∧
    (accepted → s.m.isMaster ch = false → s.m.isAux ch = true → s.m.fg SHF_CTRL SHF_CTRL_aux_mode = 1 →
      quadPhase a b = (quadPhase e.a e.b + 1) % 4 → ∃ t, exec (.encoderEdge ch a b k tm) s = .next t ∧
        (t.m.enc ch).count = (if rev = 1 then (e.count + n - 1) % n else (e.count + 1) % n) ∧
        (t.m.enc ch).a = a ∧ (t.m.enc ch).b = b ∧
        (t.m.rg SHF_AUX_ANGLE).toNat % 65536 = (s.m.fg (encZoff ch) SHF_ENC0_ZOFF_zoff + (t.m.enc ch).count * 65536 / n) % 65536 ∧
        (∀ r, r ≠ SHF_AUX_ANGLE → t.m.rg r = s.m.rg r) ∧ t.m.out = s.m.out ∧ KeepsRest s t) ∧
    (accepted → s.m.isMaster ch = true → quadPhase a b = (quadPhase e.a e.b + 1) % 4 →
      s.m.badCam ((s.m.camsCrossed s.m.shf.pos (s.m.encPos ch (s.m.encStep ch { e with a := a, b := b } (rev == 1)))).map (·.1)) = none →
      exec (.encoderEdge ch a b k tm) s =
        .next { s with m := m.masterEdge ch (s.m.encStep ch { e with a := a, b := b } (rev == 1)) ((tm - 5 * (s.m.fg (encCfg ch) SHF_ENC0_CFG_filter + 1)) / 5 * 5) })

/-- INDEX_PULSE of a level of Z stable for fewer than filter + 1 samples accepts nothing. A rising Z of an enabled index
on the second channel: c becomes 0, homed is set, and then the conditions of R35 are looked at again; the channel's
first index and one whose count is within one of N do so silently, any other also sets index_ev and reports
SHAFT_INDEX with the channel; the master channel does the same and sets SHF_STAT.homed. A falling Z, or Z with z_en 0,
only stores the level. RECORD_OVERDUE: once twice the interval between the last two records has passed, stall_ev sets
and the record is overdue; before that nothing happens but chain time. (R29, R34) -/
def Obligations.IndexAndOverdueRecord : Prop :=
  (∀ (ch : Fin 2) (level : Bool) (k tm : Nat) (s : State),
    let m := s.m.at_ tm
    let e := s.m.enc ch
    let n := s.m.fg (encCfg ch) SHF_ENC0_CFG_cpr_m1 + 1
    (k ≤ s.m.fg (encCfg ch) SHF_ENC0_CFG_filter → exec (.indexPulse ch level k tm) s = .next { s with m := m }) ∧
    (s.m.fg (encCfg ch) SHF_ENC0_CFG_filter < k →
    ((level = false ∨ e.z = true ∨ s.m.fg (encCfg ch) SHF_ENC0_CFG_z_en = 0) →
      exec (.indexPulse ch level k tm) s = .next { s with m := m.setEnc ch { e with z := level } }) ∧
    (level = true → e.z = false → s.m.fg (encCfg ch) SHF_ENC0_CFG_z_en = 1 → s.m.isMaster ch = false → s.m.isAux ch = true →
      let fresh := m.setEnc ch { e with z := true, count := 0, homed := true, indexAt := true }
      ((e.homed = false ∨ e.count ≤ 1 ∨ n ≤ e.count + 1) → exec (.indexPulse ch level k tm) s = .next { s with m := fresh.evalLock tm }) ∧
      (e.homed = true → 2 ≤ e.count → e.count + 2 ≤ n →
        exec (.indexPulse ch level k tm) s = .next { s with m := ((fresh.ev SHF_STAT SHF_STAT_index_ev).raise 0x41 ch).evalLock tm })) ∧
    (level = true → e.z = false → s.m.fg (encCfg ch) SHF_ENC0_CFG_z_en = 1 → s.m.isMaster ch = true →
      (e.homed = false ∨ e.count ≤ 1 ∨ n ≤ e.count + 1) → exec (.indexPulse ch level k tm) s = .next { s with m := ((m.setEnc ch { e with z := true, count := 0, homed := true, indexAt := true }).fs SHF_STAT SHF_STAT_homed 1).evalLock tm }) ∧
    (level = true → e.z = false → s.m.fg (encCfg ch) SHF_ENC0_CFG_z_en = 1 → s.m.isMaster ch = true → e.homed = true → 2 ≤ e.count → e.count + 2 ≤ n →
      exec (.indexPulse ch level k tm) s = .next { s with m := ((((m.setEnc ch { e with z := true, count := 0, homed := true, indexAt := true }).fs SHF_STAT SHF_STAT_homed 1).ev SHF_STAT SHF_STAT_index_ev).raise 0x41 ch).evalLock tm }))) ∧
  (∀ (tm : Nat) (r q : ShRec) (l : List ShRec) (s : State), s.m.shf.hist = r :: q :: l → s.m.shfOn = true →
    (r.t + 2 * (r.t - q.t) ≤ tm → s.m.shf.overdue = false → exec (.recordOverdue tm) s = .next { s with m := (({ (s.m.at_ tm) with shf := { s.m.shf with overdue := true } }).ev SHF_STAT SHF_STAT_stall_ev).evalLock tm }) ∧
    (tm < r.t + 2 * (r.t - q.t) → exec (.recordOverdue tm) s = .next { s with m := s.m.at_ tm }))

/-- CAM_FIRE_PREDICTED of a channel that is due and has no reserved action or GPIO number: fired goes up by one, the
revolution is noted so that the channel cannot fire in it again, and the GPIO named is high after actions 1 and 4, low
after 2 and 5, the opposite after 3 and untouched after 6; no other register changes. One that is not due lets only
chain time pass, and a reserved action or GPIO number stops with a fault of its own (R41, R61 give it no effect).
CAM_PULSE_END returns the GPIO noted at the pulse to the level noted with it and forgets the pulse; without a pulse it
does nothing. (R40, R41, R62) -/
def Obligations.CamChannelFiresOnce : Prop :=
  (∀ (n : Fin 32) (tm : Nat) (s : State),
    let g := s.m.fg (SHF_CAM_CFG n) SHF_CAM_CFG_gpio
    let act := s.m.camAction n
    (s.m.camDue n tm = false → exec (.camFirePredicted n tm) s = .next { s with m := s.m.at_ tm }) ∧
    (s.m.camDue n tm = true → s.m.camReserved n = true → exec (.camFirePredicted n tm) s = .fault (.reservedEncoding (SHF_CAM_CFG n))) ∧
    (s.m.camDue n tm = true → s.m.camReserved n = false → ∃ t, exec (.camFirePredicted n tm) s = .next t ∧
      t.m.fg (SHF_CAM_CNT n) SHF_CAM_CNT_fired = (s.m.fg (SHF_CAM_CNT n) SHF_CAM_CNT_fired + 1) % 2 ^ 32 ∧
      ((n.val, (s.m.camNext n).1) : Nat × Int) ∈ t.m.shf.camFired ∧
      ((act = 1 ∨ act = 4) → bitN (t.m.rg GLB_GPIO_OUT).toNat g = true) ∧
      ((act = 2 ∨ act = 5) → bitN (t.m.rg GLB_GPIO_OUT).toNat g = false) ∧
      (act = 3 → bitN (t.m.rg GLB_GPIO_OUT).toNat g = !bitN (s.m.rg GLB_GPIO_OUT).toNat g) ∧
      (act = 6 → t.m.rg GLB_GPIO_OUT = s.m.rg GLB_GPIO_OUT) ∧
      (∀ a, a ≠ SHF_CAM_CNT n → a ≠ GLB_GPIO_OUT → t.m.rg a = s.m.rg a) ∧ KeepsRest s t)) ∧
  (∀ (n : Fin 32) (s : State),
    (spGet 0 s.m.shf.camPulse n = 0 → exec (.camPulseEnd n) s = .next s) ∧
    (∀ (g : Nat) (level : Bool), spGet 0 s.m.shf.camPulse n = 2 * g + b2n level + 1 → g < 24 →
      ∃ t, exec (.camPulseEnd n) s = .next t ∧
        bitN (t.m.rg GLB_GPIO_OUT).toNat g = level ∧ spGet 0 t.m.shf.camPulse n = 0 ∧
        t.m.out = s.m.out ++ [⟨.gpio, [g, b2n level], []⟩] ∧
        (∀ a, a ≠ GLB_GPIO_OUT → t.m.rg a = s.m.rg a) ∧ KeepsRest s t))

/-- SHAFT_RECORD_RX from another node, with D6 not ON, or with SHF_CTRL.source not chain, changes nothing but chain time;
a record of the named master without a gap (and no crossing of a cam set to a reserved encoding) notes the sequence
number that comes next and the homed flag, and drives direction, position and estimator at its edge time; a gap first
sets the count of records since the unlock to 0 and looks at the lock, and the record that shows it does not count.
PLAUS_CHECK outside plausibility mode or without an excess does nothing; an excess sets plaus_ev and reports
SHAFT_PLAUS. SOF_LAUNCH of an enabled delegated port whose frame timer is out of phase by some ns, at t less that
phase a whole millisecond (high speed: 125 us), puts out frame number floor(/ 1,000,000) mod 2,048, makes good at most
300 ppm of the phase and fixes the instant of the next SOF with its launch error; else nothing. FRAME_TIMER_IN_PHASE,
once no port that launches SOFs is out of phase, ends the re-phasing, and time_lock is 1 where chain time is
synchronised; then the lock follows. (R39, R45, R47, R48) -/
def Obligations.ShaftRecordsPlausibilityAndFrames : Prop :=
  (∀ (src : Fin 32) (r : ShaftRec) (tm : Nat) (s : State),
    let m := s.m.at_ tm
    ((s.m.domOn 6 = false ∨ s.m.fg SHF_CTRL SHF_CTRL_source ≠ 2 ∨ s.m.fg SHF_CTRL SHF_CTRL_master_node ≠ src) →
      exec (.shaftRecordRx src r tm) s = .next { s with m := m }) ∧
    (s.m.recUsed src = true → s.m.badCam (s.m.recordCams src r) = none →
      let n : Mach := { m with shf := { s.m.shf with nextSeq := some ((r.seq.toNat + 1) % 256) } }
      ((s.m.shf.nextSeq = none ∨ s.m.shf.nextSeq = some r.seq.toNat) → exec (.shaftRecordRx src r tm) s = .next { s with m := n.recordTake r tm }) ∧
      (∀ q, s.m.shf.nextSeq = some q → q ≠ r.seq.toNat →
        exec (.shaftRecordRx src r tm) s = .next { s with m := ((n.sinceNone.evalLock tm).recordTake r tm).sinceNone }))) ∧
  (∀ (m : Mach) (r : ShaftRec) (tm : Nat), m.recordTake r tm =
    let n := ({ m with shf := { m.shf with recHomed := r.homed } }.fs SHF_STAT SHF_STAT_homed (b2n r.homed)).setBack r.reverse tm
    (n.masterAt (if n.shf.hist.isEmpty then n.recPos r.angle.toNat else n.shf.pos) (n.recPos r.angle.toNat)).recordIn r.edge.toNat) ∧
  (∀ (tm : Nat) (s : State),
    ((s.m.fg SHF_CTRL SHF_CTRL_aux_mode ≠ 2 ∨ (s.m.at_ tm).plausDetail tm = 0) → exec (.plausCheck tm) s = .next { s with m := s.m.at_ tm }) ∧
    (s.m.shfOn = true → s.m.fg SHF_CTRL SHF_CTRL_aux_mode = 2 → s.m.fg SHF_CTRL SHF_CTRL_source < 2 → (s.m.at_ tm).plausDetail tm ≠ 0 →
      exec (.plausCheck tm) s = .next { s with m := ((s.m.at_ tm).ev SHF_STAT SHF_STAT_plaus_ev).raise 0x42 ((s.m.at_ tm).plausDetail tm) })) ∧
  (∀ (p : Fin 48) (tm : Nat) (s : State),
    let x := s.m.port p
    let hs := s.m.fg (PRT_STAT p) PRT_STAT_speed == 3
    let grid := if hs = true then 125000 else 1000000
    let nominal := ((tm : Int) - x.phase).toNat
    let next := nominal + grid
    let ph := phaseAfter x.phase hs
    (s.m.isDel p = true → s.m.pst p = pEnabled → nominal % grid = 0 → exec (.sofLaunch p tm) s = .next { s with m := ((s.m.at_ tm).setPort p { x with phase := ph, sofAt := some (next, next + ph + sofError p next) }).emit .portBus [p, 5, nominal / 1000000 % 2048] }) ∧
    ((s.m.isDel p = false ∨ s.m.pst p ≠ pEnabled ∨ nominal % grid ≠ 0) → exec (.sofLaunch p tm) s = .next { s with m := s.m.at_ tm })) ∧
  (∀ s : State,
    ((∃ p : Fin 48, s.m.isDel p = true ∧ s.m.pst p = pEnabled ∧ (s.m.port p).phase ≠ 0) → exec .frameTimerInPhase s = .next s) ∧
    ((∀ p < 48, s.m.isDel p = true → s.m.pst p = pEnabled → (s.m.port p).phase = 0) → exec .frameTimerInPhase s = .next { s with m := let m := forEach (upTo 48) (fun p m => m.setPort p { m.port p with phase := 0 }) s.m; (({ m with shf := { m.shf with phasing := false } }).fs SHF_STAT SHF_STAT_time_lock (b2n m.shf.synced)).evalLock m.ctime }))

/-- Each command passes the checks of R390 with Rennet ON. STREAM_DEFINE of a stream that is not running, with ranges kept
and kind not 0, stores the four context registers, marks REN_ uncommitted and answers OK with state DEFINED (1); of a
running one it answers BAD_STATE. STREAM_ARM of a stream in neither DEFINED nor HALTED answers BAD_STATE; where the
checks of R67 find a failure it answers BAD_STATE with the check's number and does not touch the state; else the
stream is ARMED with both banks' destination counts and takes its group's epoch. STREAM_START waits while D5 is
entering another state; of one ARMED stream, with playout not stopped, Rennet enabled and the freezing moment not
passed, makes it RUNNING with row origin s and registers the first commit point of pick s; STREAM_HALT of one stream
that is not RUNNING answers BAD_STATE; NOW halts a running one with drop reason 5; HALT_ALL is always answered OK.
(R66, R67, R68, R90, R100, R393) -/
def Obligations.StreamCommandsFollowStates : Prop :=
  ∀ (c : Cmd) (s : State), s.m.domOn 5 = true →
    (s.m.serves c (c.payload.length == 16) (defineOk c) = true →
      (s.m.strState (c.b 8) = 3 → exec (.streamDefine c) s = .next { s with m := s.m.reply c 0x13 }) ∧
      (s.m.strState (c.b 8) ≠ 3 → getF (BitVec.ofNat 32 (leAt c.payload 0 4) &&& ctrlMask) REN_S_CTRL_kind ≠ 0 →
        exec (.streamDefine c) s = .next { s with m := let n := c.b 8; let m := ((((s.m.wr (REN_S_CTRL n) (BitVec.ofNat 32 (leAt c.payload 0 4) &&& ctrlMask)).wr (REN_S_TIMING n) (BitVec.ofNat 32 (leAt c.payload 4 4))).setUncom 3 true).wr (REN_S_ANGLE01 n) (BitVec.ofNat 32 (leAt c.payload 8 4))).wr (REN_S_ANGLE23 n) (BitVec.ofNat 32 (leAt c.payload 12 4)); (((m.fs (REN_S_STAT n) REN_S_STAT_state 1).setStr n { m.str n with reg := none, haltAt := none }).regroup (s.m.strGroup n)).reply c 0 1 })) ∧
    (s.m.serves c (cmdBare c) (decide (c.b 8 < 128)) = true →
      (s.m.strState (c.b 8) ≠ 1 → s.m.strState (c.b 8) ≠ 4 → exec (.streamArm c) s = .next { s with m := s.m.reply c 0x13 }) ∧
      (∀ k m, (s.m.strState (c.b 8) = 1 ∨ s.m.strState (c.b 8) = 4) → s.m.armCheck s.dram (c.b 8) [0, 1] (bitN (c.b 9) 0) = (k, m) →
        (k ≠ 0 → exec (.streamArm c) s = .next { s with m := m.reply c 0x13 k }) ∧
        (k = 0 → exec (.streamArm c) s = .next { s with m := ((((m.recordDest (c.b 8) 0).recordDest (c.b 8) 1).fs (REN_S_STAT (c.b 8)) REN_S_STAT_state 2).joinEpoch (c.b 8)).reply c 0 }))) ∧
    (s.m.domLeaving 5 = true → exec (.streamStart c) s = .next s) ∧
    (s.m.domLeaving 5 = false → s.m.serves c (cmdBare c) (nameOk (c.b 8)) = true → c.b 8 < 128 → s.m.strState (c.b 8) = 2 →
      ((s.m.fg REN_STAT REN_STAT_stop = 1 ∨ s.m.fg REN_CTRL REN_CTRL_enable = 0 ∨ s.m.startPassed (c.b 8) (c.p 12 4) = true) →
        exec (.streamStart c) s = .next { s with m := s.m.reply c 0x13 }) ∧
      (s.m.fg REN_STAT REN_STAT_stop = 0 → s.m.fg REN_CTRL REN_CTRL_enable = 1 → s.m.startPassed (c.b 8) (c.p 12 4) = false →
        exec (.streamStart c) s = .next { s with m := (((s.m.fs (REN_S_STAT (c.b 8)) REN_S_STAT_state 3).wr (REN_S_ORIGIN (c.b 8)) (BitVec.ofNat 32 (c.p 12 4))).setStr (c.b 8) { s.m.str (c.b 8) with reg := some (c.p 12 4, 0), haltAt := none, fresh := true, anyFrozen := false }).reply c 0 })) ∧
    (s.m.serves c (cmdBare c) (nameOk (c.b 8) && decide (c.b 9 < 2)) = true → c.b 8 < 128 →
      (s.m.strState (c.b 8) ≠ 3 → exec (.streamHalt c) s = .next { s with m := s.m.reply c 0x13 }) ∧
      (s.m.strState (c.b 8) = 3 → c.b 9 = 0 → exec (.streamHalt c) s = .next { s with m := ((s.m.haltNow (c.b 8) 5 false).afterHalt).reply c 0 }) ∧
      (s.m.strState (c.b 8) = 3 → c.b 9 = 1 → exec (.streamHalt c) s = .next { s with m := ((s.m.haltAtPick (c.b 8) false).afterHalt).reply c 0 })) ∧
    (s.m.serves c (cmdBare c) true = true → exec (.haltAll c) s = .next { s with m := ((s.m.haltAllNow 5 false).afterHalt).reply c 0 })

/-- With the checks of R390 passed and Rennet ON: STREAM_SWITCH and TABLE_FLIP answer BUSY while a switch of the group is
pending, TABLE_BUSY while the group is not settled, BAD_STATE where the shadow bank fails; an accepted switch is
pending with SWPICK p and may take effect at once for streams that do not run. TABLE_WRITE of a stream entry that no
group owns stores its bytes in both banks and answers OK; of one whose group is not settled it stores nothing and
answers TABLE_BUSY. RESYNC_COPY_DONE of a group whose copy runs copies its dirty tables and, where no stream or item
of the other epoch has come into the group meanwhile, settles the group and sets switched_ev; of another it does
nothing. (R93, R94, R96, R97, R98, R394) -/
def Obligations.TablesAndGroupChanges : Prop :=
  (∀ (c : Cmd) (s : State), s.m.domOn 5 = true → s.m.serves c (cmdBare c) (decide (c.b 8 < 16)) = true →
    (s.m.fg (REN_GRP_STAT (c.b 8)) REN_GRP_STAT_pending = 1 → exec (.streamSwitch c) s = .next { s with m := s.m.reply c 0x0A }) ∧
    (s.m.fg (REN_GRP_STAT (c.b 8)) REN_GRP_STAT_pending = 0 → s.m.isSettled (c.b 8) = false →
      exec (.streamSwitch c) s = .next { s with m := s.m.reply c 0x10 }) ∧
    (∀ m, s.m.fg (REN_GRP_STAT (c.b 8)) REN_GRP_STAT_pending = 0 → s.m.isSettled (c.b 8) = true →
      (s.m.shadowOk s.dram (c.b 8) = (false, m) → exec (.streamSwitch c) s = .next { s with m := m.reply c 0x13 }) ∧
      (s.m.shadowOk s.dram (c.b 8) = (true, m) →
        (∀ n ∈ m.members (c.b 8), m.strState n = 3 → m.frozePast (c.p 12 4) n = false) →
        exec (.streamSwitch c) s = .next { s with m := (((m.acceptChange (c.b 8) false).wr (REN_GRP_SWPICK (c.b 8)) (BitVec.ofNat 32 (c.p 12 4))).pickReached).reply c 0 }))) ∧
  (∀ (c : Cmd) (s : State), s.m.domOn 5 = true →
    s.m.serves c (cmdBare c) (c.p 8 2 / 4096 == 0xF && decide (c.p 8 2 % 4096 < 16)) = true →
    (s.m.fg (REN_GRP_STAT (c.p 8 2 % 4096)) REN_GRP_STAT_pending = 1 → exec (.tableFlip c) s = .next { s with m := s.m.reply c 0x0A }) ∧
    (s.m.fg (REN_GRP_STAT (c.p 8 2 % 4096)) REN_GRP_STAT_pending = 0 → s.m.isSettled (c.p 8 2 % 4096) = false →
      exec (.tableFlip c) s = .next { s with m := s.m.reply c 0x10 }) ∧
    (∀ m, s.m.fg (REN_GRP_STAT (c.p 8 2 % 4096)) REN_GRP_STAT_pending = 0 → s.m.isSettled (c.p 8 2 % 4096) = true →
      s.m.shadowOk s.dram (c.p 8 2 % 4096) = (true, m) →
      exec (.tableFlip c) s = .next { s with m := ((m.acceptChange (c.p 8 2 % 4096) true).pickReached).reply c 0 })) ∧
  (∀ (c : Cmd) (i : Nat) (s : State), s.m.domOn 5 = true → c.p 8 2 = 0x1000 + i → i < 128 →
    s.m.serves c (decide (4 ≤ c.payload.length ∧ c.payload.length ≤ 1024) && c.payload.length % 4 == 0) (tableOk (c.p 8 2)) = true →
    c.p 12 4 + c.payload.length ≤ 128 →
    (s.m.owners 1 i = [] →
      exec (.tableWrite c) s = .next { s with m := ((s.m.putBytes (seAddr i 0 + c.p 12 4) c.payload).putBytes (seAddr i 1 + c.p 12 4) c.payload).reply c 0 }) ∧
    (∀ g ∈ s.m.owners 1 i, s.m.isSettled g = false → exec (.tableWrite c) s = .next { s with m := s.m.reply c 0x10 })) ∧
  (∀ (g : Fin 16) (s : State),
    ((s.m.grp g).copying = false → exec (.resyncCopyDone g) s = .next s) ∧
    ((s.m.grp g).copying = true →
      exec (.resyncCopyDone g) s = .next { s with m := let m := s.m.copyDirty g; if m.drained g then (m.setGrp g { m.grp g with copying := false, draining := false }).ev (REN_GRP_STAT g) REN_GRP_STAT_switched_ev else m.setGrp g { m.grp g with copying := false } }))

/-- REN_COMMIT_FROZEN does nothing while D5 is not ON or the next word of the time bus is not a frozen commit point of the
stream; of one it queues the commit point as its freezing fixed it (time T, deadline stamp of T - P, the stream's
epoch and row origin then), shows its pick in REN_Sn_PICK, and where it is the one registered goes on to the next.
REN_COMMIT_MISSED of a running stream under SKIP counts, sets skip_ev and goes on; under HALT it halts the stream.
REN_ENGINE_START without a free engine or work that need not wait (R76) lets only chain time pass; overdue work is
dropped with reason 1; other work goes to the free engine, which reads the header or the point array. REN_DRAM_DATA of
an idle engine does nothing; a failed read drops the rest with reason 2, 8 or 7, a parity error with 3, a passed
deadline with 1; else the next stage's reads follow, or items are issued. REN_KAT_RUN of a free engine in service with
kat_en counts a pass, or marks and reports the failure; a busy engine notes that the test is due. (R15, R16, R63, R69,
R70, R71, R72, R74, R76, R103, R104) -/
def Obligations.RennetCommitPointsAndEngines : Prop :=
  (∀ (m : Mach) (n : Fin 128) (pick idx tm : Nat), m.commitPt n (pick, idx) tm =
    ⟨n, m.strGroup n, pick, idx, tm, (tm + 2 ^ 64 - m.prep n) / 64 % 2 ^ 24, m.strEpoch n,
      if m.strEpoch n = 0 then (m.str n).dest0 else (m.str n).dest1, (m.rg (REN_S_ORIGIN n)).toNat⟩) ∧
  (∀ (n : Fin 128) (s : State),
    ((s.m.domOn 5 = false ∨ ∀ b l, s.m.shf.bus = b :: l → b.stream ≠ n ∨ b.cp = none) → exec (.renCommitFrozen n) s = .next s) ∧
    (∀ b cp l, s.m.domOn 5 = true → s.m.shf.bus = b :: l → b.stream = n → b.cp = some cp → cp.stream = n →
      let m := (({ s.m with shf := { s.m.shf with bus := l }, ren := { s.m.ren with queue := s.m.ren.queue ++ [cp] } } : Mach).setStr n
        { s.m.str n with anyFrozen := true }).wr (REN_S_PICK n) (BitVec.ofNat 32 cp.pick)
      ((s.m.str n).reg ≠ some (cp.pick, cp.idx) → exec (.renCommitFrozen n) s = .next { s with m := m }) ∧
      ((s.m.str n).reg = some (cp.pick, cp.idx) → exec (.renCommitFrozen n) s = .next { s with m := m.advance n (cp.pick, cp.idx) }))) ∧
  (∀ (n : Fin 128) (s : State) (b : BusMsg) (l : List BusMsg), s.m.domOn 5 = true → s.m.shf.bus = b :: l → b.stream = n → b.cp = none →
    let m : Mach := { s.m with shf := { s.m.shf with bus := l } }
    ((s.m.strState n ≠ 3 ∨ (s.m.str n).reg ≠ some (b.pick, b.idx)) → exec (.renCommitMissed n) s = .next { s with m := m }) ∧
    (s.m.strState n = 3 → (s.m.str n).reg = some (b.pick, b.idx) →
      (s.m.fg (REN_S_CTRL n) REN_S_CTRL_unlock = 1 → exec (.renCommitMissed n) s =
        .next { s with m := (((m.inc (REN_S_SKIP n) REN_S_SKIP_count).ev (REN_S_STAT n) REN_S_STAT_skip_ev).advance n (b.pick, b.idx)) }) ∧
      (s.m.fg (REN_S_CTRL n) REN_S_CTRL_unlock ≠ 1 → exec (.renCommitMissed n) s = .next { s with m := (m.haltStream n true).afterHalt }))) ∧
  (∀ (tm : Nat) (s : State), let m := s.m.at_ tm
    let free := (upTo 8).find? (fun e => m.inService e && (m.eng e).work = none && !(m.eng e).katDue)
    let next := nextWork (s.m.ren.queue.filter m.startable)
    ((next = none ∨ free = none) → exec (.renEngineStart tm) s = .next { s with m := m }) ∧
    (∀ cp e, next = some cp → free = some e →
      let rest : Mach := { m with ren := { s.m.ren with queue := s.m.ren.queue.erase cp } }
      let n := s.m.fg (REN_GRP_FLIGHT cp.group) (flightFd cp.epoch) + cp.dest
      (dlPassed m.ctime cp.dl = true → exec (.renEngineStart tm) s = .next { s with m := rest.dropFor cp 0 false 1 }) ∧
      (dlPassed m.ctime cp.dl = false →
        let w := (rest.fs (REN_GRP_FLIGHT cp.group) (flightFd cp.epoch) n).setEng e { m.eng e with work := some cp, stage := 0, issued := 0 }
        exec (.renEngineStart tm) s = .next { s with m := w.readSpans cp (w.firstReads cp) }))) ∧
  (∀ (m : Mach) (cp : CommitPt) (a n : Nat),
    let k := m.seTable cp.stream cp.epoch
    m.readSpans cp [(a, n)] = Mach.renReads cp.dl (n / 256 + 2) a n m ∧
    (m.kind cp.stream = 1 → m.firstReads cp = [(m.seDesign cp.stream cp.epoch, 64)]) ∧
    (m.kind cp.stream ≠ 1 → m.firstReads cp = [(m.descPoints k cp.epoch, 16 * m.descCount k cp.epoch)])) ∧
  (∀ (e : Fin 8) (st : DramStatus) (par : Bool) (k tm : Nat) (s : State), let m := s.m.at_ tm
    ((s.m.eng e).work = none → exec (.renDramData e st par k tm) s = .next { s with m := m }) ∧
    (∀ cp, (s.m.eng e).work = some cp →
      let free := m.setEng e { s.m.eng e with work := none, stage := 0, issued := 0 }
      let done := (s.m.eng e).issued
      (readFailed st = true →
        exec (.renDramData e st par k tm) s = .next { s with m := free.dropFor cp done true (match st with | .poisoned => 2 | .hung => 8 | _ => 7) }) ∧
      (readFailed st = false → par = false → exec (.renDramData e st par k tm) s = .next { s with m := free.dropFor cp done true 3 }) ∧
      (readFailed st = false → par = true → dlPassed m.ctime cp.dl = true →
        exec (.renDramData e st par k tm) s = .next { s with m := free.dropFor cp done true 1 }) ∧
      (readFailed st = false → par = true → dlPassed m.ctime cp.dl = false →
        (∀ l, (m.laterReads s.dram cp)[(s.m.eng e).stage]? = some l → exec (.renDramData e st par k tm) s = .next { s with m := (m.setEng e { s.m.eng e with stage := (s.m.eng e).stage + 1 }).readSpans cp l }) ∧
        ((m.laterReads s.dram cp)[(s.m.eng e).stage]? = none →
          (k = 0 → exec (.renDramData e st par k tm) s = .next { s with m := m }) ∧
          (∀ items n x j, 0 < k → m.itemsOf s.dram cp = (some items, n) → Mach.issue cp (n.kind cp.stream == 1) ((items.drop done).take k) 0 n = (j, x) →
            (done + j < items.length → exec (.renDramData e st par k tm) s = .next { s with m := x.setEng e { x.eng e with issued := done + j } }) ∧
            (items.length ≤ done + j → cp.dest ≤ done + j → exec (.renDramData e st par k tm) s = .next { s with m := x.freeEng e })) ∧
          (∀ n, 0 < k → m.itemsOf s.dram cp = (none, n) →
            exec (.renDramData e st par k tm) s = .next { s with m := (n.freeEng e).dropFor cp done true 4 }))))) ∧
  (∀ (e : Fin 8) (pass : Bool) (s : State), s.m.fg REN_CTRL REN_CTRL_kat_en = 1 → s.m.inService e = true → s.m.domOn 5 = true →
    ((s.m.eng e).work ≠ none → exec (.renKatRun e pass) s = .next { s with m := s.m.setEng e { s.m.eng e with katDue := true } }) ∧
    ((s.m.eng e).work = none → let m := s.m.setEng e { s.m.eng e with katDue := false }
      exec (.renKatRun e pass) s = .next { s with m := if pass then m.inc REN_KAT_CNT REN_KAT_CNT_passed else ((m.fs REN_STAT REN_STAT_engine_fail (setBitN (s.m.fg REN_STAT REN_STAT_engine_fail) e true)).ev REN_STAT REN_STAT_kat_ev).raise 0x30 e }))

/-- PRESENCE_SAMPLE outside OFF and POWER_HOLD does nothing; the third present sample in a row in OFF enters POWER_HOLD
with present and hold_ev, reports the module and is a wake source of its domain, the third absent one in POWER_HOLD
returns to OFF, and others only count. PORT_POWER on of a port without a role answers BAD_STATE, on and off of others
act on the switch and answer with the port's state. VBUS_POWER_GOOD of a switch that conducts without limiting makes
it ON with power-good, and a port in POWERING goes on to DISCONNECTED. CONNECT_DETECT acts in DISCONNECTED only, the
debounce of a delegated port in CONNECTED starts enumeration with its reset, the end of a reset with the device
attached enables the port at its speed, and a disconnect in a state without a connection changes nothing; on a hub-
mode port it goes to DISCONNECTED. (R124, R125, R128, R129, R131, R140, R351, R525) -/
def Obligations.PortPowerAndConnection : Prop :=
  (∀ (p : Fin 48) (dp dm : Bool) (s : State),
    let x := s.m.port p
    (s.m.pst p ≠ 0 → s.m.pst p ≠ 1 → exec (.presenceSample p dp dm) s = .next s) ∧
    (s.m.pst p = 0 → (dp || dm) = true → x.presRun = 2 → exec (.presenceSample p dp dm) s = .next { s with m := (((s.m.setPort p { x with presRun := 3, absRun := 0 }).setPst p 1).fs (PRT_STAT p) PRT_STAT_present 1).ev (PRT_STAT p) PRT_STAT_hold_ev |> fun m => (m.portEvent 0x06 p 0 (m.rgBytes (PRT_STAT p))).domainWakeSource (portDom p) 1 }) ∧
    (s.m.pst p = 1 → (dp || dm) = false → x.absRun = 2 →
      exec (.presenceSample p dp dm) s = .next { s with m := (s.m.setPort p { x with presRun := 0, absRun := 3 }).setPst p 0 }) ∧
    (s.m.pst p ≤ 1 → (dp || dm) = true → x.presRun < 2 →
      exec (.presenceSample p dp dm) s = .next { s with m := s.m.setPort p { x with presRun := x.presRun + 1, absRun := 0 } })) ∧
  (∀ (c : Cmd) (p : Fin 48) (s : State), c.b 8 = p → s.m.domOn (8 + p.val / 8) = true → s.m.isHub p = false →
    s.m.serves c (cmdBare c) (decide (c.b 8 < 48) && decide (c.b 9 < 2)) = true →
    (c.b 9 = 0 → exec (.portPower c) s = .next { s with m := (s.m.vbusOff p).reply c 0 ((s.m.vbusOff p).pst p) }) ∧
    (c.b 9 = 1 → s.m.role p = 0 → exec (.portPower c) s = .next { s with m := s.m.reply c 0x13 (s.m.pst p) }) ∧
    (c.b 9 = 1 → s.m.role p ≠ 0 → exec (.portPower c) s = .next { s with m := (s.m.portOnReq p).2.reply c (s.m.portOnReq p).1 ((s.m.portOnReq p).2.pst p) })) ∧
  (∀ (p : Fin 48) (s : State),
    let good := (s.m.swGood (.vbus p)).fs (PRT_STAT p) PRT_STAT_vbus_good 1
    (s.m.swLive (.vbus p) = false → exec (.vbusPowerGood p) s = .next s) ∧
    (s.m.swLive (.vbus p) = true → s.m.fg (PDI_VBUS_STAT p) PDI_VBUS_STAT_limiting = 0 →
      exec (.vbusPowerGood p) s = .next { s with m := if s.m.pst p = 2 then good.setPst p 3 else good })) ∧
  (∀ (p : Fin 48) (s : State),
    (s.m.pst p ≠ 3 → exec (.connectDetect p) s = .next s) ∧
    (s.m.pst p = 3 → exec (.connectDetect p) s = .next { s with m := s.m.connectPort p }) ∧
    (s.m.isDel p = true → s.m.pst p = 4 → s.m.domOn 1 = true → exec (.connectDebounceDone p) s = .next { s with m := s.m.enumReset p 0 1 }) ∧
    (s.m.pst p ≠ 4 → exec (.connectDebounceDone p) s = .next s)) ∧
  (∀ (p : Fin 48) (sp : UsbSpeed) (att : Bool) (s : State),
    let up := (s.m.setPst p 6).fs (PRT_STAT p) PRT_STAT_speed (s.m.speedCode p sp)
    ((s.m.pst p ≠ 5 ∨ att = false) → exec (.portResetDone p sp att) s = .next s) ∧
    (s.m.pst p = 5 → att = true → up.isHub p = true → exec (.portResetDone p sp att) s = .next { s with m := up.ownZero p }) ∧
    (∀ e, s.m.pst p = 5 → att = true → up.isHub p = false → up.isDel p = true → (up.port p).enum = some e → e.sub = 0 → e.step = 1 →
      exec (.portResetDone p sp att) s = .next { s with m := up.enumSpeed p e (s.m.speedCode p sp) })) ∧
  (∀ (p : Fin 48) (sub : Fin 8) (s : State),
    (connState (s.m.pst p) = false → exec (.disconnectDetect p sub) s = .next s) ∧
    (connState (s.m.pst p) = true → sub = 0 → s.m.isDel p = false →
      exec (.disconnectDetect p sub) s = .next { s with m := (s.m.hubDetach p).setPst p 3 }) ∧
    (connState (s.m.pst p) = true → sub = 0 → s.m.isDel p = true →
      (s.m.detachAll p).fg (PRT_CFG p) PRT_CFG_detach_off = 0 → exec (.disconnectDetect p sub) s =
      .next { s with m := ((s.m.detachAll p).setPort p { (s.m.detachAll p).port p with todo := [], late := [] }).setPst p 3 }) ∧
    (connState (s.m.pst p) = true → sub ≠ 0 → s.m.isDel p = true →
      exec (.disconnectDetect p sub) s = .next { s with m := (s.m.detachOne p sub).enumNext p }))

/-- PORT_RESET of a port in ENABLED, DISABLED or ERROR resets it by its role and is answered OK; else it is answered
BAD_STATE. With the domain ON and not on the move a device's K starts a remote resume in SUSPENDED, is noted in a
software resume and is ignored in other states; with the domain not ON it acts in SUSPENDED alone, wakes the domain
and waits for it. The end of a resume enables the port and records the wake with its reason, reported on a delegated
one. Babble in ENABLED is an ERROR with err_ev, which halts the pipes of a delegated port. A failed known-answer test
holds the port in ERROR with its fault raised; a passed one changes nothing. PORT_ROLE is refused LOCKED under lock
bit 4, and BUSY while a change is under way; a port without a role changes at once, another's change waits for the
wire and its end commits it and answers the command. (R124, R128, R132, R133, R134, R144, R157, R158, R159, R160,
R165, R167) -/
def Obligations.PortResetSuspendErrors : Prop :=
  (∀ (c : Cmd) (p : Fin 48) (s : State), c.b 8 = p → s.m.domOn (8 + p.val / 8) = true → s.m.serves c (cmdBare c) true = true →
    (s.m.canReset p = true → s.m.isDel p = true → exec (.portReset c) s = .next { s with m := (s.m.resetPort p).reply c 0 }) ∧
    (s.m.canReset p = true → s.m.isDel p = false →
      exec (.portReset c) s = .next { s with m := ((s.m.setPst p 5).emit .portBus [p.val, 0]).reply c 0 }) ∧
    (s.m.canReset p = false → exec (.portReset c) s = .next { s with m := s.m.reply c 0x13 })) ∧
  (∀ (p : Fin 48) (s : State),
    let w := s.m.domainWakeSource (portDom p) 0
    (s.m.domOn (portDom p) = true → s.m.domMove (portDom p) = none →
      (s.m.pst p = 7 → exec (.deviceRemoteWake p) s = .next { s with m := s.m.driveResume p 2 }) ∧
      (s.m.pst p = 8 → (s.m.port p).resume = 1 →
        exec (.deviceRemoteWake p) s = .next { s with m := s.m.setPort p { s.m.port p with collided := true } }) ∧
      (s.m.pst p ≠ 7 → (s.m.pst p ≠ 8 ∨ (s.m.port p).resume ≠ 1) → exec (.deviceRemoteWake p) s = .next s)) ∧
    (s.m.domOn (portDom p) = false → (s.m.pst p ≠ 7 ∨ s.m.wakeOf (portDom p) 1 = 0) → exec (.deviceRemoteWake p) s = .next s) ∧
    (s.m.domOn (portDom p) = false → s.m.pst p = 7 → s.m.wakeOf (portDom p) 1 ≠ 0 → w.domOn (portDom p) = false → w.pst p = 7 →
      w.wakeOf (portDom p) 1 ≠ 0 → exec (.deviceRemoteWake p) s = .next { s with m := w.setPort p { w.port p with kWake := true } })) ∧
  (∀ (p : Fin 48) (sub : Fin 8) (s : State),
    let up := (s.m.setPst p 6).setPort p { (s.m.setPst p 6).port p with resume := 0, collided := false }
    let w := ((up.inc (PRT_WAKE p) PRT_WAKE_count).fs (PRT_WAKE p) PRT_WAKE_reason (s.m.port p).resume).fs (PRT_WAKE p) PRT_WAKE_collided
      (b2n (s.m.port p).collided)
    let done := (w.fs (PRT_WAKE p) PRT_WAKE_sub (if ((s.m.port p).resume == 2 || (s.m.port p).collided) = true then sub.val else 0)).ev (PRT_STAT p) PRT_STAT_wake_ev
    (s.m.pst p ≠ 8 → exec (.resumeDone p sub) s = .next s) ∧
    (s.m.pst p = 8 → s.m.isDel p = false → exec (.resumeDone p sub) s = .next { s with m := done }) ∧
    (s.m.pst p = 8 → s.m.isDel p = true → exec (.resumeDone p sub) s = .next { s with m := done.portEvent 0x08 p 0 (done.rgBytes (PRT_WAKE p)) })) ∧
  (∀ (p : Fin 48) (s : State),
    let err := (s.m.setPst p 10).ev (PRT_STAT p) PRT_STAT_err_ev
    (s.m.pst p ≠ 6 → exec (.babble p) s = .next s) ∧
    (s.m.pst p = 6 → s.m.isDel p = false → exec (.babble p) s = .next { s with m := err }) ∧
    (s.m.pst p = 6 → s.m.isDel p = true →
      exec (.babble p) s = .next { s with m := (err.haltPipes p).setPort p { (err.haltPipes p).port p with ctl := [], todo := [], late := [] } })) ∧
  (∀ (p : Fin 48) (s : State), exec (.portKatRun p true) s = .next s ∧
    (s.m.role p ≠ 0 → s.m.fg (PRT_CFG p) PRT_CFG_kat_en = 1 → s.m.domOn (8 + p.val / 8) = true → (s.m.port p).katHold = false → s.m.pst p ≠ 10 →
      exec (.portKatRun p false) s = .next { s with m := let m := (s.m.setPst p 10).ev (PRT_STAT p) PRT_STAT_err_ev; ((m.setPort p { m.port p with katHold := true, todo := [] }).ev (PRT_STAT p) PRT_STAT_kat_ev).raise fPortKat p })) ∧
  (∀ (c : Cmd) (p : Fin 48) (s : State), c.b 8 = p → s.m.domOn (8 + p.val / 8) = true →
    s.m.serves c (cmdBare c) (decide (c.b 8 < 48) && decide (c.b 9 < 3)) = true →
    (s.guard.getLsbD 4 = true → exec (.portRole c) s = .next { s with m := s.m.reply c 0x08 }) ∧
    (∀ st, s.guard.getLsbD 4 = false → s.m.roleRefusal p (c.b 9) = some st → exec (.portRole c) s = .next { s with m := s.m.reply c st }) ∧
    (s.guard.getLsbD 4 = false → s.m.roleRefusal p (c.b 9) = none → s.m.role p = 0 → c.b 9 ≠ 0 →
      exec (.portRole c) s = .next { s with m := (s.m.roleCommit p (c.b 9)).reply c 0 }) ∧
    (s.guard.getLsbD 4 = false → s.m.roleRefusal p (c.b 9) = none → s.m.role p ≠ 0 → c.b 9 ≠ s.m.role p →
      exec (.portRole c) s = .next { s with m := (s.m.setPort p { s.m.port p with roleChange := some (c.b 9, some c) }).startRun { cmd := c } })) ∧
  (∀ (p : Fin 48) (s : State), ((s.m.port p).roleChange = none → exec (.roleChangeComplete p) s = .next s) ∧
    (∀ new c, (s.m.port p).roleChange = some (new, some c) →
      exec (.roleChangeComplete p) s = .next { s with m := (s.m.roleCommit p new).reply c 0 }))

/-- Where no control transfer of the device is on the cable both rows change nothing, a timeout while no step waits for
it. A transfer that serves step e leaves the list, its errors count, and what waits on endpoint 0 starts after it:
eight bytes of step 2 give the maximum packet size and an address is chosen and sent (step 3); the end of step 3
records the address as in use, and step 4 begins; 18 bytes of step 4 begin step 5 with the first read; the end of step
9 leads to the slot entries. A stall with result 2 (endpoint 0 halted where it has an open context) or a timeout with
result 1 repeats the transfer while fewer than two repeats were made, then the whole sequence from the reset while
attempts remain under PRT_CFG.enum_retries, and then ends enumeration with that result. (R136, R137, R138, R139, R140) -/
def Obligations.EnumerationStepsInOrder : Prop :=
  ∀ (p : Fin 48) (sub : Fin 8) (errs : Nat) (s : State),
    let x := s.m.port p
    (x.ctl.find? (fun c => c.sub == sub.val && c.started) = none →
      (∀ r, exec (.enumTransferDone p sub r errs) s = .next s) ∧ (x.enum = none → exec (.enumTransferTimeout p sub errs) s = .next s)) ∧
    (∀ c e, x.ctl.find? (fun c => c.sub == sub.val && c.started) = some c → c.what = .enum e.sub → x.enum = some e →
      let m := (s.m.setPort p { x with ctl := x.ctl.erase c }).inc (PRT_XERR p) PRT_XERR_count errs
      let halted := match m.ep0Pipe p c.sub with | some i => if m.pipeSt i = 1 then m.pipeHalt p i else m | none => m
      let again := fun (m : Mach) => ((m.closeSub p e.sub).wr (PRT_DEV p e.sub)
        (setF (setF 0 PRT_DEV_gen (m.devGen p e.sub)) PRT_DEV_state 1)).enumReset p e.sub (e.attempt + 1)
      (∀ d, e.step = 2 → 8 ≤ d.length → exec (.enumTransferDone p sub (.done d) errs) s =
        .next { s with m := (m.enumAddress p { e with step := 3, tries := 0, mps0 := dByte d 7 }).asyncRun p }) ∧
      (∀ d, e.step = 3 → exec (.enumTransferDone p sub (.done d) errs) s = .next { s with m := (((m.setPort p { m.port p with lastAddr := e.addr, inUse := (m.port p).inUse ++ [(e.addr, e.sub)] }).fs (PRT_DEV p e.sub) PRT_DEV_addr e.addr).enumXfer p { e with step := 4, tries := 0 }).asyncRun p }) ∧
      (∀ d, e.step = 4 → 18 ≤ d.length → exec (.enumTransferDone p sub (.done d) errs) s = .next { s with m := (m.enumXfer p { e with step := 5, tries := 0, isHub := dByte d 4 == 9, multiTt := dByte d 6 == 2, nConf := dByte d 17, cfgLen := 0 }).asyncRun p }) ∧
      (∀ d, e.step = 9 → exec (.enumTransferDone p sub (.done d) errs) s = .next { s with m := (m.enumSlots p e).asyncRun p }) ∧
      (e.tries < 2 →
        ((halted.port p).enum = some e → exec (.enumTransferDone p sub .stall errs) s =
          .next { s with m := (halted.enumXfer p { e with tries := e.tries + 1 }).asyncRun p }) ∧
        exec (.enumTransferTimeout p sub errs) s = .next { s with m := (m.enumXfer p { e with tries := e.tries + 1 }).asyncRun p }) ∧
      (2 ≤ e.tries → e.attempt < m.fg (PRT_CFG p) PRT_CFG_enum_retries →
        ((halted.port p).enum = some e → e.attempt < halted.fg (PRT_CFG p) PRT_CFG_enum_retries →
          exec (.enumTransferDone p sub .stall errs) s = .next { s with m := (again halted).asyncRun p }) ∧
        exec (.enumTransferTimeout p sub errs) s = .next { s with m := (again m).asyncRun p }) ∧
      (2 ≤ e.tries → m.fg (PRT_CFG p) PRT_CFG_enum_retries ≤ e.attempt →
        ((halted.port p).enum = some e → halted.fg (PRT_CFG p) PRT_CFG_enum_retries ≤ e.attempt →
          exec (.enumTransferDone p sub .stall errs) s = .next { s with m := (halted.enumEnd p e 2).asyncRun p }) ∧
        exec (.enumTransferTimeout p sub errs) s = .next { s with m := (m.enumEnd p e 1).asyncRun p }))

/-- With an apply pending and no enumeration on the port, SLOT_COPY at a full-speed frame boundary completes: every one of
the 32 active entries of the port reads as its shadow entry did, pending is 0, every register that is neither an
active entry of this port nor its PRT_SLOT_CTRL keeps its value, and DRAM, lock bits and queue stay. Away from a
boundary, or with nothing pending, it changes nothing but the chain time. (R145, R146, R147) -/
def Obligations.SlotCopyMakesShadowActive : Prop :=
  ∀ (p : Fin 48) (t : Nat) (s : State),
    ((t % 1000000 ≠ 0 ∨ s.m.fg (PRT_SLOT_CTRL p) PRT_SLOT_CTRL_pending = 0) → exec (.slotCopy p t) s = .next { s with m := s.m.at_ t }) ∧
    (t % 1000000 = 0 → s.m.fg (PRT_SLOT_CTRL p) PRT_SLOT_CTRL_pending = 1 → (s.m.port p).enum = none →
      ∃ u, exec (.slotCopy p t) s = .next u ∧ (∀ i, i < 32 → u.m.rg (slotActive p i) = s.m.rg (slotShadow p i)) ∧
        u.m.fg (PRT_SLOT_CTRL p) PRT_SLOT_CTRL_pending = 0 ∧
        (∀ a, (∀ i, i < 32 → a ≠ slotActive p i) → a ≠ PRT_SLOT_CTRL p → u.m.rg a = s.m.rg a) ∧ KeepsRest s u)

/-- While the domain is not ON, or a queue of the port is full, an item is held and nothing changes but the chain time.
Else an item with bad parity is discarded with reason 7, one for another place with reason 8, one for a port that is
not delegated with reason 6, one under STOP_PLAYOUT with reason 5, one for a suspended port with reason 3; one that
passes every check goes to the end of its pipe's queue with its effective deadline and its anchor, and
PRT_STAT.playing sets. A deadline pass discards the items past theirs that are not on the wire and raises the deadline
fault if there were any. An address leaves quarantine only when no open pipe of the port has it, and playing clears
after 100 ms without an item. A microframe start on a port that may not issue changes only the chain time; else the
items an upset names are marked, the due entries, carried ones first, become the work of the microframe, and skipped
and carried ones are counted. (R143, R148, R149, R150, R151, R152, R156) -/
def Obligations.PlayoutArrivalsAndDeadlines : Prop :=
  (∀ (p : Fin 48) (b : List Byte) (ok : Bool) (t : Nat) (s : State),
    let m := s.m.at_ t
    let sub := itemHandle b / 4 % 8
    let seen := (m.fs (PRT_STAT p) PRT_STAT_playing 1).setPort p { m.port p with lastItem := m.ctime }
    let here := itemHandle b / 2048 = m.node ∧ itemHandle b / 32 % 64 = p
    ((m.itemsFull p = true ∨ m.domOn (portDom p) = false) → exec (.playoutItemArrive p b ok t) s = .next { s with m := m }) ∧
    (m.itemsFull p = false → m.domOn (portDom p) = true →
    (ok = false → exec (.playoutItemArrive p b ok t) s = .next { s with m := seen.dropNew p 7 }) ∧
    (ok = true → ¬ here → exec (.playoutItemArrive p b ok t) s = .next { s with m := seen.dropNew p 8 }) ∧
    (ok = true → here → m.isDel p = false → exec (.playoutItemArrive p b ok t) s = .next { s with m := seen.dropNew p 6 }) ∧
    (ok = true → here → m.isDel p = true → m.fg FLT_STAT FLT_STAT_stop_playout = 1 →
      exec (.playoutItemArrive p b ok t) s = .next { s with m := seen.dropNew p 5 }) ∧
    (ok = true → here → m.isDel p = true → m.fg FLT_STAT FLT_STAT_stop_playout = 0 → (m.pst p = 7 ∨ m.pst p = 8) →
      exec (.playoutItemArrive p b ok t) s = .next { s with m := seen.dropNew p 3 }) ∧
    (∀ i, ok = true → here → m.isDel p = true → m.fg FLT_STAT FLT_STAT_stop_playout = 0 → m.pst p ≠ 7 → m.pst p ≠ 8 →
      m.devSt p sub = 2 → m.playPipe p sub = some i → m.pipeSt i = 1 → dlPassed m.ctime (m.effective p sub b) = false →
      exec (.playoutItemArrive p b ok t) s = .next { s with m := seen.setPort p { seen.port p with items := (seen.port p).items ++ [{ bytes := b, eff := m.effective p sub b, pipe := i, anchor := seen.anchor p sub (itemTime b) (seen.fg (pcW0 i) pcSpeed == 3) }] } }))) ∧
  (∀ (p : Fin 48) (t : Nat) (s : State),
    let m := s.m.at_ t
    let gone := (m.port p).items.filter (fun i => dlPassed m.ctime i.eff && !(m.port p).onWire i)
    exec (.playoutDeadlinePass p t) s = .next { s with m := let n := m.dropItems p (fun i => dlPassed m.ctime i.eff) 1; if gone = [] then n else n.raise fDeadlineMiss (0x100 + p.val) }) ∧
  (∀ (p : Fin 48) (a : Fin 128) (s : State),
    ((∃ i ∈ s.m.portPipes p, s.m.fg (pcW0 i) pcAddr = a) → exec (.quarantineEnd p a) s = .next s) ∧
    ((∀ i ∈ s.m.portPipes p, s.m.fg (pcW0 i) pcAddr ≠ a) → exec (.quarantineEnd p a) s = .next { s with m := s.m.setPort p { s.m.port p with quar := (s.m.port p).quar.filter (fun x => x != a.val) } })) ∧
  (∀ (p : Fin 48) (t : Nat) (s : State),
    exec (.playingTimeout p t) s = .next { s with m := if (s.m.port p).lastItem + 100000000 ≤ (s.m.at_ t).ctime then (s.m.at_ t).fs (PRT_STAT p) PRT_STAT_playing 0 else s.m.at_ t }) ∧
  (∀ (p : Fin 48) (up : List (Fin 512)) (t : Nat) (s : State),
    let m := (s.m.at_ t).upsetItems p (up.map (·.val))
    let x := m.port p
    let left := x.todo.filter (fun i => x.late.contains i || (m.slotPlan p i (t / 125000) t).isSome)
    let due := m.slotOrder p (t / 125000)
    let counted := m.inc (PRT_SLOT_OVR p) PRT_SLOT_OVR_count (left.length + (due.filter (fun i => left.contains i)).length)
    let n := ((counted.setPort p { x with todo := left ++ due.filter (fun i => !left.contains i), mf := t / 125000, late := [], ttUsed := if t / 125000 % 8 = 0 then [] else x.ttUsed }).sendCsplits p (t / 125000)).enumAgain p
    (m.issuing p = false → exec (.microframeStart p up t) s = .next { s with m := m }) ∧
    (m.issuing p = true → t % (if m.portHs p = true then 125000 else 1000000) = 0 → exec (.microframeStart p up t) s = .next { s with m := if x.tx.isSome = true then n else (n.runSlots 64 p (t + bitsNs (m.portHs p) (packetBits (m.portHs p) 3))).asyncRun p }))

/-- On a port that is not in hub mode: a result that no transaction asked for, at an address not in quarantine, changes
only the chain time. The end of a transaction of an open pipe takes it off the wire, and then an ACK clears the error
count, flips the toggle and removes the item sent; a NAK only clears the error count; a STALL halts the pipe; an error
without playout counts one, and the third in a row halts the pipe; after it overdue items go and the next entries
start if the port may issue. A NYET of a split with complete-splits left moves its next one to the following
microframe. On a hub-mode port the transaction translator takes the end. (R142, R143, R153, R156) -/
def Obligations.TransactionEndsOnPorts : Prop :=
  ∀ (p : Fin 48) (pipe : Fin 512) (t : Nat) (s : State),
    let m := s.m.at_ t
    let go := fun m : Mach => if (m.issuing p && (m.port p).tx.isNone) = true then (m.runSlots 64 p t).asyncRun p else m
    let off := m.setPort p { m.port p with tx := (m.port p).tx.filter (fun y => y.pipe != pipe.val), splits := (m.port p).splits.filter (fun y => y.pipe != pipe.val) }
    (∀ res, s.m.isHub p = true → exec (.transactionComplete p pipe res t) s = .next { s with m := s.m.ttDone p res }) ∧
    (∀ res, s.m.isHub p = false → (m.port p).txs.find? (fun y => y.pipe == pipe.val) = none →
      (m.port p).quar.contains (m.fg (pcW0 pipe) pcAddr) = false → exec (.transactionComplete p pipe res t) s = .next { s with m := m }) ∧
    (∀ tx, s.m.isHub p = false → (m.port p).txs.find? (fun y => y.pipe == pipe.val) = some tx → tx.pipe = pipe →
      (1 < tx.cs → exec (.transactionComplete p pipe .nyet t) s = .next { s with m := m.setPort p { m.port p with splits := (m.port p).splits.map (fun y => if (y.pipe == pipe.val) = true then { tx with cs := tx.cs - 1, csAt := t / 125000 + 1 } else y) } }) ∧
      (off.pipeSt pipe ≠ 3 →
        (∀ b, tx.item = some b → exec (.transactionComplete p pipe .ack t) s = .next { s with m := let n := (off.txGood p pipe).flipTog pipe; go ((n.setPort p ((n.port p).takeItem pipe b)).sweepItems p) }) ∧
        exec (.transactionComplete p pipe .nak t) s = .next { s with m := go ((off.txGood p pipe).sweepItems p) } ∧
        exec (.transactionComplete p pipe .stall t) s = .next { s with m := go (((off.txGood p pipe).pipeHalt p pipe).sweepItems p) } ∧
        exec (.transactionComplete p pipe .error t) s = .next { s with m := go ((off.txError p pipe tx.item.isSome).sweepItems p) }))

/-- A write that reaches the register (the core die runs, checks 1 to 3 of R411 pass, no processor store is held) is
answered OK: reset of a delegated port that can be reset resets it and of another changes nothing; suspend of a
delegated port in ENABLED suspends it with a bus record; resume of a delegated port in SUSPENDED begins the resume
drive with reason 1; disable acts in ENABLED only; apply sets pending for the slot copy. Each changes nothing else
beside the answer. (R144, R146, R157, R164, R410, R411) -/
def Obligations.RegisterRowsActOnPorts : Prop :=
  ∀ (a : Acc) (p : Fin 48) (s : State),
    (Reaches s a (PRT_CTRL p) true →
      (s.m.isDel p = true → s.m.canReset p = true → exec (.prtReset a p) s = .next { s with m := (s.m.resetPort p).answer a 0 0 }) ∧
      ((s.m.isDel p = false ∨ s.m.canReset p = false) → exec (.prtReset a p) s = .next { s with m := s.m.answer a 0 0 }) ∧
      (s.m.isDel p = true → s.m.pst p = 6 →
        exec (.prtSuspend a p) s = .next { s with m := ((s.m.setPst p 7).emit .portBus [p, 2]).answer a 0 0 }) ∧
      (s.m.isDel p = true → s.m.pst p = 7 → exec (.prtResume a p) s = .next { s with m := (s.m.driveResume p 1).answer a 0 0 }) ∧
      (s.m.isDel p = true → s.m.pst p = 6 → exec (.prtDisable a p) s = .next { s with m := (s.m.prtDisable p).answer a 0 0 }) ∧
      ((s.m.isDel p = false ∨ s.m.pst p ≠ 6) → exec (.prtSuspend a p) s = .next { s with m := s.m.answer a 0 0 } ∧
        exec (.prtDisable a p) s = .next { s with m := s.m.answer a 0 0 }) ∧
      ((s.m.isDel p = false ∨ s.m.pst p ≠ 7) → exec (.prtResume a p) s = .next { s with m := s.m.answer a 0 0 })) ∧
    (Reaches s a (PRT_SLOT_CTRL p) true →
      exec (.slotApply a p) s = .next { s with m := (s.m.fs (PRT_SLOT_CTRL p) PRT_SLOT_CTRL_pending 1).answer a 0 0 })

/-- For a write that reaches its register: REN_CTRL stores its fields, marks REN_ uncommitted, with kat_en 0 ends waiting
tests and, where enable goes to 0, halts every stream; GROUP_CANCEL of a pending change not yet begun clears pending,
of another sets cancel_late_ev; GROUP_REVERT of a settled group copies its dirty tables, of an unsettled one is
BAD_STATE; WTP enable, ECS readout, DPY invalidate and clear store the register's fields and act; HUB_CTRL connects or
disconnects by its bit 0; HOOP_ON and HOOP_OFF cross a quiet die link and answer what their switch answers, and over a
busy one their REG_REQ joins its packets; CHN_CTRL trains enabled ports and takes the others down; the watchdog kick
keeps enable and period. CONFIG registers mark their block for Tally. (R99, R100, R101, R222, R270, R305, R354, R411,
R415, R431, R464, R519) -/
def Obligations.RegisterRowsActOnEngines : Prop :=
  ∀ (a : Acc) (v : Word) (s : State),
    (Reaches s a REN_CTRL true → exec (.renCtrlWrite a v) s = .next { s with m := let n := if v.getLsbD 1 then s.m.fieldWrite REN_CTRL v else (s.m.fieldWrite REN_CTRL v).katOff; ((if s.m.fg REN_CTRL REN_CTRL_enable = 1 ∧ v.getLsbD 0 = false then (n.haltAllNow 5 false).afterHalt else n).setUncom 3 true).answer a 0 0 }) ∧
    (∀ g : Fin 16, Reaches s a (REN_GRP_CTRL g) true →
      (s.m.fg (REN_GRP_STAT g) REN_GRP_STAT_pending = 1 → (s.m.grp g).changed = [] → exec (.groupCancel a g) s = .next { s with m := (((s.m.setGrp g { s.m.grp g with flip := false }).fs (REN_GRP_STAT g) REN_GRP_STAT_pending 0)).answer a 0 0 }) ∧
      (s.m.fg (REN_GRP_STAT g) REN_GRP_STAT_pending = 0 → exec (.groupCancel a g) s = .next { s with m := (s.m.ev (REN_GRP_STAT g) REN_GRP_STAT_cancel_late_ev).answer a 0 0 }) ∧
      (s.m.isSettled g = true → s.m.fg (REN_GRP_STAT g) REN_GRP_STAT_pending = 0 →
        exec (.groupRevert a g) s = .next { s with m := (s.m.copyDirty g).answer a 0 0 }) ∧
      (s.m.isSettled g = false → exec (.groupRevert a g) s = .next { s with m := s.m.answer a 0x13 0 })) ∧
    (∀ n : Fin 4, Reaches s a (WTP_T_CFG n) true → s.m.fg (WTP_T_CFG n) WTP_T_CFG_enable = 0 →
      exec (.wtpEnable a n v) s = .next { s with m := ((((s.m.fieldWrite (WTP_T_CFG n) (v ||| 0x80000000#32)).tapEnabled n).tapFull n).setUncom 5 true).answer a 0 0 }) ∧
    (∀ counts : List Word, Reaches s a DMC_SCRUB true → exec (.dmcEcsNow a counts) s = .next { s with m := (((s.m.fieldWrite DMC_SCRUB (s.m.rg DMC_SCRUB &&& 0xBFFFFFFF#32)).setUncom 7 true).ecsRead counts).answer a 0 0 }) ∧
    (Reaches s a DPY_CTRL true → s.m.fg DPY_STAT DPY_STAT_flash_busy = 0 →
      exec (.dpyInvalidate a) s = .next { s with m := (((s.m.fieldWrite DPY_CTRL (s.m.rg DPY_CTRL ||| 4#32)).startFlash .invalidate).setUncom 8 true).answer a 0 0 } ∧
      ((s.m.rg DPY_CTRL).getLsbD 2 = false → exec (.dpyMarkClear a) s = .next { s with m := (((s.m.fieldWrite DPY_CTRL (s.m.rg DPY_CTRL ||| 8#32)).startFlash .markClear).setUncom 8 true).answer a 0 0 })) ∧
    (Reaches s a HUB_CTRL true →
      ((s.m.connectWrite (v.getLsbD 0)).1 = 0 → exec (.hubCtrlWrite a v) s = .next { s with m := (s.m.connectWrite (v.getLsbD 0)).2.answer a 0 0 }) ∧
      (v.getLsbD 0 = true → s.m.fg HUB_CTRL HUB_CTRL_connect ≠ 1 → s.m.mapOk = false →
        exec (.hubCtrlWrite a v) s = .next { s with m := s.m.answer a 0x13 0 })) ∧
    (∀ k : Fin 12, Reaches s a (PDI_HOOP_CTRL k) true →
      let asked := fun w : Word => s.m.dlPass .core 0x1 1 (regReqData (PDI_HOOP_CTRL k) (some w))
      let told := fun (m : Mach) (st : Nat) => (m.dlPass .power 0x2 0 (regRspData st 0)).answer a st 0
      (s.m.dl.quiet = true → exec (.hoopOff a k) s = .next { s with m := told ((asked 1).swOffReq (.hoop k)) 0 } ∧
        (∀ n st, (asked 2).swOnReq (.hoop k) = (st, n) → st < 0x100 → exec (.hoopOn a k) s = .next { s with m := told n st })) ∧
      (s.m.dl.quiet = false →
        exec (.hoopOff a k) s = .next { s with m := s.m.pdiSend (.own a) [{ addr := PDI_HOOP_CTRL k, write := some 1 }] } ∧
        exec (.hoopOn a k) s = .next { s with m := s.m.pdiSend (.own a) [{ addr := PDI_HOOP_CTRL k, write := some 2 }] })) ∧
    (Reaches s a CHN_CTRL true → exec (.chnCtrlWrite a v) s = .next { s with m := (((s.m.fieldWrite CHN_CTRL v).chnApply).setUncom 9 true).answer a 0 0 }) ∧
    (Reaches s a JNL_WDOG true → exec (.watchdogKick a) s = .next { s with m := (((s.m.fieldWrite JNL_WDOG (s.m.rg JNL_WDOG ||| 0x40000000#32)).boots (fun b => { b with wdogOnce := false })).markConfig JNL_WDOG).answer a 0 0 })

/-- For writes that reach their register: FLT_ACK with the value of a valid FLT_FIRST acknowledges it and cancels its
group's grace timer, with another value it is BAD_STATE and changes nothing else; FLT_HANDLED cancels the grace timers
of the groups whose bits are set; a release is accepted when no first fault, no running timer, no class A condition
and no heartbeat stop stands, and is BAD_STATE else; FLT_INJ raises the named source in factory test mode and is a
reserved address outside it, answered OK without effect. (R411, R541, R544, R547, R557, R575) -/
def Obligations.FaultRegistersFollowTheirRules : Prop :=
  ∀ (a : Acc) (v : Word) (s : State),
    (Reaches s a FLT_ACK true →
      (s.m.fg FLT_FIRST FLT_FIRST_valid = 1 → s.m.rg FLT_FIRST = v → exec (.fltAckWrite a v) s = .next { s with m := let m := forEach (upTo 4) (fun n m => m.wr (FLT_RAISED n) 0) ((s.m.wr FLT_FIRST 0).wr FLT_OVF 0); (m.cancelGrace (s.m.fg FLT_FIRST FLT_FIRST_group)).answer a 0 0 }) ∧
      ((s.m.fg FLT_FIRST FLT_FIRST_valid = 0 ∨ s.m.rg FLT_FIRST ≠ v) →
        exec (.fltAckWrite a v) s = .next { s with m := s.m.answer a 0x13 0 })) ∧
    (Reaches s a FLT_HANDLED true → exec (.fltHandled a v) s = .next { s with m := (forEach ((upTo 8).filter (fun g => v.getLsbD g)) (fun g m => m.cancelGrace g) s.m).answer a 0 0 }) ∧
    (Reaches s a FLT_CTRL true →
      ((s.m.fg FLT_FIRST FLT_FIRST_valid ≠ 0 ∨ s.m.fg FLT_PEND FLT_PEND_running ≠ 0 ∨ s.m.classAPersists = true ∨ s.m.fg FLT_STAT FLT_STAT_hb_stop ≠ 0) →
        exec (.fltRelease a) s = .next { s with m := s.m.answer a 0x13 0 }) ∧
      (s.m.fg FLT_FIRST FLT_FIRST_valid = 0 → s.m.fg FLT_PEND FLT_PEND_running = 0 → s.m.classAPersists = false → s.m.fg FLT_STAT FLT_STAT_hb_stop = 0 →
        exec (.fltRelease a) s = .next { s with m := let m := ((s.m.fs FLT_PEND FLT_PEND_escalated 0).fs FLT_STAT FLT_STAT_stop_playout 0).fs REN_STAT REN_STAT_stop 0; let m := (m.fs FLT_STAT FLT_STAT_hoops_off 0).fs FLT_STAT FLT_STAT_alive_frozen 0; (if m.dl.inService = true then m.hoopsOffOut else m).answer a 0 0 })) ∧
    (Reaches s a FLT_INJ true →
      (s.m.fg FLT_STAT FLT_STAT_factory = 0 → exec (.fltInj a v) s = .next { s with m := s.m.answer a 0 0 }) ∧
      (s.m.fg FLT_STAT FLT_STAT_factory = 1 → exec (.fltInj a v) s = .next { s with m := (s.m.raise (v.toNat / 65536 % 256) (v.toNat % 65536)).answer a 0 0 }))

/-- For a write that reaches JNL_RESET: warm with 0xC3 puts out its answer and then is a warm reset of the whole chip, in
which the lock bits clear and the DRAM contents go; warm-retain with 0xC3 answers, stops the streams and, unless D4
has requests to complete first, resets the chip with the DRAM retained or the refuser recorded, in which the lock bits
clear too; while a warm-retain reset waits, both are answered OK and ignored; any other confirmation is refused
BAD_STATE with no other effect. (R423, R577, R578, R579, R581) -/
def Obligations.ResetRegisterResets : Prop :=
  ∀ (a : Acc) (k : BitVec 8) (s : State), Reaches s a JNL_RESET true →
    (k = 0xC3#8 → s.m.boot.retaining = true → exec (.jnlResetWarm a k) s = .next { s with m := s.m.answer a 0 0 } ∧
      exec (.jnlResetWarmRetain a k) s = .next { s with m := s.m.answer a 0 0 }) ∧
    (k = 0xC3#8 → s.m.boot.retaining = false →
      let n := (s.m.answer a 0 0).retainStops
      exec (.jnlResetWarm a k) s = .next { s with m := (s.m.answer a 0 0).chipReset rsWarm 0 true, dram := [], guard := 0 } ∧
      (n.retainWaits = true → exec (.jnlResetWarmRetain a k) s = .next { s with m := n.retainEnter }) ∧
      (n.retainWaits = false → ∃ u, exec (.jnlResetWarmRetain a k) s = .next u ∧ u = ({ s with m := n } : State).retainReset true n.retainRefuser ∧
        u.guard = 0 ∧ u.pending = s.pending)) ∧
    (k ≠ 0xC3#8 → exec (.jnlResetWarm a k) s = .next { s with m := s.m.answer a 0x13 0 } ∧
      exec (.jnlResetWarmRetain a k) s = .next { s with m := s.m.answer a 0x13 0 })

/-- With the checks of R390 and checks 1 to 3 of R411 passed, at an address off the die link: a read answers the word and
keeps its read effects; a write of an unguarded register that its block accepts has its effect, marks its block for
Tally and is answered OK, and one that its block refuses is answered with that status alone; a write of a reserved
address is OK without effect; a write of a register whose guard group is locked is LOCKED and counted, a plain write
of an unlocked guarded one on a hub that is not joined is KEY_MISMATCH and counted, a keyed write with the right
complement has the effect, with a wrong one is KEY_MISMATCH, and one of an unguarded register is BAD_STATE; a read-
modify-write stores the masked bits and answers the old word; a block read that need not wait for the link answers
consecutive words. A gate's refusal is answered with its status. (R410, R411, R412, R416, R420, R421, R422, R423) -/
def Obligations.RegisterCommandsPassTheChecks : Prop :=
  ∀ (c : Cmd) (s : State),
    let a := c.p 8 3
    let ch := c.arrival.val
    let w : Word := BitVec.ofNat 32 (c.p 12 4)
    (s.m.serves c (cmdBare c) true = true →
      (∀ st v n, isPdi a = false → s.m.accessGate ch false a none = none → s.m.readWord s.guard.toNat ch a = (st, v, n) →
        exec (.regRd c) s = .next { s with m := n.reply c st (f12 v.toNat) }) ∧
      (∀ st n, s.m.accessGate ch false a none = some (st, n) → exec (.regRd c) s = .next { s with m := n.reply c st 0 }) ∧
      (isPdi a = false → s.m.accessGate ch false a (some (c.b 11 % 16)) = none →
        (s.m.siteAt a = none → exec (.regWr c) s = .next { s with m := s.m.reply c 0 }) ∧
        (∀ site n, s.m.siteAt a = some site → (regRow a).bind (·.guard) = none → s.m.blockRule (false || ch == 2) w site = none →
          s.m.writeEffect a w (c.b 11 % 16) site = (0, n) → a ≠ JNL_RESET →
          exec (.regWr c) s = .next { s with m := (n.markConfig a).reply c 0, guard := if a = GLB_GUARD then s.guard ||| w.setWidth 7 else s.guard }) ∧
        (∀ site st, s.m.siteAt a = some site → (regRow a).bind (·.guard) = none → s.m.blockRule (false || ch == 2) w site = some st →
          st ≠ 0 → st < 0x100 → exec (.regWr c) s = .next { s with m := s.m.reply c st }) ∧
        (∀ site g, s.m.siteAt a = some site → (regRow a).bind (·.guard) = some g →
          (s.guard.getLsbD g = true → exec (.regWr c) s = .next { s with m := (s.m.sat GLB_KEYERR GLB_KEYERR_locked).reply c 0x08 }) ∧
          (s.guard.getLsbD g = false → s.m.joined = false →
            exec (.regWr c) s = .next { s with m := (s.m.sat GLB_KEYERR GLB_KEYERR_key).reply c 0x09 })))) ∧
    (s.m.serves c (decide (c.payload.length = 4)) true = true → isPdi a = false → s.m.accessGate ch false a (some 15) = none →
      (∀ site g n, s.m.siteAt a = some site → (regRow a).bind (·.guard) = some g → s.guard.getLsbD g = false →
        (leNat c.payload = (~~~w).toNat → s.m.blockRule (false || ch == 2) w site = none → s.m.writeEffect a w 15 site = (0, n) → a ≠ JNL_RESET → a ≠ GLB_GUARD →
          exec (.regWrKeyed c) s = .next { s with m := (n.markConfig a).reply c 0 }) ∧
        (leNat c.payload ≠ (~~~w).toNat → exec (.regWrKeyed c) s = .next { s with m := (s.m.sat GLB_KEYERR GLB_KEYERR_key).reply c 0x09 })) ∧
      (∀ site, s.m.siteAt a = some site → (regRow a).bind (·.guard) = none → exec (.regWrKeyed c) s = .next { s with m := s.m.reply c 0x13 }) ∧
      (∀ old m site n, s.m.accessGate ch false a none = none → s.m.readWord s.guard.toNat ch a = (0, old, m) →
        let v := (old &&& ~~~w) ||| (BitVec.ofNat 32 (leNat c.payload) &&& w)
        m.accessGate ch false a (some 15) = none → m.siteAt a = some site → (regRow a).bind (·.guard) = none →
        m.blockRule (false || ch == 2) v site = none → m.writeEffect a v 15 site = (0, n) → a ≠ JNL_RESET → a ≠ GLB_GUARD →
        exec (.regRmw c) s = .next { s with m := (n.markConfig a).reply c 0 (f12 old.toNat) })) ∧
    (∀ st l m, s.m.serves c (cmdBare c && decide (4 ≤ c.p 12 2 ∧ c.p 12 2 ≤ 1024 ∧ c.p 12 2 % 4 = 0)) true = true →
      s.m.pdiWaits ch false a none = false → (∀ q, siteOf a ≠ some (.queData q)) → s.m.wordBlock (c.p 12 2 / 4) s.guard.toNat ch a = (st, l, m) →
      exec (.regRdBlock c) s = .next { s with m := m.reply c st 0 l })

/-- An access that reaches its register: a full-word write of an unguarded register off the die link that its block
accepts has its effect and is answered OK; a read of a pair's low word answers the low word and holds the high word,
as it is then, for the same channel's read of it; a read of a queue's data register answers the next word and removes
it, or BAD_STATE in mode 1 at a packet boundary. A held store whose 64 cycles pass is discarded and counted, with none
held nothing happens, and the end of SERVICE mode clears the mode. (R410, R414, R416, R419, R422) -/
def Obligations.RegisterAccessesAreAnswered : Prop :=
  (∀ (a : Acc) (addr : BitVec 24) (v : Word) (s : State) (site : RegSite) (n : Mach), Reaches s a addr.toNat true →
    s.m.siteAt addr.toNat = some site → (regRow addr.toNat).bind (·.guard) = none → s.m.blockRule (a.direct || a.ch.val == 2) v site = none →
    isPdi addr.toNat = false → s.m.writeEffect addr.toNat v 15 site = (0, n) → addr.toNat ≠ JNL_RESET → addr.toNat ≠ GLB_GUARD →
    exec (.regWrite a addr v 15#4) s = .next { s with m := (n.markConfig addr.toNat).answer a 0 0 }) ∧
  (∀ (a : Acc) (addr : BitVec 24) (s : State), pairLow addr.toNat = true → Reaches s a addr.toNat false →
    exec (.regPairLoRead a addr) s = .next { s with m := ({ s.m with pair := spSet 0 s.m.pair (pairKey a.ch.val (addr.toNat + 4)) (s.m.view s.guard.toNat (addr.toNat + 4)) } : Mach).answer a 0 (s.m.view s.guard.toNat addr.toNat).toNat }) ∧
  (∀ (a : Acc) (q : Fin 56) (s : State), Reaches s a (QUE_Q_DATA q) false →
    (s.m.fg (QUE_Q_CFG q) QUE_Q_CFG_mode = 1 → (s.m.q q).part = false → exec (.queDataRead a q) s = .next { s with m := s.m.answer a 0x13 0 }) ∧
    ((s.m.fg (QUE_Q_CFG q) QUE_Q_CFG_mode = 0 ∨ (s.m.q q).part = true) →
      exec (.queDataRead a q) s = .next { s with m := (s.m.queRead q).2.answer a 0 (s.m.queRead q).1.toNat })) ∧
  (∀ s : State, (s.m.cmd.keyed = none → exec .keyedStoreTimeout s = .next s) ∧
    (∀ k, s.m.cmd.keyed = some k → exec .keyedStoreTimeout s = .next { s with m := ({ s.m with cmd := { s.m.cmd with keyed := none } } : Mach).sat GLB_KEYERR GLB_KEYERR_key }) ∧
    exec .regmodeExpiry s = .next { s with m := if s.m.fg GLB_REGMODE GLB_REGMODE_mode = 1 then s.m.fs GLB_REGMODE GLB_REGMODE_mode 0 else s.m })

/-- With the checks of R390 passed and D1 and D3 ON: NOP answers OK; ECHO answers its payload; FAULT_READ the two fault
words; TIME_STATUS chain time, SHF_STAT and the offset, 0 on node 0; MODULE_LIST the device words of each port whose
domains are ON, else DOMAIN_OFF. LOCK_ACQUIRE of locks 0-3 from another channel than 2 is BAD_STATE, and of others
answers what the lock decides with its owner; LOCK_RELEASE by the owner frees the lock and by another is BAD_STATE.
CFG_COMMIT of a base Tally does not know is BAD_STATE, and of a block that answers stores its reference CRC and
answers it. FAULT_ACK with the value of a valid FLT_FIRST clears the first-fault words and answers OK, else BAD_STATE.
A hold timer's end breaks the lock. (R390, R393, R426, R427, R432, R539) -/
def Obligations.PlainCommandsAnswer : Prop :=
  (∀ (c : Cmd) (s : State), s.m.domOn 1 = true → s.m.domOn 3 = true →
    (s.m.serves c (cmdBare c) true = true →
      exec (.nop c) s = .next { s with m := s.m.reply c 0 } ∧
      exec (.faultRead c) s = .next { s with m := s.m.reply c 0 0 (leBytes 4 (s.m.rg FLT_FIRST).toNat ++ leBytes 4 (s.m.rg FLT_OVF).toNat) } ∧
      (s.m.domOn 6 = true → exec (.timeStatus c) s = .next { s with m := s.m.reply c 0 0 (leBytes 8 s.m.ctime ++ leBytes 4 (s.m.rg SHF_STAT).toNat ++ leBytes 4 (twos 32 (if s.m.node = 0 then 0 else sext 16 (s.m.fg CHN_TIME CHN_TIME_offset)))) }) ∧
      ((∀ i < 64, tallyBase i ≠ c.p 8 3) → exec (.cfgCommit c) s = .next { s with m := s.m.reply c 0x13 }) ∧
      (∀ i, (upTo 64).find? (fun i => tallyBase i == c.p 8 3) = some i → s.m.blockOn (tallyBase i) = true →
        exec (.cfgCommit c) s = .next { s with m := (s.m.tallyCommit i).reply c 0 (f12 ((s.m.tallyCommit i).rg (TLY_REF i)).toNat) }) ∧
      (s.m.fg FLT_FIRST FLT_FIRST_valid = 1 → s.m.rg FLT_FIRST = BitVec.ofNat 32 (c.p 12 4) → exec (.faultAck c) s = .next { s with m := let m := forEach (upTo 4) (fun n m => m.wr (FLT_RAISED n) 0) ((s.m.wr FLT_FIRST 0).wr FLT_OVF 0); (m.cancelGrace (s.m.fg FLT_FIRST FLT_FIRST_group)).reply c 0 }) ∧
      ((s.m.fg FLT_FIRST FLT_FIRST_valid = 0 ∨ s.m.rg FLT_FIRST ≠ BitVec.ofNat 32 (c.p 12 4)) →
        exec (.faultAck c) s = .next { s with m := s.m.reply c 0x13 })) ∧
    (s.m.serves c (decide (c.payload.length ≤ 1024)) true = true → exec (.echo c) s = .next { s with m := s.m.reply c 0 0 c.payload }) ∧
    (s.m.serves c (cmdBare c && decide (1 ≤ c.b 9 ∧ c.b 9 ≤ 32 ∧ (c.b 8 < 48 → c.b 8 + c.b 9 ≤ 48))) (decide (c.b 8 < 48)) = true →
      (((upTo (c.b 9)).map (c.b 8 + ·)).all (fun p => s.m.domOn (8 + p / 8)) = true → exec (.moduleList c) s = .next { s with m := s.m.reply c 0 0 ((upTo (c.b 9)).flatMap (fun i => (upTo 8).flatMap (fun d => leBytes 4 (s.m.rg (PRT_DEV (c.b 8 + i) d)).toNat))) }) ∧
      (((upTo (c.b 9)).map (c.b 8 + ·)).all (fun p => s.m.domOn (8 + p / 8)) = false → exec (.moduleList c) s = .next { s with m := s.m.reply c 0x07 })) ∧
    (s.m.serves c (cmdBare c) (decide (c.b 8 < 32)) = true →
      (c.b 8 < 4 → c.chan ≠ 2#4 → exec (.lockAcquire c) s = .next { s with m := s.m.reply c 0x13 }) ∧
      (∀ st owner m, (4 ≤ c.b 8 ∨ c.chan = 2#4) → s.m.acquire (c.b 8) c = (st, owner, m) →
        exec (.lockAcquire c) s = .next { s with m := m.reply c st (f12 owner) }) ∧
      (s.m.lockHeld (c.b 8) = true → s.m.lockOwner (c.b 8) = (c.origin.val, c.chan.toNat) →
        exec (.lockRelease c) s = .next { s with m := (s.m.fs (LCK_LOCK (c.b 8)) LCK_LOCK_state 0).reply c 0 }) ∧
      ((s.m.lockHeld (c.b 8) = false ∨ s.m.lockOwner (c.b 8) ≠ (c.origin.val, c.chan.toNat)) →
        exec (.lockRelease c) s = .next { s with m := s.m.reply c 0x13 }))) ∧
  (∀ (n : Fin 32) (s : State), s.m.coreDead = false → exec (.lockHoldTimeout n) s = .next { s with m := s.m.breakLock n 3 })

/-- A cell that its block presents with none before it waits there while D3 is not ON or the input has no place for it.
Else the first cell of a unicast packet enters: for a reserved port 57-63 it is counted as misrouted, recorded and
reported (R18), for another its virtual output queue grows by it at the end unless the rest of its packet is being
discarded there. A delivery of a pair that is neither matched nor matched in the next cell time changes nothing; a
matched sound single-cell packet with no lock leaves its queue, takes one credit, goes out with its tag, and its
flight ends; the first cell of a longer packet locks the output for its input; a dst mismatch is recorded, counted and
raised, and nothing goes out. Credits add to an output's pool unless the playout queue of a port is full. A lock
timeout ends the packet with poison, discards its rest and records kind 3. After each, cells that wait at the input
enter. (R16, R18, R193, R195, R196, R197, R200, R202, R205, R206, R208, R210) -/
def Obligations.CrossbarMovesCells : Prop :=
  (∀ (i : Fin 57) (c : CellIn) (s : State), s.m.feed i c.cls = [] →
    let w := s.m.setFeed i c.cls [c]
    (s.m.domOn 3 = false → exec (.xbarCellEnqueue i c true) s = .next { s with m := w }) ∧
    (s.m.domOn 3 = true → s.m.cellFits i c = true → s.m.cellPlace i c.cls = none → exec (.xbarCellEnqueue i c true) s = .next { s with m := w }) ∧
    (∀ sh, s.m.domOn 3 = true → c.first = true → s.m.cellFits i c = true → s.m.cellPlace i c.cls = some sh → c.mcast = false →
      let e := w.setFeed i c.cls []
      let b : Mach := { e with xbr := { e.xbr with nextUid := e.xbr.nextUid + 1, openPk := spSet none e.xbr.openPk (i.val * 4 + c.cls.val) (if c.last then none else some { head := c, cells := 1, outs := [c.dst.toNat] }) } }
      (57 ≤ c.dst.toNat → exec (.xbarCellEnqueue i c true) s = .next { s with m := let r := if c.last then b.flightReturn i c.dst.toNat c.cls c.group c.epoch else b; (((r.wr XBR_LAST_ERR (BitVec.ofNat 32 (c.dst.toNat * 2 ^ 26 + i.val * 2 ^ 20 + c.cls.val * 2 ^ 18 + 2 * 2 ^ 16))).inc XBR_MISR_CNT XBR_MISR_CNT_count).ev XBR_STAT XBR_STAT_misroute_ev).raise 0x51 c.dst.toNat }) ∧
      (c.dst.toNat < 57 → s.m.xbr.discard.contains (voqKey i c.dst.toNat c.cls) = false → exec (.xbarCellEnqueue i c true) s = .next { s with m := b.setVoq i c.dst.toNat c.cls (s.m.voq i c.dst.toNat c.cls ++ [cellFor i s.m.xbr.nextUid sh c c.dst.toNat]) }))) ∧
  (∀ (i o : Fin 57) (c : Fin 4) (pOk dOk bOk : Bool) (s : State),
    let after := fun m : Mach => (m.refeed i).tapsFeed
    (s.m.xbr.matched.contains (i.val, o.val, c.val) = false → s.m.cellTime.xbr.matched.contains (i.val, o.val, c.val) = false →
      exec (.xbarCellDeliver i o c pOk dOk bOk) s = .next s) ∧
    (∀ h, s.m.xbr.matched.contains (i.val, o.val, c.val) = true → s.m.request i o c = some h →
      let m : Mach := { s.m with xbr := { s.m.xbr with matched := s.m.xbr.matched.erase (i.val, o.val, c.val) } }
      let n := (m.setVoq i o c ((m.voq i o c).drop 1)).setCredit o h.pool (m.credit o h.pool - 1)
      let tag := ({ h with poison := false } : XCell).tag
      (h.first = true → h.last = true → h.poison = false → n.lockOf o c = none → exec (.xbarCellDeliver i o c true true true) s = .next { s with m := after (((((n.setLock o c none).emit .cellOut [o, i, c, 0, 1, tag] h.data).promise o h).flightReturn i o c h.group h.epoch).packetOut o h h.data false) }) ∧
      (h.first = true → h.last = false → h.poison = false → n.lockOf o c = none → exec (.xbarCellDeliver i o c true true true) s = .next { s with m := after (((n.setLock o c (some { inp := i, group := h.group, epoch := h.epoch, bad := false, acc := if 49 ≤ o.val ∧ o.val ≤ 52 ∨ o.val = 56 then h.data else [] })).emit .cellOut [o, i, c, 0, 0, tag] h.data).promise o h) }) ∧
      let r := ((((n.xbrErr o i c 2).inc XBR_MISR_CNT XBR_MISR_CNT_count).ev XBR_STAT XBR_STAT_misroute_ev).flightReturn i o c h.group h.epoch)
      (h.last = true → r.lockOf o c = none → exec (.xbarCellDeliver i o c pOk false bOk) s = .next { s with m := after (r.raise fXbarMisroute o) }))) ∧
  (∀ (o : Fin 57) (pool : Fin 5) (n : Nat) (s : State),
    ((48 ≤ o.val ∨ pool ≠ 2 ∨ s.m.itemsFull o = false) → exec (.creditReturn o pool n) s = .next { s with m := s.m.setCredit o pool (s.m.credit o pool + n) }) ∧
    (o.val < 48 → pool = 2 → s.m.itemsFull o = true → exec (.creditReturn o pool n) s = .next s)) ∧
  (∀ (o : Fin 57) (c : Fin 4) (s : State), (s.m.lockOf o c = none → exec (.packetLockTimeout o c) s = .next s) ∧
    (∀ l, s.m.lockOf o c = some l → o.val ≠ 53 → exec (.packetLockTimeout o c) s = .next { s with m := let m := if l.gone then s.m.setLock o c none else ((s.m.setLock o c none).dropRest l.inp o c).flightReturn l.inp o c l.group l.epoch; let m := (((m.emit .cellOut [o, l.inp, c, 1, 1]).xbrErr o l.inp c 3).poisoned).ev XBR_STAT XBR_STAT_lock_to_ev; (m.refeed l.inp).tapsFeed }))

/-- A word written to a full queue changes nothing and to another is appended with its mark; a stale timeout of a queue
with words and a stale time puts stale in force. A report queue of mode 1 forwards its whole packet at the head: into
queue 51 of this hub once 512 words are free there, and as cells to the chain port of the route to another node. A tap
that does not watch a packet changes nothing; in mode 1 it counts it, and every packet that the rate picks joins the
tap's buffer of 16 cells as a sample record on its way to output 56, or is lost and counted without room. (R213, R215,
R216, R218, R219, R220, R222) -/
def Obligations.QueuesAndTaps : Prop :=
  (∀ (q : Fin 56) (w : Word) (last : Bool) (n : Fin 4) (bad : BitVec 4) (s : State),
    (queCap q ≤ (s.m.q q).words.length → exec (.queueWordWrite q w last n bad) s = .next s) ∧
    ((s.m.q q).words.length < queCap q → exec (.queueWordWrite q w last n bad) s = .next { s with m := s.m.setQ q { s.m.q q with words := (s.m.q q).words ++ [⟨w, last, if n.val = 0 then 4 else n.val, bad⟩], owed := owedAfter last (s.m.q q).owed } })) ∧
  (∀ (q : Fin 56) (s : State),
    (((s.m.q q).words = [] ∨ s.m.fg (QUE_Q_CFG q) QUE_Q_CFG_stale = 0) → exec (.queueStale q) s = .next s) ∧
    ((s.m.q q).words ≠ [] → s.m.fg (QUE_Q_CFG q) QUE_Q_CFG_stale ≠ 0 →
      exec (.queueStale q) s = .next { s with m := s.m.setQ q { s.m.q q with staleOn := true } })) ∧
  (∀ (p : Fin 48) (s : State),
    let node := s.m.fg (QUE_Q_CFG p) QUE_Q_CFG_fwd_node
    ((s.m.fg (QUE_Q_CFG p) QUE_Q_CFG_mode ≠ 1 ∨ takePacket (s.m.q p).words = none) → exec (.reportForward p) s = .next s) ∧
    (∀ pk rest, s.m.fg (QUE_Q_CFG p) QUE_Q_CFG_mode = 1 → (s.m.q p).part = false → takePacket (s.m.q p).words = some (pk, rest) →
      (∀ w ∈ pk, w.parityOk = true) →
      (node = s.m.node → s.m.qMayBegin 51 = true →
        exec (.reportForward p) s = .next { s with m := (s.m.qTake p rest).qPut 51 (wordsBytes pk) }) ∧
      (node = s.m.node → s.m.qMayBegin 51 = false → exec (.reportForward p) s = .next s) ∧
      (∀ k, node ≠ s.m.node → s.m.routePort node = some k → s.m.feed p 0 = [] → exec (.reportForward p) s = .next { s with m := (s.m.qTake p rest).form p { dst := 49 + k, cls := 0, rpt := true } (wordsBytes pk) }))) ∧
  (∀ (n : Fin 4) (pk : TapPkt) (s : State),
    let x := s.m.tapOf n
    let m := (s.m.inc (WTP_T_STAT n) WTP_T_STAT_tap_seq).setTap n { x with seen := x.seen + 1 }
    let r := sampleRec pk n (m.fg (WTP_T_STAT n) WTP_T_STAT_tap_seq) (m.fg (WTP_T_CFG n) WTP_T_CFG_dir == 1)
    let cells := cellsOf { dst := 56, cls := 3 } r none
    (s.m.tapSees n pk = false → exec (.tapObserve n pk) s = .next s) ∧
    (s.m.tapSees n pk = true → m.fg (WTP_T_CFG n) WTP_T_CFG_mode = 1 →
      (x.seen % (m.fg (WTP_T_RATE n) WTP_T_RATE_n_m1 + 1) ≠ 0 → exec (.tapObserve n pk) s = .next { s with m := m }) ∧
      (x.seen % (m.fg (WTP_T_RATE n) WTP_T_RATE_n_m1 + 1) = 0 → (m.tapOf n).buf.length + cells.length ≤ 16 → exec (.tapObserve n pk) s =
        .next { s with m := (m.setTap n { m.tapOf n with buf := (m.tapOf n).buf ++ cells }).tapsFeed }) ∧
      (x.seen % (m.fg (WTP_T_RATE n) WTP_T_RATE_n_m1 + 1) = 0 → 16 < (m.tapOf n).buf.length + cells.length →
        exec (.tapObserve n pk) s = .next { s with m := m.tapLost n })))

/-- A trip event raises the hoop's or the port's trip source with its detail, a stop, a lost heartbeat and a supply event
raise theirs, and recovery events raise nothing; each leaves the list of events on their way. RESYNC_DONE while the
link is down and the core die runs puts it in service with every held packet sent again, answers BUSY to the writes
whose completion was lost, and lets the queues of the register ring go on. In service, or with the core die dead, it
changes nothing. (R8, R10, R537) -/
def Obligations.DieLinkEventsRaiseFaults : Prop :=
  (∀ s : State,
    let gone := fun ev : PdEvent => ({ s.m with dl := { s.m.dl with events := s.m.dl.events.erase ev } } : Mach)
    (∀ (k : Fin 12) (c : BitVec 4), exec (.dielinkEventRx (.trip (.hoop k) c)) s = .next { s with m := (gone (.trip (.hoop k) c)).raise fHoopTrip (k.val + 16 * c.toNat) }) ∧
    (∀ (p : Fin 48) (c : BitVec 4), exec (.dielinkEventRx (.trip (.vbus p) c)) s = .next { s with m := (gone (.trip (.vbus p) c)).raise fVbusTrip (p.val + 256 * c.toNat) }) ∧
    exec (.dielinkEventRx .safeStop) s = .next { s with m := (gone .safeStop).raise fSafeStop 0 } ∧
    exec (.dielinkEventRx .heartbeatLost) s = .next { s with m := (gone .heartbeatLost).raise fHeartbeatLost 0 } ∧
    exec (.dielinkEventRx .safeStopRelease) s = .next { s with m := gone .safeStopRelease } ∧
    (∀ n high, exec (.dielinkEventRx (.supply n high)) s = .next { s with m := (gone (.supply n high)).raise (if high then fSupplyOv else fSupplyUv) n.val })) ∧
  (∀ s : State,
    let lost := s.m.dl.reqs.filter (·.writes)
    let m : Mach := { s.m with dl := { s.m.dl with reqs := s.m.dl.reqs.map (fun r => if r.writes = true then { r with who := .gone } else r) } }
    ((s.m.coreDead = true ∨ s.m.dl.inService = true) → exec .dielinkResyncDone s = .next s) ∧
    (s.m.coreDead = false → s.m.dl.inService = false → exec .dielinkResyncDone s =
      .next { s with m := (forEach lost (fun r m => m.pdiBusy r.who) m.dlInService).rindPump }))

/-- With D4 ON, a request that fails a check of R622 waits refused for its turn to be answered and one that passes joins
the front; with D4 not ON nothing changes. A grant with grants stopped, no free slot or no head request changes only
the chain time; else a write that an ABORT ended leaves ungranted, a request not permitted now is refused DENIED, and
any other is counted, leaves the front and takes the lowest free slot with its grant number. A quota window's end
clears both counts. A start marks the request the bank scheduler picks as started and counts one pass against each
older one that waits; with none to start only the chain time changes. (R244, R246, R250, R252, R254, R255, R260, R261,
R622) -/
def Obligations.DramRequestsAreCheckedAndGranted : Prop :=
  (∀ (p : DramPk) (s : State),
    let r := reqOf p
    (s.m.domOn 4 = false → exec (.dramRequestArrive p) s = .next s) ∧
    (∀ st, s.m.domOn 4 = true → s.m.reqCheck r = some st → exec (.dramRequestArrive p) s = .next { s with m := ((s.m.drainRest r).frontAdd (r.refused st)).answerDue }) ∧
    (s.m.domOn 4 = true → s.m.reqCheck r = none → r.isWrite = true → exec (.dramRequestArrive p) s = .next { s with m := s.m.frontAdd r }) ∧
    (s.m.domOn 4 = true → s.m.reqCheck r = none → r.isWrite = false → exec (.dramRequestArrive p) s = .next { s with m := (s.m.drainRest r).frontAdd { r with data := [], whole := true } })) ∧
  (∀ (t : Nat) (s : State),
    let m := s.m.at_ t
    ((m.domOn 4 = false ∨ m.dmc.stopGrants = true ∨ m.freeSlots = [] ∨ m.choose = none) → exec (.frontArbGrant t) s = .next { s with m := m }) ∧
    (∀ i l r, m.domOn 4 = true → m.dmc.stopGrants = false → m.freeSlots = i :: l → m.choose = some r →
      (∀ c, m.killedBy r = some c → exec (.frontArbGrant t) s = .next { s with m := m.dropKilled r c }) ∧
      (m.killedBy r = none → m.mayAccess r = false → exec (.frontArbGrant t) s = .next { s with m := m.deny r }) ∧
      (m.killedBy r = none → m.mayAccess r = true → exec (.frontArbGrant t) s = .next { s with m := let c := m.countGrant r; let g : Mach := { c with dmc := { c.dmc with front := c.dmc.front.erase r, grants := c.dmc.grants + 1 } }; (g.setSlot i (some ⟨r, c.dmc.grants + 1, 0, false, false⟩)).commitGrant r }))) ∧
  (∀ s : State, exec .quotaWindowEnd s = .next { s with m := { s.m with dmc := { s.m.dmc with usedProc := 0, usedChain := 0 } } }) ∧
  (∀ (rows : List (Nat × Nat)) (ready : List Nat) (t : Nat) (s : State),
    let m := s.m.at_ t
    (m.startPick rows ready = none → exec (.bankScheduleStart rows ready t) s = .next { s with m := m }) ∧
    (∀ i x, m.startPick rows ready = some (i, x) → exec (.bankScheduleStart rows ready t) s = .next { s with m := let n := forEach m.held (fun e m => if (decide (e.2.grant < x.grant) && !e.2.started) = true then m.setSlot e.1 (some { e.2 with passes := e.2.passes + 1 }) else m) m; n.setSlot i (some { x with started := true }) }))

/-- For a slot whose request may make its last access (it has started, no alert has stopped issuing, its rank is not
taken, and no older request of the same requester and class is held): when it is a write, DRAM_REQUEST_COMPLETE
answers a next state in which every byte of the request's data stands at its address and every other byte of the DRAM
is unchanged; when it is a read, every byte is unchanged. With an empty slot, with a request that may not make its
last access, and for a read of patrol scrub, only the chain time changes. (R243, R249, R250, R251, R259, R271) -/
def Obligations.DramWriteStoresItsBytesOnly : Prop :=
  ∀ (i : Fin 4) (ecc : List EccRes) (track : List (Fin 10 × Bool)) (t : Nat) (s : State),
    let m := s.m.at_ t
    (m.slot i = none → exec (.dramRequestComplete i ecc track t) s = .next { s with m := m }) ∧
    (∀ x, m.slot i = some x →
      (x.started = false ∨ m.dmc.alert = true ∨ m.rankTaken (m.rankOf x.req.addr) = true ∨ x.req.requester = 8 ∨
        (∃ e ∈ m.held, e.2.grant < x.grant ∧ e.2.req.requester = x.req.requester ∧ e.2.req.cls = x.req.cls)) →
      exec (.dramRequestComplete i ecc track t) s = .next { s with m := m }) ∧
    (∀ x, m.slot i = some x → x.started = true → m.dmc.alert = false → m.rankTaken (m.rankOf x.req.addr) = false → x.req.requester ≠ 8 →
      (∀ e ∈ m.held, ¬ (e.2.grant < x.grant ∧ e.2.req.requester = x.req.requester ∧ e.2.req.cls = x.req.cls)) →
      ∃ u, exec (.dramRequestComplete i ecc track t) s = .next u ∧ u.guard = s.guard ∧ u.pending = s.pending ∧
        (x.req.isWrite = true → (∀ j b, x.req.data[j]? = some b → spGet 0 u.dram (x.req.addr + j) = b) ∧
          (∀ a, (a < x.req.addr ∨ x.req.addr + x.req.data.length ≤ a) → spGet 0 u.dram a = spGet 0 s.dram a)) ∧
        (x.req.isWrite = false → u.dram = s.dram))

/-- A refresh due for a fitted rank outside self-refresh charges the account or queues the RFM and lets the refresh engine
look; the end of one gives the rank back. A retraining round runs only while a refresh of the rank holds it, and then
counts. A DDR4 temperature estimate sets the rate for the next boundary, and one first above 95 °C raises the fault.
ALERT_N in use stops issuing; its end precharges, replays the kept bursts and counts. The debug port asks for a fitted
rank, and gives back one it holds. Scrub asks the front arbiter for its read, and once that may complete it looks at
the code word and moves on. The watchdog ends a hung read with HUNG, counts, logs and raises it, and waits while an
emergency requester holds the DRAM. The end of initialisation lists nothing in DRAM and sets init_done. (R258, R259,
R262, R264, R265, R270, R271, R272, R273, R314) -/
def Obligations.DramUpkeep : Prop :=
  (∀ (k : Fin 2) (s : State),
    ((s.m.fg DMC_STAT DMC_STAT_selfref = 1 ∨ s.m.rankCount ≤ k.val ∨ s.m.domOn 4 = false) → ∀ b, exec (.refreshDue k b) s = .next s) ∧
    (s.m.fg DMC_STAT DMC_STAT_selfref ≠ 1 → k.val < s.m.rankCount → s.m.domOn 4 = true →
      exec (.refreshDue k true) s = .next { s with m := ({ s.m with dmc := { s.m.dmc with rfmDue := s.m.dmc.rfmDue ++ [k.val] } } : Mach).refreshTry k } ∧
      exec (.refreshDue k false) s = .next { s with m := let m := s.m.fs DMC_STAT DMC_STAT_hot (b2n s.m.dmc.hotNext); (m.setAcct k (m.acct k - 1)).refreshTry k }) ∧
    (s.m.dmc.taken.contains k.val = false → exec (.refreshComplete k) s = .next s) ∧
    (s.m.dmc.taken.contains k.val = true → exec (.refreshComplete k) s = .next { s with m := (({ s.m with dmc := { s.m.dmc with taken := s.m.dmc.taken.erase k.val, rfmOn := s.m.dmc.rfmOn.erase k.val } } : Mach).refreshTry k).debugTry })) ∧
  (∀ (k : Fin 2) (moves : List (Fin 5 × Bool)) (s : State),
    ((s.m.domOn 4 = false ∨ s.m.fg DPY_CTRL DPY_CTRL_retrain_en ≠ 1 ∨ s.m.fg DPY_STAT DPY_STAT_trained ≠ 1 ∨ s.m.fg DMC_STAT DMC_STAT_selfref ≠ 0 ∨
      s.m.dmc.taken.contains k.val = false ∨ s.m.dmc.rfmOn.contains k.val = true ∨ s.m.dmc.alert = true) → exec (.retrainRound k moves) s = .next s) ∧
    (s.m.domOn 4 = true → s.m.fg DPY_CTRL DPY_CTRL_retrain_en = 1 → s.m.fg DPY_STAT DPY_STAT_trained = 1 → s.m.fg DMC_STAT DMC_STAT_selfref = 0 →
      s.m.dmc.taken.contains k.val = true → s.m.dmc.rfmOn.contains k.val = false → s.m.dmc.alert = false → s.m.ddr5 = true →
      exec (.retrainRound k []) s = .next { s with m := (((s.m.emit .dramDev [5, k]).sat (DPY_DRIFT k) DPY_DRIFT_rounds).driftCheck k) })) ∧
  (∀ (j : Int) (devs : List DevTemp) (s : State),
    (s.m.domOn 4 = false → exec (.tempEstimate j devs) s = .next s) ∧
    (s.m.domOn 4 = true → s.m.ddr5 = false →
      let est := s.m.estimate j devs
      let m := s.m.fs DMC_TEMP DMC_TEMP_temp (tap8 est)
      let n : Mach := { m with dmc := { m.dmc with hotNext := if 85 < est then true else if est < 82 then false else s.m.dmc.hotNext, tooHot := decide (95 < est) } }
      ((est ≤ 95 ∨ s.m.dmc.tooHot = true) → exec (.tempEstimate j devs) s = .next { s with m := n }) ∧
      (95 < est → s.m.dmc.tooHot = false → exec (.tempEstimate j devs) s = .next { s with m := (n.ev DMC_STAT DMC_STAT_temp_ev).raise fTempHigh 0 }))) ∧
  (∀ (k : Fin 2) (b : Nat) (s : State),
    (s.m.alertUsed = false → exec (.dramAlert k b) s = .next s) ∧
    (s.m.alertUsed = true → s.m.dmc.alertBurst ≠ some b → exec (.dramAlert k b) s = .next { s with m := { s.m with dmc := { s.m.dmc with alert := true, alertBurst := some b, replays := 0 } } }) ∧
    (s.m.dmc.alert = false → exec (.alertNEnd k) s = .next s) ∧
    (s.m.dmc.alert = true → exec (.alertNEnd k) s = .next { s with m := let m : Mach := { s.m with dmc := { s.m.dmc with alert := false, replays := s.m.dmc.replays + 1 } }; let m := forEach (upTo m.rankCount) (fun k m => m.emit .dramDev [3, k]) m; let m := forEach m.dmc.bursts (fun b m => m.emit .dramDev [2, k, b2n b.write, b.addr] b.data) m; (((m.inc DMC_ALERT_CNT DMC_ALERT_CNT_count).refreshTry 0).refreshTry 1).debugTry })) ∧
  (∀ (k : Fin 2) (s : State),
    ((s.m.domOn 4 = false ∨ s.m.rankCount ≤ k.val ∨ s.m.dmc.debugHeld.isSome = true) → exec (.debugPortAccess k true) s = .next s) ∧
    (s.m.domOn 4 = true → k.val < s.m.rankCount → s.m.dmc.debugHeld = none → exec (.debugPortAccess k true) s = .next { s with m := ({ s.m with dmc := { s.m.dmc with debugDue := some k.val } } : Mach).debugTry }) ∧
    (s.m.domOn 4 = true → s.m.dmc.debugHeld = some k.val → exec (.debugPortAccess k false) s = .next { s with m := ({ s.m with dmc := { s.m.dmc with debugHeld := none, debugDue := none } } : Mach).refreshTry k })) ∧
  (∀ (ecc : EccRes) (counts : List Word) (track : List (Fin 10 × Bool)) (t : Nat) (s : State),
    let m := s.m.at_ t
    (m.held.find? (fun e => e.2.req.requester == 8) = none → m.domOn 4 = true → m.initDone = true → m.fg DMC_SCRUB DMC_SCRUB_enable = 1 →
      m.fg DMC_STAT DMC_STAT_selfref = 0 → m.dmc.front.any (fun r => r.requester == 8) = false →
      exec (.patrolScrubRead ecc counts track t) s = .next { s with m := m.frontAdd m.scrubReq }) ∧
    (∀ i x, m.held.find? (fun e => e.2.req.requester == 8) = some (i, x) →
      (m.mayComplete x = false → exec (.patrolScrubRead ecc counts track t) s = .next { s with m := m }) ∧
      (m.mayComplete x = true → exec (.patrolScrubRead ecc counts track t) s = .next { s with m := (((m.scrubWord s.dram x.req.addr ecc).readTrack (m.rankOf x.req.addr) track).scrubNext counts).freeSlot i (m.rankOf x.req.addr) }))) ∧
  (∀ (i done : Fin 4) (s : State), (s.m.slot i = none → exec (.arbHang i done) s = .next s) ∧
    (∀ x, s.m.slot i = some x → (s.m.dmc.debugHeld.isSome = true ∨ s.m.dmc.taken ≠ []) → exec (.arbHang i done) s = .next s) ∧
    (∀ x, s.m.slot i = some x → s.m.dmc.debugHeld = none → s.m.dmc.taken = [] → x.req.isWrite = false → x.req.requester ≠ 9 →
      exec (.arbHang i done) s = .next { s with m := let m := (s.m.inc DMC_HANG_CNT DMC_HANG_CNT_count).wr DMC_HANG_LOG (BitVec.ofNat 32 (x.req.requester * 2 ^ 24 + b2n x.req.isWrite * 2 ^ 23 + x.req.addr / 65536 % 2 ^ 23)); let m := (m.ev DMC_STAT DMC_STAT_hang_ev).raise fArbHang x.req.requester; ((m.drainRest x.req).dramReply x.req .hung []).freeSlot i (m.rankOf x.req.addr) })) ∧
  (∀ s : State, (s.m.dmc.initing = false → exec .eccInitDone s = .next s) ∧
    (s.m.dmc.initing = true → exec .eccInitDone s = .next { s with m := ({ s.m with dmc := { s.m.dmc with initing := false, bad := [] } } : Mach).fs DMC_STAT DMC_STAT_init_done 1, dram := [] }))

/-- Without a run SUBSTEP_DONE changes nothing. With a run of sub-step k in attempt n, what the attempt found is judged by
the sub-step's criterion: when it is met, the devices are acted on, the result is shown with its lane field 0xF and
journalled PASS, and the next sub-step follows; a failure of attempts 1 and 2 shows the failing lane, journals FAIL
and starts the next attempt; a failure of attempt 3 ends the sub-step as failed. FLASH_OP_DONE of the cache without an
operation changes nothing; with one, it stores the entry, empties the cache and its marks, or clears the marks, and
flash_busy shows whether another is to follow. (R297, R298, R300, R304, R305, R306) -/
def Obligations.TrainingAndFlash : Prop :=
  (∀ (x : TrainRes) (s : State),
    (s.m.dpy.run = none → exec (.trainingSubstepDone x) s = .next s) ∧
    (∀ r, s.m.dpy.run = some r →
      let m := s.m.bootTime x.time.toNat
      let got := m.attempt r x
      let bad := (m.stepResult r.step 2 r.attempt x.duration.toNat x.lane.val)
      let fail := bad.journal (stepCode r.step) jFail r.attempt (bad.trainDetail x.lane.val)
      (got.criterion r x = true → exec (.trainingSubstepDone x) s = .next { s with m := let n := (got.deviceActs r).stepResult r.step 1 r.attempt x.duration.toNat 0xF; (n.journal (stepCode r.step) jPass r.attempt (n.trainDetail 0xF)).stepPassed r }) ∧
      (got.criterion r x = false → r.attempt < 3 → exec (.trainingSubstepDone x) s = .next { s with m := fail.stepStart { r with attempt := r.attempt + 1 } }) ∧
      (got.criterion r x = false → 3 ≤ r.attempt → exec (.trainingSubstepDone x) s = .next { s with m := fail.stepFailed r }))) ∧
  (∀ s : State, (s.m.dpy.flashOps = [] → exec (.flashOpDone false) s = .next s) ∧
    (∀ k bs l, s.m.dpy.flashOps = .entry k bs :: l → exec (.flashOpDone false) s = .next { s with m := ({ s.m with dpy := { s.m.dpy with cache := spSet [] s.m.dpy.cache k bs, flashOps := l } } : Mach).showFlash }) ∧
    (∀ l, s.m.dpy.flashOps = .invalidate :: l → exec (.flashOpDone false) s = .next { s with m := ({ s.m with dpy := { s.m.dpy with cache := [], marks := [], flashOps := l } } : Mach).showFlash }) ∧
    (∀ l, s.m.dpy.flashOps = .markClear :: l → exec (.flashOpDone false) s = .next { s with m := ({ s.m with dpy := { s.m.dpy with marks := [], flashOps := l } } : Mach).showFlash }))

/-- VBUS high for 10 ms shows vbus_det and pulls up where connect asks it; its fall with the pull-up connected is an
upstream reset of kind 3. For a hub attached to the bus: a bus reset takes its speed and resets both devices with kind
1; hub status, the descriptors, a configured hub's change bitmap and clears answer; the indicator and unsupported
requests STALL; SET_ADDRESS in Default or Address moves to the address; DEVICE_REMOTE_WAKEUP is stored;
SET_CONFIGURATION 1 of an addressed device configures it, value 0 returns it to Address, a value above 1 STALLs. Not
attached, every one of these changes nothing. (R332, R334, R335, R337, R338, R341, R344, R355, R364, R365, R367) -/
def Obligations.HubConnectionAndStandardRequests : Prop :=
  (∀ s : State, (s.m.domOn 2 = false → exec .vbusDetStable s = .next s ∧ ∀ c, exec (.vbusDetFall c) s = .next s) ∧
    (s.m.domOn 2 = true → exec .vbusDetStable s = .next { s with m := let m := s.m.fs HUB_STAT HUB_STAT_vbus_det 1; if m.fg HUB_CTRL HUB_CTRL_connect = 1 then m.pullUp else m }) ∧
    (∀ c, s.m.domOn 2 = true → s.m.fg HUB_STAT HUB_STAT_vbus_det = 1 → exec (.vbusDetFall c) s = .next { s with m := let m := (s.m.fs HUB_STAT HUB_STAT_vbus_det 0).ev HUB_STAT HUB_STAT_vbus_ev; if m.fg HUB_STAT HUB_STAT_pullup = 1 then (m.upReset 3 c).pullDown else m })) ∧
  (∀ s : State, s.m.attached = true →
    (∀ hs c, exec (.upBusReset hs c) s = .next { s with m := ((s.m.fs HUB_STAT HUB_STAT_speed (if hs = true then 3 else 2)).ev HUB_STAT HUB_STAT_reset_ev).upReset 1 c }) ∧
    exec .getHubStatus s = .next { s with m := s.m.hostData 0 (leBytes 2 (2 * b2n (s.m.hub.oc && s.m.fg HUB_CFG HUB_CFG_oc_mode == 0)) ++ leBytes 2 (2 * b2n s.m.hub.cOc)) } ∧
    exec (.clearHubFeature true) s = .next { s with m := ({ s.m with hub := { s.m.hub with cOc := false } } : Mach).hostAck 0 } ∧
    exec (.clearHubFeature false) s = .next { s with m := s.m.hostAck 0 } ∧
    exec .portIndicatorRequest s = .next { s with m := s.m.hostStall 0 } ∧
    exec .unsupportedHubRequest s = .next { s with m := s.m.hostStall 0 } ∧
    exec (.getHubDescriptor .hubDescriptor) s = .next { s with m := s.m.hostData 0 s.m.hubDescriptor } ∧
    (∀ b, exec (.getHubDescriptor (.device b)) s = .next { s with m := s.m.hostData 0 (s.m.deviceDesc b) } ∧
      exec (.getHubDescriptor (.configuration b)) s = .next { s with m := s.m.hostData 0 (s.m.configDesc b) } ∧
      exec (.getHubDescriptor (.bos b)) s = .next { s with m := s.m.hostData 0 bosDesc } ∧
      ∀ i, exec (.getHubDescriptor (.string b i)) s = .next { s with m := match s.m.boot.cfg.strings[i.val]? with | some bs => s.m.hostData 0 bs | none => s.m.hostStall 0 }) ∧
    (s.m.hubSt = 4 → exec (.getHubDescriptor .changes) s = .next { s with m := if s.m.changeMap = 0 then s.m.hostNak 0x81 else s.m.hostData 0x81 (leBytes s.m.mapBytes s.m.changeMap) }) ∧
    (∀ a : Fin 128, (s.m.hubSt = 2 ∨ s.m.hubSt = 3) → exec (.setAddress true a) s = .next { s with m := ({ s.m with hub := { s.m.hub with addr := a } } : Mach).setHubSt (if a.val = 0 then 2 else 3) }) ∧
    (∀ a : Fin 128, (s.m.cmfSt = 0 ∨ s.m.cmfSt = 1) → exec (.setAddress false a) s = .next { s with m := ({ s.m with cmf := { s.m.cmf with addr := a } } : Mach).setCmfSt (if a.val = 0 then 0 else 1) }) ∧
    (∀ on, exec (.setFeatureDeviceRemoteWakeup true on) s = .next { s with m := ({ s.m with hub := { s.m.hub with rwake := on } } : Mach).hostAck 0 } ∧
      exec (.setFeatureDeviceRemoteWakeup false on) s = .next { s with m := (s.m.fs CMF_STAT CMF_STAT_rwake_en (b2n on)).hostAck 0 }) ∧
    (s.m.hubSt = 3 ∨ s.m.hubSt = 4 → exec (.setConfiguration true 1 false) s = .next { s with m := (({ s.m.fs HUB_STAT HUB_STAT_multi_tt 0 with hub := { s.m.hub with tts := [] } } : Mach).setHubSt 4).hostAck 0 } ∧
      exec (.setConfiguration true 0 false) s = .next { s with m := (s.m.clearSteer.setHubSt 3).hostAck 0 }) ∧
    (∀ hub v, 1 < v → exec (.setConfiguration hub v false) s = .next { s with m := s.m.hostStall 0 }) ∧
    (s.m.cmfSt = 1 ∨ s.m.cmfSt = 2 → exec (.setConfiguration false 0 false) s = .next { s with m := ((({ s.m with cmf := { s.m.cmf with tog := [] } } : Mach).dropPart0).setCmfSt 1).hostAck 0 })) ∧
  (∀ (hs : Bool) (c : CtrlCut) (s : State), s.m.attached = false → exec (.upBusReset hs c) s = .next s ∧ exec .getHubStatus s = .next s ∧
    (∀ w, exec (.getHubDescriptor w) s = .next s) ∧ exec .portIndicatorRequest s = .next s)

/-- On an attached hub: every port request that names logical port 0 or one past the count STALLs. GetPortStatus answers
status and change. SetPortFeature POWER of a port whose role is not hub mode only records the request; of a hub-mode
port it is an on request to its switch. RESET of a hub-mode port that may be reset drives one, and of any other
changes nothing; SUSPEND of one in ENABLED suspends it; TEST is STALL unless the port is in hub mode and every port
idle; ClearPortFeature of a change bit clears that bit, of ENABLE disables, of SUSPEND drives resume and of POWER
switches off. (R128, R338, R339, R340, R341, R342, R354) -/
def Obligations.HubPortRequests : Prop :=
  ∀ (n : Fin 50) (s : State), s.m.attached = true →
    ((n.val = 0 ∨ s.m.lcount < n) → ∀ cut sel f,
      exec (.getPortStatus n) s = .next { s with m := s.m.hostStall 0 } ∧ exec (.setPortFeaturePower n) s = .next { s with m := s.m.hostStall 0 } ∧
      exec (.setPortFeatureReset n cut) s = .next { s with m := s.m.hostStall 0 } ∧ exec (.setPortFeatureSuspend n) s = .next { s with m := s.m.hostStall 0 } ∧
      exec (.setPortFeatureTest n sel) s = .next { s with m := s.m.hostStall 0 } ∧ exec (.clearPortFeature n f) s = .next { s with m := s.m.hostStall 0 }) ∧
    (n.val ≠ 0 → n ≤ s.m.lcount →
      exec (.getPortStatus n) s = .next { s with m := s.m.hostData 0 (leBytes 2 (s.m.portStatus n) ++ leBytes 2 (s.m.portChanges n)) } ∧
      (∀ p, s.m.physOf n = some p →
        let on := s.m.setPort p { s.m.port p with powerReq := true }
        let no := s.m.setPort p { s.m.port p with powerReq := false }
        (on.isHub p = false → exec (.setPortFeaturePower n) s = .next { s with m := on.hostAck 0 }) ∧
        (on.isHub p = true → 1 < on.pst p → exec (.setPortFeaturePower n) s = .next { s with m := on.hostAck 0 }) ∧
        (∀ cut, s.m.isHub p = true → s.m.domOn (portDom p) = true → (s.m.canReset p = true ∨ (s.m.pst p = 4 ∧ (s.m.port p).katHold = false)) →
          exec (.setPortFeatureReset n cut) s = .next { s with m := ((s.m.setPst p 5).emit .portBus [p, 0]).hostAck 0 }) ∧
        (∀ cut, (s.m.isHub p = false ∨ s.m.domOn (portDom p) = false ∨ (s.m.canReset p = false ∧ (s.m.pst p ≠ 4 ∨ (s.m.port p).katHold = true))) →
          exec (.setPortFeatureReset n cut) s = .next { s with m := s.m.hostAck 0 }) ∧
        (s.m.isHub p = true → s.m.domOn (portDom p) = true → s.m.pst p = 6 → exec (.setPortFeatureSuspend n) s = .next { s with m := ((s.m.setPst p 7).emit .portBus [p, 2]).hostAck 0 }) ∧
        (∀ sel : Fin 6, (s.m.isHub p = false ∨ sel = 0 ∨ s.m.allIdle = false) → exec (.setPortFeatureTest n sel) s = .next { s with m := s.m.hostStall 0 }) ∧
        (∀ sel : Fin 6, s.m.isHub p = true → sel ≠ 0 → s.m.allIdle = true → exec (.setPortFeatureTest n sel) s = .next { s with m := ((s.m.setPort p { s.m.port p with testMode := sel }).emit .portBus [p, 4, sel]).hostAck 0 }) ∧
        (no.isHub p = true → exec (.clearPortFeature n .power) s = .next { s with m := (no.vbusOff p).hostAck 0 }) ∧
        (s.m.isHub p = true → exec (.clearPortFeature n .cReset) s = .next { s with m := (s.m.setPort p { s.m.port p with change := setBitN (s.m.port p).change 4 false }).hostAck 0 })))

/-- On an attached hub: CLEAR_TT_BUFFER and RESET_TT of a TT that does not exist STALL, and of another drop the one buffer
or all. A start-split outside high speed does nothing; with room it takes a buffer and goes out, a full bulk TT NAKs,
a full periodic one discards the transaction and counts; a complete-split is answered by what its transaction came to,
and the ended one leaves. A SET_ADDRESS seen at high speed moves the owner of address 0 to the new address. SOFs go
out on every enabled port unless the bus is suspended. Idle suspends both devices; an enabled wake source drives K, or
gives way to the host's; the host's resume returns the states; an LPM token with another link state than 1 STALLs, and
with a busy hub is NYET. (R345, R346, R348, R350, R351, R354, R355, R356, R357, R358) -/
def Obligations.HubTranslatorsRepeatAndSuspend : Prop :=
  ∀ s : State, s.m.attached = true →
    (∀ tt dev ep isIn, (s.m.ttNamed tt = none → exec (.clearTtBuffer tt dev ep isIn) s = .next { s with m := s.m.hostStall 0 } ∧
        exec (.resetTt tt) s = .next { s with m := s.m.hostStall 0 }) ∧
      (∀ k, s.m.ttNamed tt = some k → exec (.resetTt tt) s = .next { s with m := (s.m.setTt k []).hostAck 0 } ∧
        exec (.clearTtBuffer tt dev ep isIn) s = .next { s with m := (s.m.setTt k (dropFirst (fun x => !x.periodic && x.dev == dev.val && x.ep == ep.val && x.isIn == isIn) (s.m.tt k))).hostAck 0 })) ∧
    (∀ (x : SplitTok) p, s.m.physOf x.port = some p →
      let k := s.m.ttOf x.port
      let kept := (s.m.tt k).filter (fun y => !(y.isOf x && (y.refused || y.res.isSome)))
      let l := kept.filter (fun y => y.periodic == x.periodic && !y.refused)
      let tx : TtTx := { port := x.port, dev := x.dev, ep := x.ep, isIn := x.isIn, periodic := x.periodic, bytes := x.bytes }
      let out := fun (m : Mach) => (m.form 48 { dst := p, cls := 2 } (ttHead x.dev x.ep x.isIn ++ x.data)).emit .portTx [p, if x.isIn = true then 2 else 1, x.dev, x.ep] x.data
      (s.m.upHigh = false → exec (.ttStartSplit x) s = .next s) ∧
      (s.m.upHigh = true → x.periodic = false → l.length < 2 → exec (.ttStartSplit x) s = .next { s with m := out ((s.m.setTt k (kept ++ [tx])).hostAck x.ep) }) ∧
      (s.m.upHigh = true → x.periodic = false → 2 ≤ l.length → exec (.ttStartSplit x) s = .next { s with m := s.m.hostNak x.ep }) ∧
      (s.m.upHigh = true → x.periodic = true → l.length < 16 → x.bytes + (l.map (·.bytes)).sum ≤ 1536 →
        exec (.ttStartSplit x) s = .next { s with m := out (s.m.setTt k (kept ++ [tx])) }) ∧
      (s.m.upHigh = true → x.periodic = true → (16 ≤ l.length ∨ 1536 < x.bytes + (l.map (·.bytes)).sum) → exec (.ttStartSplit x) s = .next { s with m := (s.m.setTt k (kept ++ [{ tx with refused := true }])).inc HUB_TT_OVR HUB_TT_OVR_count }) ∧
      (∀ y ok, (s.m.tt k).find? (·.isOf x) = some y → s.m.hub.susp = false → s.m.upHigh = true →
        exec (.hsPacketRepeat (.csplit x ok)) s = .next { s with m := ((if (y.refused || y.res.isSome) = true then s.m.setTt k (dropFirst (·.isOf x) (s.m.tt k)) else s.m)).splitAnswer y ok }) ∧
      (∀ ok, (s.m.tt k).find? (·.isOf x) = none → exec (.hsPacketRepeat (.csplit x ok)) s = .next s)) ∧
    (∀ a : Fin 128, s.m.upHigh = true → a ≠ 0 → exec (.setAddressObserved a) s = .next { s with m := s.m.wr (steerAddr a) (match s.m.steered 0 with | some p => steerWord p | none => 0) }) ∧
    (∀ f, (s.m.hub.susp = true → exec (.hsPacketRepeat (.sof f)) s = .next s) ∧
      (s.m.hub.susp = false → exec (.hsPacketRepeat (.sof f)) s = .next { s with m := (s.m.slowSof f.toNat).repeatOn s.m.repeatTo 0 5 (leBytes 2 f.toNat) })) ∧
    ((s.m.hub.susp = true ∨ s.m.hubSt = 6) → exec .upIdleSuspend s = .next s) ∧
    (s.m.hub.susp = false → s.m.hubSt ≠ 6 → exec .upIdleSuspend s = .next { s with m := let m := (({ s.m with hub := { s.m.hub with susp := true, before := s.m.hubSt } } : Mach).setHubSt 5).ev HUB_STAT HUB_STAT_suspend_ev; if m.cmfSt = 3 then m else ({ m with cmf := { m.cmf with before := if m.cmfSt = 4 then m.cmf.before else m.cmfSt } } : Mach).setCmfSt 3 }) ∧
    (∀ src : Fin 4, s.m.hub.susp = true → s.m.hub.driving = false → s.m.wakeThere src = true → s.m.wakeEnabled src = true →
      let m := (s.m.ev HUB_STAT HUB_STAT_wake_ev).fs HUB_WAKE_REASON HUB_WAKE_REASON_source src
      exec (.hubRemoteWake src false) s = .next { s with m := ({ m with hub := { m.hub with driving := true } } : Mach).emit .upBus [0] } ∧
      exec (.hubRemoteWake src true) s = .next { s with m := (m.fs HUB_WAKE_REASON HUB_WAKE_REASON_reason 1).fs HUB_WAKE_REASON HUB_WAKE_REASON_pending 1 }) ∧
    (∀ b, (s.m.hub.susp = true → exec (.hostResume b) s = .next { s with m := s.m.upResume false b }) ∧
      (s.m.hub.susp = false → s.m.hubSt = 6 → exec (.hostResume b) s = .next { s with m := s.m.upResume true b }) ∧
      (s.m.hub.susp = false → s.m.hubSt ≠ 6 → s.m.cmfSt ≠ 4 → exec (.hostResume b) s = .next s)) ∧
    (∀ hub w, (∀ l, l ≠ 1#4 → exec (.lpmTransaction hub l w) s = .next { s with m := s.m.hostStall 0 }) ∧
      (s.m.hubIdle = false ∨ s.m.hub.susp = true → exec (.lpmTransaction true 1#4 w) s = .next { s with m := s.m.emit .upstream [4, 0] }) ∧
      (s.m.hubIdle = true → s.m.hub.susp = false → s.m.hubSt ≠ 6 → exec (.lpmTransaction true 1#4 w) s = .next { s with m := (((({ s.m with hub := { s.m.hub with before := s.m.hubSt, l1Wake := w } } : Mach)).setHubSt 6).ev HUB_STAT HUB_STAT_l1_ev).hostAck 0 }))

/-- On a configured command function: bytes on a free endpoint 0x01 join the stream, from which whole packets are cut, and
are ACKed; a PING is only answered; a halted one STALLs, one at the limit NAKs. SUBMIT of a sound packet within the
limits is taken as if from endpoint 0x01; beyond them it is answered BUSY, and a length that is wrong BAD_LENGTH. The
reply at the head of queue 48 goes to the host. GET_CMF_INFO answers, RESYNC clears both bulk toggles, a waiting
notification goes out and none is a NAK. A reply that answers nothing of channel 0 is counted stale; one that answers
a command with room is delivered and frees its tag, unless PENDING. One ms before a commit point sends one PENDING.
(R360, R361, R362, R364, R365, R387, R388, R391) -/
def Obligations.EndpointsCarryCommandsAndReplies : Prop :=
  (∀ s : State, s.m.attached = true → s.m.cmfSt = 2 →
    (∀ bs t, let m := s.m.at_ t
      (m.fg CMF_STAT CMF_STAT_out_halted = 1 → m.cmfSt = 2 → ∀ ping, exec (.cmdOutRx bs ping t) s = .next { s with m := m.hostStall 1 }) ∧
      (m.cmfSt = 2 → m.fg CMF_STAT CMF_STAT_out_halted = 0 → m.cmd.part0 = [] → m.cmd.ended = false → m.atLimit 0 false = false → m.inputRoom 0 m.bulkMax = true →
        exec (.cmdOutRx bs true t) s = .next { s with m := if m.upHigh = true then m.hostAck 1 else m } ∧
        exec (.cmdOutRx bs false t) s = .next { s with m := let n := (m.flipEp 1).hostAck 1; Mach.cutOut (bs.length + 1) { n with cmd := { n.cmd with part0 := bs, ended := decide (bs.length < m.bulkMax) } } }) ∧
      (m.cmfSt = 2 → m.fg CMF_STAT CMF_STAT_out_halted = 0 → m.cmd.part0 = [] → m.cmd.ended = false → m.atLimit 0 false = true →
        ∀ ping, exec (.cmdOutRx bs ping t) s = .next { s with m := m.hostNak 1 })) ∧
    (∀ bs : List Byte, 20 ≤ bs.length → bs.length ≤ 1044 → headerOk bs = true →
      let m := s.m.hostAck 0
      let c := m.ownCmd 0 bs
      (packetLen bs ≠ bs.length → exec (.submit bs) s = .next { s with m := m.refuseAtOrigin 0 c 0x03 }) ∧
      (packetLen bs = bs.length → m.atLimit 0 c.urgent = false → (c.urgent = true ∨ m.inputRoom 0 bs.length = true) →
        exec (.submit bs) s = .next { s with m := m.originTake 0 c }) ∧
      (packetLen bs = bs.length → m.atLimit 0 c.urgent = true → exec (.submit bs) s = .next { s with m := m.refuseAtOrigin 0 c 0x0A })) ∧
    (∀ pk rest, takePacket (s.m.q 48).words = some (pk, rest) → pk.any (fun w => !w.parityOk) = false →
      exec .replyInAck s = .next { s with m := let m := (s.m.qTake 48 rest).hostData 0x81 (wordsBytes pk); let m := if (wordsBytes pk).length / m.bulkMax % 2 = 0 then m.flipEp 0x81 else m; Mach.pumpHeld m.cmd.held.length 0 m }) ∧
    exec .getCmfInfo s = .next { s with m := s.m.cmfInfo } ∧
    (s.m.cmf.notif = none → exec .notifyIn s = .next { s with m := s.m.hostNak 0x82 }) ∧
    (∀ f k e t, s.m.cmf.notif = some (f, k, e, t) → exec .notifyIn s = .next { s with m := (Mach.hostData { s.m with cmf := { s.m.cmf with notif := none } } 0x82 (leBytes 1 f ++ leBytes 1 k ++ leBytes 2 e ++ leBytes 4 t)).flipEp 0x82 })) ∧
  (∀ s : State, s.m.attached = true → exec .cmfResync s = .next { s with m := (((s.m.clearTog 1).dropPart0.fs CMF_STAT CMF_STAT_out_halted 0).clearTog 0x81).hostAck 0 } ∧
    (∀ ep : BitVec 8, ep.toNat ∉ [1, 0x81, 0x82, 3, 0x83] → exec (.clearFeatureEndpointHalt ep) s = .next { s with m := s.m.hostStall 0 }) ∧
    exec (.clearFeatureEndpointHalt 1#8) s = .next { s with m := ((s.m.clearTog 1).dropPart0.fs CMF_STAT CMF_STAT_out_halted 0).hostAck 0 } ∧
    exec (.clearFeatureEndpointHalt 0x81#8) s = .next { s with m := (s.m.clearTog 0x81).hostAck 0 } ∧
    exec (.clearFeatureEndpointHalt 0x82#8) s = .next { s with m := (s.m.clearTog 0x82).hostAck 0 }) ∧
  (∀ s : State, s.m.domOn 2 = true → exec .notifyReady s = .next { s with m := s.m.notifyEval }) ∧
  (∀ (r : ReplyPkt) (s : State), r.origin.val = s.m.node → s.m.coreDead = false →
    (s.m.repliesTo r = none → r.chan = 0#4 → exec (.replyAtOrigin r) s = .next { s with m := (s.m.inc CMF_STALE_CNT CMF_STALE_CNT_count).ev CMF_STAT CMF_STAT_stale_ev }) ∧
    (∀ o, s.m.repliesTo r = some o → s.m.cmd.held.any (fun e => e.1 == o.chan) = false → s.m.replyRoom o.chan (replyPktBytes r).length = true →
      let m := (s.m.emit .delivered [o.chan, o.tag, o.gen, r.status.toNat]).deliverReply o.chan (replyPktBytes r)
      (r.status = 1#8 → exec (.replyAtOrigin r) s = .next { s with m := m }) ∧
      (r.status ≠ 1#8 → o.chan ≠ 0 → exec (.replyAtOrigin r) s = .next { s with m := m.answered o r.node.val }) ∧
      (r.status ≠ 1#8 → o.chan = 0 → exec (.replyAtOrigin r) s = .next { s with m := let n := m.answered o r.node.val; n.cutOut (n.cmd.part0.length + 1) }))) ∧
  (∀ (c : Cmd) (s : State), (s.m.findRun c = none → (longOne c && s.m.cmd.acc.any (·.same c)) = false → exec (.commandPendingTimeout c) s = .next s) ∧
    (s.m.findRun c = none → (longOne c && s.m.cmd.acc.any (·.same c)) = true → exec (.commandPendingTimeout c) s = .next { s with m := ({ s.m with cmd := { s.m.cmd with run := s.m.cmd.run ++ [{ cmd := c, pendingSent := true }] } } : Mach).sendReply c 1 0 [] }) ∧
    (∀ r, s.m.findRun c = some r → r.pendingSent = false → r.committed = false →
      exec (.commandPendingTimeout c) s = .next { s with m := (s.m.setRun { r with pendingSent := true }).sendReply c 1 0 [] }))

/-- With the checks of R390 passed: MEM_RD and MEM_WR start their first request; a DRAM reply that fails ends the command
with the translated status, a good one counts its bytes and issues the next request or ends it. MEM_FILL and MEM_CRC
wait for the engine once init_done stands, else answer MEM_NOT_INIT; the engine runs the first when no older request
is held. MEM_STREAM_SET binds or unbinds for this hub's channel 0, else BAD_STATE. An unbound or stalled stream
endpoint STALLs; a PING is only answered; a packet that fits is written and moves the position; a filled window stops
the endpoint; IN data that is ready goes out, unless its buffer fails parity. (R252, R363, R395, R396) -/
def Obligations.MemoryCommandsAndStreamsUseTheDram : Prop :=
  (∀ (c : Cmd) (s : State),
    (s.m.serves c (cmdBare c && decide (1 ≤ c.p 13 2 ∧ c.p 13 2 ≤ 1024)) true = true → exec (.memRd c) s = .next { s with m := (s.m.startRun { cmd := c }).memIssue { cmd := c } }) ∧
    (s.m.serves c (decide (1 ≤ c.payload.length ∧ c.payload.length ≤ 1024)) true = true → exec (.memWr c) s = .next { s with m := (s.m.startRun { cmd := c }).memIssue { cmd := c } }) ∧
    (s.m.domOn 4 = true → s.m.serves c (decide (c.payload.length = 12 ∧ leAt c.payload 0 8 ≠ 0 ∧ leAt c.payload 0 8 % 64 = 0)) (decide (c.p 8 5 % 64 = 0)) = true →
      (s.m.initDone = false → exec (.memFill c) s = .next { s with m := s.m.reply c 0x17 }) ∧
      (s.m.initDone = true → exec (.memFill c) s = .next { s with m := let m := s.m.startRun { cmd := c }; { m with dmc := { m.dmc with engine := m.dmc.engine ++ [(c, m.dmc.grants)] } } })) ∧
    (s.m.domOn 4 = true → s.m.serves c (decide (c.payload.length = 8 ∧ 1 ≤ leAt c.payload 0 8 ∧ leAt c.payload 0 8 ≤ 2 ^ 40)) true = true →
      (s.m.initDone = false → exec (.memCrc c) s = .next { s with m := s.m.reply c 0x17 }) ∧
      (s.m.initDone = true → exec (.memCrc c) s = .next { s with m := let m := s.m.startRun { cmd := c }; { m with dmc := { m.dmc with engine := m.dmc.engine ++ [(c, m.dmc.grants)] } } })) ∧
    (s.m.domOn 2 = true → s.m.serves c (cmdBare c && (bitN (c.b 8) 7 || decide (c.p 13 3 ≠ 0))) (bitN (c.b 8) 7 || decide (c.b 9 < 32)) = true →
      ((c.chan ≠ 0#4 ∨ c.arrival ≠ 0 ∨ c.target.toNat % 4096 ≠ 0xFFF) → exec (.memStreamSet c) s = .next { s with m := s.m.reply c 0x13 }) ∧
      (c.chan = 0#4 → c.arrival = 0 → c.target.toNat % 4096 = 0xFFF → let e := c.b 8 % 2
        (bitN (c.b 8) 7 = true → exec (.memStreamSet c) s = .next { s with m := (s.m.unbind e).reply c 0 }) ∧
        (bitN (c.b 8) 7 = false → exec (.memStreamSet c) s = .next { s with m := ((s.m.setStrm e { next := (s.m.strm e).next, base := c.p 10 3 * 65536, len := c.p 13 3 * 65536, node := c.b 9 }).strmShow e).reply c 0 }))) ∧
    (∀ r st data, s.m.findRun c = some r → (c.opcode = 0x20#8 ∨ c.opcode = 0x21#8) →
      (memStatus st ≠ 0 → exec (.cmdDramReply (.command c) st data) s = .next { s with m := s.m.memReply r (memStatus st) }) ∧
      (memStatus st = 0 →
        let r' : Run := { r with next := r.next + memPart r, corrected := r.corrected || st == .corrected, data := r.data ++ data.take (memPart r), committed := r.committed || c.opcode == 0x21#8 }
        (r'.next < memTotal c → exec (.cmdDramReply (.command c) st data) s = .next { s with m := (s.m.setRun r').memIssue r' }) ∧
        (memTotal c ≤ r'.next → exec (.cmdDramReply (.command c) st data) s = .next { s with m := s.m.memReply r' 0 })))) ∧
  (∀ s : State, ((s.m.dmc.engine = [] ∨ s.m.dramUp = false ∨ s.m.dmc.engRun.isSome = true) → exec .memEngineStart s = .next s) ∧
    (∀ c n rest, s.m.dmc.engine = (c, n) :: rest →
      (s.m.held.any (fun e => decide (e.2.grant ≤ n) || e.2.req.requester == 9) = true → exec .memEngineStart s = .next s) ∧
      (s.m.dramUp = true → s.m.dmc.engRun = none → s.m.held.any (fun e => decide (e.2.grant ≤ n) || e.2.req.requester == 9) = false →
        let r : EngRun := { cmd := c, next := c.p 8 5 / 64 * 64 }
        let m : Mach := { s.m with dmc := { s.m.dmc with engine := rest } }
        (∀ st, r.next < r.stop → m.accessCheck r.next 64 = some st → exec .memEngineStart s = .next { s with m := m.engEnd r (memStatus st) }) ∧
        (r.next < r.stop → m.accessCheck r.next 64 = none → exec .memEngineStart s = .next { s with m := ({ m with dmc := { m.dmc with engRun := some r } } : Mach).frontAdd r.req })))) ∧
  (∀ s : State, s.m.attached = true → s.m.cmfSt = 2 →
    (∀ bs, let x := s.m.cmf.out3
      ((s.m.bound 0 = false ∨ x.stall = true) → ∀ ping, exec (.streamOutPacket bs ping) s = .next { s with m := s.m.hostStall 3 }) ∧
      (s.m.bound 0 = true → x.stall = false → s.m.upHigh = true → exec (.streamOutPacket bs true) s = .next { s with m := if s.m.strmMay = true then s.m.hostAck 3 else s.m.hostNak 3 }) ∧
      (s.m.bound 0 = true → x.stall = false → (x.len ≤ x.pos ∨ x.len < x.pos + bs.length) → exec (.streamOutPacket bs false) s = .next { s with m := (s.m.strmStop 0).hostStall 3 }) ∧
      (s.m.bound 0 = true → x.stall = false → x.pos < x.len → x.pos + bs.length ≤ x.len →
        (s.m.strmMay = false → exec (.streamOutPacket bs false) s = .next { s with m := s.m.hostNak 3 }) ∧
        (s.m.strmMay = true → let w := Mach.strmWrite (bs.length + 1) x.pos bs s.m
          let m := (((w.setStrm 0 { w.cmf.out3 with pos := x.pos + bs.length }).strmShow 0).flipEp 3).hostAck 3
          exec (.streamOutPacket bs false) s = .next { s with m := if x.pos + bs.length = x.len then m.strmStop 0 else m }))) ∧
    (let x := s.m.cmf.in83;
      ((s.m.bound 1 = false ∨ x.stall = true) → ∀ ok, exec (.streamInPacket ok) s = .next { s with m := s.m.hostStall 0x83 }) ∧
      (s.m.bound 1 = true → x.stall = false → x.ended = true → ∀ ok, exec (.streamInPacket ok) s = .next { s with m := s.m.hostNak 0x83 }) ∧
      (s.m.bound 1 = true → x.stall = false → x.ended = false → s.m.strmNext ≤ x.ready.length → exec (.streamInPacket false) s = .next { s with m := ((s.m.raise fBufParity 48).setStrm 1 { x with ready := [] }).hostNak 0x83 }) ∧
      (s.m.bound 1 = true → x.stall = false → x.ended = false → s.m.strmNext ≤ x.ready.length → exec (.streamInPacket true) s = .next { s with m := (((s.m.setStrm 1 { x with pos := x.pos + s.m.strmNext, ready := x.ready.drop s.m.strmNext, ended := decide (s.m.strmNext < s.m.bulkMax) }).strmShow 1).flipEp 0x83).hostData 0x83 (x.ready.take s.m.strmNext) })))

/-- While the core die takes segments: a Block Write of 1 to 64 bytes with good PEC joins the stream and is acknowledged
when nothing blocks it below the limits, crossing the die link; at the limit only an urgent header is; one with bad
PEC, no bytes or more than 64 is not. With the core die down, Rind keeps up to 2,048 bytes. A Block Read of nothing
waiting answers no bytes, of a reply read in part its next bytes, and with the core die down what Rind itself sends.
Read Word gives replies waiting, outstanding commands and whether a partial command is held. Send Byte discards a
partial command and a partly read reply; SMBCLK held low also empties queue 49 and resets channel 1. ABORT ends a
matching command that waits or has not committed, and else answers NOTHING_TO_ABORT. (R398, R399, R400, R405, R406,
R407, R408) -/
def Obligations.ChannelOneAndAbort : Prop :=
  (∀ (bs : List Byte) (s : State),
    ((bs = [] ∨ 64 < bs.length) → ∀ ok, exec (.smbusBlockWrite bs ok) s = .next { s with m := s.m.emit .smbus [1] }) ∧
    exec (.smbusBlockWrite bs false) s = .next { s with m := s.m.emit .smbus [1] } ∧
    (s.m.boot.stop = false → bs ≠ [] → bs.length ≤ 64 → s.m.smbLink = false →
      (s.m.cmd.rind.length + bs.length ≤ 2048 → exec (.smbusBlockWrite bs true) s = .next { s with m := (Mach.rindTake { s.m with cmd := { s.m.cmd with rind := s.m.cmd.rind ++ bs } } bs).emit .smbus [0] }) ∧
      (2048 < s.m.cmd.rind.length + bs.length → exec (.smbusBlockWrite bs true) s = .next { s with m := s.m.emit .smbus [1] })) ∧
    (s.m.boot.stop = false → bs ≠ [] → bs.length ≤ 64 → s.m.smbLink = true → s.m.cmd.rind = [] → s.m.cmd.part1 = [] →
      (s.m.atLimit 1 false = false ∨ (4 ≤ bs.length ∧ bitN (leAt bs 3 1) 4 = true) → exec (.smbusBlockWrite bs true) s = .next { s with m := ((s.m.rindTake bs).smbCross bs).emit .smbus [0] }) ∧
      (s.m.atLimit 1 false = true → bitN (leAt bs 3 1) 4 = false → exec (.smbusBlockWrite bs true) s = .next { s with m := s.m.emit .smbus [1] }))) ∧
  (∀ (n : Nat) (s : State),
    (s.m.smbLink = false → exec (.smbusBlockRead n) s = .next { s with m := Mach.emit { s.m with cmd := { s.m.cmd with rindOut := s.m.cmd.rindOut.drop (min n 64) } } .smbus [2] (s.m.cmd.rindOut.take (min n 64)) }) ∧
    (s.m.smbLink = true → s.m.cmd.smbRead = [] → takePacket (s.m.q 49).words = none → exec (.smbusBlockRead n) s = .next { s with m := s.m.emit .smbus [2] }) ∧
    (s.m.smbLink = true → 1 ≤ n → n ≤ 64 → n ≤ s.m.cmd.smbRead.length → exec (.smbusBlockRead n) s = .next { s with m := (Mach.dlSegments { s.m with cmd := { s.m.cmd with smbRead := s.m.cmd.smbRead.drop n } } .core (s.m.cmd.smbRead.take n)).emit .smbus [2] (s.m.cmd.smbRead.take n) })) ∧
  (∀ s : State,
    (s.m.smbLink = true → exec .smbusReadWord s = .next { s with m := s.m.emit .smbus [2] (leBytes 2 (min 255 (s.m.q 49).packets + 256 * min 127 (s.m.outCount 1 false + s.m.outCount 1 true) + 2 ^ 15 * b2n (!s.m.cmd.part1.isEmpty))) }) ∧
    (s.m.smbLink = false → exec .smbusReadWord s = .next { s with m := s.m.emit .smbus [2] (leBytes 2 (b2n (!s.m.cmd.rindOut.isEmpty) + 2 ^ 15 * b2n (!s.m.cmd.rind.isEmpty))) }) ∧
    exec .smbusSendByte s = .next { s with m := Mach.emit { s.m.dropPart1 with cmd := { s.m.dropPart1.cmd with smbRead := [], rindOut := [] } } .smbus [0] } ∧
    (s.m.coreDead = true → exec .smbusTimeout s = .next { s with m := { s.m.dropPart1 with cmd := { s.m.dropPart1.cmd with smbRead := [], rindOut := [] } } }) ∧
    (s.m.coreDead = false → exec .smbusTimeout s = .next { s with m := (Mach.setQ { s.m.dropPart1 with cmd := { s.m.dropPart1.cmd with smbRead := [], rindOut := [], held := s.m.cmd.held.filter (fun e => e.1 != 1) } } 49 {}).channelReset 1 1 })) ∧
  (∀ (c : Cmd) (s : State), s.m.serves c (cmdBare c) true = true →
    (∀ d, s.m.cmd.acc.find? (abortsIt c) = some d → exec (.abort c) s = .next { s with m := Mach.reply { s.m.reply d 0x0D with cmd := { (s.m.reply d 0x0D).cmd with gone := (s.m.reply d 0x0D).cmd.gone ++ [d] } } c 0 }) ∧
    (∀ r, s.m.cmd.acc.find? (abortsIt c) = none → s.m.cmd.run.find? (fun r => abortsIt c r.cmd && !r.committed) = some r →
      exec (.abort c) s = .next { s with m := ((s.m.withdraw r.cmd).reply r.cmd 0x0D (s.m.abortFields r.cmd)).reply c 0 }) ∧
    (s.m.cmd.acc.find? (abortsIt c) = none → s.m.cmd.run.find? (fun r => abortsIt c r.cmd && !r.committed) = none →
      exec (.abort c) s = .next { s with m := s.m.reply c 0x0C }))

/-- With the collector running: a raise of a reserved identifier does nothing; a class C raise only latches; a class A
raise latches, stops its group's grace timer and escalates; a class B raise with the timer running only latches, with
grace 0 escalates, and else starts the timer for the source. Before the collector runs a raise is kept for its start.
The latch records the first source with class, group, detail and chain time, and a later one is counted in FLT_OVF and
leaves FLT_FIRST. A grace timer's end escalates for the source that started it. A mismatch stops the heartbeat and
raises FLT_SELF. ALIVE toggles unless frozen, stopped, in factory mode or in proof test 4. A token in time with the
straps at a cold reset admits factory mode. (R537, R538, R541, R543, R544, R545, R549, R550, R554, R557) -/
def Obligations.FaultSourcesLatchAndEscalate : Prop :=
  (∀ (src : BitVec 8) (d : BitVec 16) (s : State), let g := src.toNat / 16; let m := s.m.latchFault src.toNat d.toNat
    (faultClass src.toNat = 0 → exec (.faultRaise src d) s = .next s) ∧
    (faultClass src.toNat ≠ 0 → s.m.flt.on = false → exec (.faultRaise src d) s = .next { s with m := { s.m with flt := { s.m.flt with early := s.m.flt.early ++ [(src.toNat, d.toNat)] } } }) ∧
    (s.m.flt.on = true →
      (faultClass src.toNat = 0xC → exec (.faultRaise src d) s = .next { s with m := m }) ∧
      (faultClass src.toNat = 0xA → exec (.faultRaise src d) s = .next { s with m := (m.cancelGrace g).escalate g src.toNat false }) ∧
      (faultClass src.toNat = 0xB →
        (bitN (m.fg FLT_PEND FLT_PEND_running) g = true → exec (.faultRaise src d) s = .next { s with m := m }) ∧
        (bitN (m.fg FLT_PEND FLT_PEND_running) g = false → m.fg (FLT_GRP_CFG g) FLT_GRP_CFG_grace = 0 →
          exec (.faultRaise src d) s = .next { s with m := m.escalate g src.toNat false }) ∧
        (bitN (m.fg FLT_PEND FLT_PEND_running) g = false → m.fg (FLT_GRP_CFG g) FLT_GRP_CFG_grace ≠ 0 →
          exec (.faultRaise src d) s = .next { s with m := let n := m.fs FLT_PEND FLT_PEND_running (setBitN (m.fg FLT_PEND FLT_PEND_running) g true); { n with flt := { n.flt with graceSrc := spSet 0 n.flt.graceSrc g src.toNat } } })))) ∧
  (∀ (src d : Nat) (m : Mach), let r := m.wr (FLT_RAISED (src / 32)) (BitVec.ofNat 32 (setBitN (m.rg (FLT_RAISED (src / 32))).toNat (src % 32) true))
    src < 128 →
    (m.fg FLT_FIRST FLT_FIRST_valid = 1 → m.latchFault src d = ((r.fs FLT_OVF FLT_OVF_ovf 1).fs FLT_OVF FLT_OVF_last src).sat FLT_OVF FLT_OVF_count ∧
      (m.latchFault src d).rg FLT_FIRST = m.rg FLT_FIRST) ∧
    (m.fg FLT_FIRST FLT_FIRST_valid = 0 →
      (m.latchFault src d).rg FLT_FIRST = BitVec.ofNat 32 (2 ^ 31 + src / 16 % 8 * 2 ^ 28 + faultClass src * 2 ^ 24 + src * 2 ^ 16 + d % 2 ^ 16) ∧
      (m.latchFault src d).rg FLT_TIME_LO = BitVec.ofNat 32 m.ctime ∧ (m.latchFault src d).rg FLT_TIME_HI = BitVec.ofNat 32 (m.ctime / 2 ^ 32))) ∧
  (∀ (g : Fin 8) (s : State), (bitN (s.m.fg FLT_PEND FLT_PEND_running) g = false → exec (.graceTimerExpiry g) s = .next s) ∧
    (bitN (s.m.fg FLT_PEND FLT_PEND_running) g = true → exec (.graceTimerExpiry g) s = .next { s with m := (s.m.cancelGrace g).escalate g (spGet 0 s.m.flt.graceSrc g) false })) ∧
  (∀ s : State, (s.m.flt.on = true → exec .collectorMismatch s = .next { s with m := (s.m.fs FLT_STAT FLT_STAT_hb_stop 1).raise 3 0 }) ∧
    (s.m.flt.hbOn = true → s.m.fg FLT_HB_CFG FLT_HB_CFG_alive_en = 1 → s.m.fg FLT_STAT FLT_STAT_alive_frozen = 0 → s.m.fg FLT_STAT FLT_STAT_hb_stop = 0 →
      s.m.fg FLT_STAT FLT_STAT_factory = 0 → s.m.flt.proof = none → exec .aliveToggle s = .next { s with m := Mach.emit { s.m with flt := { s.m.flt with alive := !s.m.flt.alive } } .alive [b2n (!s.m.flt.alive)] }) ∧
    ((s.m.flt.hbOn = false ∨ s.m.fg FLT_HB_CFG FLT_HB_CFG_alive_en = 0 ∨ s.m.fg FLT_STAT FLT_STAT_alive_frozen = 1 ∨ s.m.fg FLT_STAT FLT_STAT_hb_stop = 1 ∨
      s.m.fg FLT_STAT FLT_STAT_factory = 1) → exec .aliveToggle s = .next s) ∧
    (∀ tok, s.m.flt.strapFactory = true → s.m.boot.cause = rsCold → s.m.coreDead = false → Config.tokenOk Config.serial tok = true →
      exec (.factoryToken tok true) s = .next { s with m := let m := s.m.fs FLT_STAT FLT_STAT_factory 1; if m.flt.alive = true then Mach.emit { m with flt := { m.flt with alive := false } } .alive [0] else m }) ∧
    (∀ tok inTime, (s.m.flt.strapFactory = false ∨ inTime = false ∨ s.m.boot.cause ≠ rsCold ∨ Config.tokenOk Config.serial tok = false) →
      exec (.factoryToken tok inTime) s = .next s))

/-- A sweep that finds no new difference only counts itself; one that finds a first difference of a checked block reports
it. A commit timer's end reports an uncommitted block and does nothing for a committed one. PROOF_TEST is BUSY while a
test runs, BAD_STATE while a stream runs, an escalation is held or factory mode is in force, NOT_READY for tests 1 to
3 with a named hoop not ON with power-good, and else runs. A test's end writes FLT_PROOF_LAST and answers its word:
PASS for test 4, ALERT or PASS with the count for test 5, the measured outcome for 1 to 3. CHAIN_DISCOVER on another
node than 0 is BAD_STATE, with D7 not ON DOMAIN_OFF, during a run BUSY, and else starts a run. (R430, R431, R433,
R467, R554, R555) -/
def Obligations.TallyProofTestsAndDiscovery : Prop :=
  (∀ s : State, s.m.coreDead = false →
    ((∀ i < 64, (s.m.tallyChecked i && s.m.tallyRef i != s.m.rg (TLY_REF i) && !s.m.tlySeen.contains i) = false) →
      exec .tallySweep s = .next { s with m := s.m.inc TLY_SWEEP TLY_SWEEP_count }) ∧
    exec .tallySweep s = .next { s with m := Mach.inc (forEach (upTo 64) (fun i (m : Mach) => if (m.tallyChecked i && m.tallyRef i != m.rg (TLY_REF i) && !m.tlySeen.contains i) = true then ((Mach.ev { m with tlySeen := m.tlySeen ++ [i] } TLY_STAT TLY_STAT_mismatch_ev).fs TLY_STAT TLY_STAT_mis_block i).raise 0x10 i else m) s.m) TLY_SWEEP TLY_SWEEP_count } ∧
    (∀ i : Fin 64, (s.m.uncommitted i = false → exec (.tallyCommitTimeout i) s = .next s) ∧
      (s.m.uncommitted i = true → exec (.tallyCommitTimeout i) s = .next { s with m := ((s.m.ev TLY_STAT TLY_STAT_uncommitted_ev).fs TLY_STAT TLY_STAT_unc_block i).raise 0x11 i }))) ∧
  (∀ (c : Cmd) (s : State), s.m.domOn 1 = true → s.m.domOn 3 = true → s.m.serves c (cmdBare c) (decide (1 ≤ c.b 8 ∧ c.b 8 ≤ 6)) = true →
    let named := (upTo 12).filter (bitN (s.m.fg FLT_PROOF_CFG FLT_PROOF_CFG_hoops))
    let refused := (upTo 128).any (fun n => s.m.strState n == stRunning) || s.m.fg FLT_PEND FLT_PEND_escalated != 0 || s.m.fg FLT_STAT FLT_STAT_factory == 1
    (s.m.flt.proof.isSome = true → exec (.proofTest c) s = .next { s with m := s.m.reply c 0x0A }) ∧
    (s.m.flt.proof = none → refused = true → exec (.proofTest c) s = .next { s with m := s.m.reply c 0x13 }) ∧
    (s.m.flt.proof = none → refused = false → c.b 8 ≤ 3 → (named.filter (fun k => !s.m.hoopReady k)) ≠ [] →
      exec (.proofTest c) s = .next { s with m := s.m.proofDone (some c) (4 * 2 ^ 24) }) ∧
    (s.m.flt.proof = none → refused = false → (3 < c.b 8 ∨ named.filter (fun k => !s.m.hoopReady k) = []) →
      exec (.proofTest c) s = .next { s with m := let m := s.m.startRun { cmd := c, committed := true }; Mach.proofStart { m with flt := { m.flt with proof := some { test := c.b 8, cmd := some c } } } (c.b 8) })) ∧
  (∀ (o : Fin 8) (t h : Nat) (es : List (Fin 8)) (ps : List (Fin 48)) (s : State),
    (s.m.flt.proof = none → exec (.proofTestEnd o t h es ps) s = .next s) ∧
    (∀ p, s.m.flt.proof = some p →
      (p.test ≤ 3 → proofMay p.test o = true → exec (.proofTestEnd o t h es ps) s = .next { s with m := s.m.proofDone p.cmd (o * 2 ^ 24 + t % 4096 * 2 ^ 12 + h % 4096) }) ∧
      (p.test = 4 → exec (.proofTestEnd o t h es ps) s = .next { s with m := s.m.proofDone p.cmd 0 }) ∧
      (p.test = 5 → let others := (s.m.systemNodes.filter (fun e => e.1 != s.m.node)).length;
        (p.acks.length < others → exec (.proofTestEnd o t h es ps) s = .next { s with m := s.m.proofDone p.cmd (7 * 2 ^ 24 + p.acks.length % 4096 * 2 ^ 12) }) ∧
        (others ≤ p.acks.length → exec (.proofTestEnd o t h es ps) s = .next { s with m := s.m.proofDone p.cmd (p.acks.length % 4096 * 2 ^ 12) })) ∧
      (6 ≤ p.test → exec (.proofTestEnd o t h es ps) s = .next { s with m := let x := s.m.selfTest (es.map (·.val)) (ps.map (·.val)); x.1.proofDone p.cmd (if x.2 = true then 6 * 2 ^ 24 else 0) }))) ∧
  (∀ (c : Cmd) (w : Nat) (m : Mach), m.proofDone (some c) w = ((Mach.wr { m with flt := { m.flt with proof := none } } FLT_PROOF_LAST (BitVec.ofNat 32 w)).reply c 0 (f12 w))) ∧
  (∀ (c : Cmd) (s : State), s.m.domOn 1 = true → s.m.domOn 3 = true → s.m.serves c (cmdBare c) true = true →
    (s.m.node ≠ 0 → exec (.chainDiscover c) s = .next { s with m := s.m.reply c 0x13 }) ∧
    (s.m.node = 0 → s.m.domOn 7 = false → exec (.chainDiscover c) s = .next { s with m := s.m.reply c 0x07 }) ∧
    (s.m.node = 0 → s.m.domOn 7 = true → s.m.chn.disc.isSome = true → exec (.chainDiscover c) s = .next { s with m := s.m.reply c 0x0A }) ∧
    (s.m.node = 0 → s.m.domOn 7 = true → s.m.chn.disc = none → exec (.chainDiscover c) s = .next { s with m := (s.m.startRun { cmd := c }).discStart (some c) }))

/-- With the checks passed: DOMAIN_SET is BUSY in a transition or where another waits for the domain, OK at once in the
state asked for, turns ON with what it needs, answers REFUSED with the lowest refuser counted and logged, else begins
the entry. DOMAIN_STATUS answers the status register. The end of a drain enters the state (D4 with the DRAM
initialised and its PHY low, D0 with the die link quiet), a limit passed aborts; a warm-retain reset that waits for D4
follows. The end of an exit brings the domain ON, or fails where it cannot come out of OFF; D4 first runs its exit. An
enabled wake source aborts an entry or turns ON. Islands of an ON domain idle, sleep after idle and run at a word;
VDD_CORE below 760 mV sets the assist and above 770 mV clears it; a core wake event not selected does nothing, else
wakes what its set names or resets a core that is down. (R511, R512, R514, R515, R517, R518, R519, R521, R522, R525,
R527, R528) -/
def Obligations.DomainsEnterLeaveAndIdle : Prop :=
  (∀ (c : Cmd) (w : BitVec 7) (s : State) (d : Nat), domOfCode (c.b 8) = some d → s.m.serves c (cmdBare c) ((domOfCode (c.b 8)).isSome && decide (c.b 9 ≤ 2)) = true →
    let t := c.b 9
    let ch := c.arrival.val
    ((s.m.domMove d).isSome = true → exec (.domainSet c w) s = .next { s with m := s.m.reply c 0x0A }) ∧
    (s.m.domMove d = none → s.m.pwr.coreOff = none →
      (s.m.domState d = t → exec (.domainSet c w) s = .next { s with m := s.m.reply c 0 }) ∧
      (s.m.domState d ≠ t → t = 0 → (s.m.domNeeds d).any (fun e => (s.m.domMove e).isSome) = false →
        exec (.domainSet c w) s = .next { s with m := (s.m.startRun { cmd := c }).domTurnOn d (some c) }) ∧
      (s.m.domState d ≠ t → t ≠ 0 → (d = 0 → t ≠ 2) → s.m.domWanted d = true → exec (.domainSet c w) s = .next { s with m := s.m.reply c 0x0A }) ∧
      (s.m.domState d ≠ t → t ≠ 0 → (d = 0 → t ≠ 2) → s.m.domWanted d = false →
        (∀ code, s.m.refuser d t ch (s.m.wakeOf d w.toNat != 0) true = some code →
          exec (.domainSet c w) s = .next { s with m := (s.m.countRefuser d t ch code false).reply c 0x12 code }) ∧
        (s.m.refuser d t ch (s.m.wakeOf d w.toNat != 0) true = none → s.m.domState d ≠ 2 →
          exec (.domainSet c w) s = .next { s with m := (s.m.startRun { cmd := c }).domEnter d t (some c) ch })) ∧
      (d = 0 → t = 2 → s.m.domState 0 ≠ 2 → s.m.coreMoving = false → s.m.coreWanted = false → w = 0 → ch = 1 → exec (.domainSet c w) s = .next { s with m := Mach.coreOffNext { s.m.startRun { cmd := c } with pwr := { (s.m.startRun { cmd := c }).pwr with coreOff := some c } } }))) ∧
  (∀ (c : Cmd) (s : State) (d : Nat), domOfCode (c.b 8) = some d → s.m.serves c (cmdBare c) (domOfCode (c.b 8)).isSome = true →
    exec (.domainStatus c) s = .next { s with m := s.m.reply c 0 (f12 (s.m.rg (pwrStat d)).toNat) }) ∧
  (∀ (d : Fin 19) (s : State),
    (s.m.domMove d = none → (∀ ok, exec (.domainDrainDone d ok) s = .next s.retainEnd) ∧ (∀ t, exec (.domainExitDone d t) s = .next s) ∧ exec (.domainEntryTimeout d) s = .next s.retainEnd) ∧
    (∀ x, s.m.domMove d = some x →
      (x.entering = true → d.val ≠ 0 → d.val ≠ 3 → d.val ≠ 4 → d.val ≠ 5 → d.val ≠ 14 → ∀ ok, exec (.domainDrainDone d ok) s = .next (State.retainEnd { s with m := (s.m.domEntered d x).domPump.coreOffNext })) ∧
      (x.entering = true → d.val = 4 → s.m.dmc.slots = [] → ∀ ok, exec (.domainDrainDone d ok) s = .next (State.retainEnd { s with m := if x.target = 1 ∧ (s.m.initDone = false ∨ ok = false) then s.m.domAbort d 0x04 else (s.m.domEntered d x).domPump.coreOffNext })) ∧
      (∀ c, x.entering = true → d.val = 0 → s.m.pwr.coreOff = some c → s.m.dieBusy = false → ∀ ok, exec (.domainDrainDone d ok) s = .next (State.retainEnd { s with m := s.m.corePowerDown c })) ∧
      exec (.domainEntryTimeout d) s = .next (State.retainEnd { s with m := s.m.domAbort d (if d.val = 4 then 0x08 else if d.val = 0 then 0x06 else 0x0F) }) ∧
      (∀ t, x.entering = false → d.val ≠ 4 →
        (s.m.domState d = 2 → s.m.exitFails d = true → exec (.domainExitDone d t) s = .next { s with m := ((s.m.setMove d none).domFailed d 0x13).coreOffNext }) ∧
        ((s.m.domState d ≠ 2 ∨ s.m.exitFails d = false) → exec (.domainExitDone d t) s = .next { s with m := (s.m.domArrives s.guard.toNat d).domPump.coreOffNext })) ∧
      (∀ t, x.entering = false → d.val = 4 → x.begun = false → exec (.domainExitDone d t) s = .next { s with m := s.m.dramExit x t })) ∧
    (∀ src : Fin 8, (s.m.wakeOf d (2 ^ src.val) = 0 → exec (.domainWakeSource d src) s = .next s) ∧
      (s.m.wakeOf d (2 ^ src.val) ≠ 0 →
        (∀ x, s.m.domMove d = some x → exec (.domainWakeSource d src) s = .next { s with m := s.m.domAbort d 1 }) ∧
        (s.m.domMove d = none → (s.m.domOn d = true ∨ s.m.pwr.turnOn.any (·.1.contains d.val) = true) → exec (.domainWakeSource d src) s = .next s) ∧
        (s.m.domMove d = none → s.m.domOn d = false → s.m.pwr.turnOn.any (·.1.contains d.val) = false → exec (.domainWakeSource d src) s = .next { s with m := (s.m.ev (pwrStat d) PWR_D_STAT_wake_ev).domTurnOn d none })))) ∧
  (∀ (d : Fin 15) (i : Fin 4) (s : State),
    (s.m.domOn d = true → exec (.islandWordArrive d i) s = .next { s with m := s.m.setIsl d i 0 } ∧
      (s.m.isl d i = 0 → exec (.islandIdleEntry d i) s = .next { s with m := s.m.setIsl d i 1 }) ∧
      (s.m.isl d i = 1 → s.m.fg (PWR_D_CFG d) PWR_D_CFG_sleep_idle ≠ 0 → s.m.sleepBarred d = false →
        exec (.islandSleepEntry d i) s = .next { s with m := s.m.setIsl d i 2 }) ∧
      ((s.m.isl d i ≠ 1 ∨ s.m.fg (PWR_D_CFG d) PWR_D_CFG_sleep_idle = 0 ∨ s.m.sleepBarred d = true) → exec (.islandSleepEntry d i) s = .next s)) ∧
    (s.m.domOn d = false → exec (.islandWordArrive d i) s = .next s ∧ exec (.islandIdleEntry d i) s = .next s ∧ exec (.islandSleepEntry d i) s = .next s)) ∧
  (∀ (mv : Nat) (s : State), let m := s.m.fs PWR_VCORE PWR_VCORE_mv (min mv 65535)
    (mv < 760 → exec (.vcoreAssistChange mv) s = .next { s with m := m.fs PWR_VCORE PWR_VCORE_assist 1 }) ∧
    (760 ≤ mv → mv ≤ 770 → exec (.vcoreAssistChange mv) s = .next { s with m := m }) ∧
    (770 < mv → exec (.vcoreAssistChange mv) s = .next { s with m := m.fs PWR_VCORE PWR_VCORE_assist 0 })) ∧
  (∀ (b : Bool) (s : State), let w := getF s.m.wakeWord (if b = true then PWR_CORE_WAKE_waken else PWR_CORE_WAKE_smbus)
    (w = 0 → exec (.coreWakeEvent b) s = .next s) ∧
    (w ≠ 0 → s.m.pwr.off = true → exec (.coreWakeEvent b) s = .next (s.chipReset rsCoreWake 0 false)) ∧
    (w ≠ 0 → s.m.pwr.off = false → exec (.coreWakeEvent b) s = .next { s with m := s.m.coreWoken }))

/-- A hoop in INRUSH goes ON at the end of inrush and starts its clean window unless it limits, or trips INRUSH when the
time passes; ON, its power-good rises when a window that runs has passed. A conducting switch that limits starts its
fault timer and loses its window; limiting no longer, its timer returns to zero; an expired timer trips it. Thermal,
VIN and supply trips take their own causes; a supply outside its window is reported, VBUS_IN trips every VBUS switch
and a low VDD_HOOP every hoop, and its recovery starts their holdoffs. The end of a holdoff leaves the switch LATCHED;
SAFE_STOP_N back high starts the stopped hoops' holdoffs. In any other state an event changes nothing. (R490, R492,
R493, R494, R495, R496, R497, R552, R604) -/
def Obligations.SwitchesTripRecoverAndLatch : Prop :=
  (∀ (k : Fin 12) (s : State),
    (s.m.swState (.hoop k) = swInrush → exec (.hoopInrushDone k) s = .next { s with m := (s.m.fs (PDI_HOOP_STAT k) PDI_HOOP_STAT_state swOn).setSw (.hoop k) { s.m.sw (.hoop k) with window := s.m.fg (PDI_HOOP_STAT k) PDI_HOOP_STAT_limiting == 0 } } ∧
      exec (.hoopInrushTimeout k) s = .next { s with m := s.m.tripSw (.hoop k) 3 }) ∧
    (s.m.swState (.hoop k) ≠ swInrush → exec (.hoopInrushDone k) s = .next s ∧ exec (.hoopInrushTimeout k) s = .next s) ∧
    ((s.m.swState (.hoop k) ≠ swOn ∨ (s.m.sw (.hoop k)).window = false) → exec (.hoopPowerGood k) s = .next s) ∧
    (s.m.swState (.hoop k) = swOn → (s.m.sw (.hoop k)).window = true → exec (.hoopPowerGood k) s = .next { s with m := ((s.m.fs (PDI_HOOP_STAT k) PDI_HOOP_STAT_state swOn).fs (PDI_HOOP_STAT k) PDI_HOOP_STAT_pgood 1).setSw (.hoop k) { s.m.sw (.hoop k) with window := false } }) ∧
    exec (.vinUvTrip k) s = .next { s with m := s.m.tripSw (.hoop k) 4 }) ∧
  (∀ (w : Switch) (s : State),
    (s.m.swLive w = true →
      exec (.switchLimitEngage w) s = .next { s with m := (s.m.fs (swStat w) PDI_HOOP_STAT_limiting 1).setSw w { s.m.sw w with timing := true, window := false } } ∧
      exec (.switchLimitClean w) s = .next { s with m := (s.m.fs (swStat w) PDI_HOOP_STAT_limiting 0).setSw w { s.m.sw w with timing := false, window := s.m.fg (swStat w) PDI_HOOP_STAT_pgood == 0 } } ∧
      ((s.m.sw w).timing = true → exec (.faultTimerExpiry w) s = .next { s with m := s.m.trip w 1 })) ∧
    (s.m.swLive w = false → exec (.switchLimitEngage w) s = .next s ∧ exec (.switchLimitClean w) s = .next s ∧ exec (.faultTimerExpiry w) s = .next s) ∧
    ((s.m.sw w).timing = false → exec (.faultTimerExpiry w) s = .next s)) ∧
  (∀ (p : Fin 48) (s : State), exec (.vbusThermalTrip p) s = .next { s with m := s.m.trip (.vbus p) 2 }) ∧
  (∀ (w : Switch) (c : Nat) (m : Mach), (m.swLive w = false → m.tripSw w c = m) ∧
    (m.swLive w = true → (m.tripSw w c).swState w = swHoldoff ∧ (m.tripSw w c).fg (swStat w) PDI_HOOP_STAT_cause = c % 16 ∧ (m.tripSw w c).fg (swStat w) PDI_HOOP_STAT_pgood = 0)) ∧
  (∀ (n : Fin 16) (h : Bool) (s : State),
    ((8 < n.val ∨ s.m.supplyBad n h = true) → exec (.supplyFault n h) s = .next s) ∧
    (n.val ≤ 8 → s.m.supplyBad n h = false →
      let m := Mach.pdEvent { s.m with pdi := { s.m.pdi with badSupply := s.m.pdi.badSupply ++ [2 * n.val + b2n h] } } (.supply n h)
      (n.val = 7 → exec (.supplyFault n h) s = .next { s with m := forEach allVbus (fun w m => m.trip w 9) m }) ∧
      (n.val = 8 → h = false → exec (.supplyFault n h) s = .next { s with m := m.tripHoops 9 }) ∧
      (n.val ≠ 7 → (n.val = 8 → h = true) → exec (.supplyFault n h) s = .next { s with m := m })) ∧
    (s.m.supplyBad n false = false → s.m.supplyBad n true = false → exec (.supplyRecover n) s = .next s) ∧
    ((s.m.supplyBad n false = true ∨ s.m.supplyBad n true = true) →
      let m := Mach.pdEvent { s.m with pdi := { s.m.pdi with badSupply := s.m.pdi.badSupply.filter (fun e => e / 2 != n.val) } } (.supplyRecovered n)
      (n.val = 7 → exec (.supplyRecover n) s = .next { s with m := m.causeEnds allVbus 9 }) ∧
      (n.val = 8 → exec (.supplyRecover n) s = .next { s with m := m.causeEnds allHoops 9 }) ∧
      (n.val ≠ 7 → n.val ≠ 8 → exec (.supplyRecover n) s = .next { s with m := m }))) ∧
  (∀ s : State, (∀ w, s.m.swState w = swHoldoff → (s.m.sw w).holdoff = true →
      let m := ((s.m.fs (swStat w) PDI_HOOP_STAT_state swLatched).setSw w {}).pdEvent (.holdoffEnd w)
      (∀ k, w = .hoop k → exec (.holdoffEnd w) s = .next { s with m := m }) ∧
      (∀ p, w = .vbus p → exec (.holdoffEnd w) s = .next { s with m := m.overCurrentOff p })) ∧
    (∀ w, (s.m.swState w ≠ swHoldoff ∨ (s.m.sw w).holdoff = false) → exec (.holdoffEnd w) s = .next s) ∧
    (s.m.fg PDI_PWR_STAT PDI_PWR_STAT_safe_stop = 0 → exec .safeStopRelease s = .next s) ∧
    (s.m.fg PDI_PWR_STAT PDI_PWR_STAT_safe_stop = 1 → exec .safeStopRelease s = .next { s with m := ((s.m.fs PDI_PWR_STAT PDI_PWR_STAT_safe_stop 0).pdEvent .safeStopRelease).causeEnds allHoops 5 }))

/-- A port in TRAIN with D7 ON becomes ACTIVE with its neighbour and the receiver's credits per pool; a lost link is
counted, reported and keeps quiet, and after its quiet an enabled port trains again. On a link in service: a flit with
a bad CRC counts and, sequenced, is answered by one NAK; a known sequenced flit in order moves the expected number on
and joins its packet; out of order it is answered by a NAK. A NAK of a held flit sends it and those behind it again,
and after four replays of the same flit loses the link. The oldest packet of a port gives its credits back once it may
be taken; for this hub it waits for room; one whose buffer fails parity is reported, a link-local one taken, and one
whose join count is wrong dropped and counted. (R456, R457, R458, R459, R460, R461, R464, R465) -/
def Obligations.ChainLinksCarryFlits : Prop :=
  (∀ (n : Fin 32) (j : Fin 4) (s : State), (s.m.domOn 7 = false ∨ s.m.fg (CHN_P_STAT j) CHN_P_STAT_state ≠ 2) → ∀ p, exec (.linkTrained j n p) s = .next s) ∧
  (∀ (k p : Fin 4) (n : Fin 32) (s : State), s.m.domOn 7 = true → s.m.fg (CHN_P_STAT k) CHN_P_STAT_state = 2 → exec (.linkTrained k n p) s = .next { s with m := let m := s.m.setChp k { rx := (s.m.chp k).rx, credit := (upTo 6).foldl (fun c i => spSet 0 c i (poolFlits i)) [] }; let m := ((m.fs (CHN_P_STAT k) CHN_P_STAT_state 3).fs (CHN_P_STAT k) CHN_P_STAT_nbr_node n).fs (CHN_P_STAT k) CHN_P_STAT_nbr_port p; (m.ev CHN_STAT CHN_STAT_up_ev).linkNotice k true }) ∧
  (∀ (k : Fin 4) (s : State), (s.m.linkUp k = false → exec (.linkLoss k) s = .next s) ∧
    (s.m.linkUp k = true → exec (.linkLoss k) s = .next { s with m := let x := s.m.chp k; let q := (s.m.setChp k { quiet := true, rx := x.rx, delays := x.delays }).flushOutput (49 + k); let m := forEach (upTo 57) (fun i m => m.refeed i) q.2; let m := ((m.fs (CHN_P_STAT k) CHN_P_STAT_state 0).fs (CHN_P_STAT k) CHN_P_STAT_nbr_node 0).fs (CHN_P_STAT k) CHN_P_STAT_nbr_port 0; let m := (m.inc (CHN_P_DROP k) CHN_P_DROP_count ((x.wait.filter (fun f => f.fin != 0 && decide (f.pool < 6))).length + q.1)).inc (CHN_P_DOWN k) CHN_P_DOWN_count; (((m.ev CHN_STAT CHN_STAT_down_ev).raise 0x60 k).breakArrival (3 + k)).linkNotice k false }) ∧
    ((s.m.chp k).quiet = false → exec (.linkQuietEnd k) s = .next s) ∧
    ((s.m.chp k).quiet = true → s.m.domOn 7 = true → s.m.chnEnabled k = true → exec (.linkQuietEnd k) s = .next { s with m := s.m.linkTrain k })) ∧
  (∀ (k : Fin 4) (f : Flit) (t : Nat) (s : State), (s.m.linkUp k = false → exec (.flitRx k f t) s = .next s) ∧
    (s.m.linkUp k = true →
      (f.crcOk = false → exec (.flitRx k f t) s = .next { s with m := let m := (s.m.at_ t).badFlit k t; if flitSequenced f = true then m.sendNak k else m }) ∧
      (f.crcOk = true → let m := (s.m.at_ t).flitFields k f
        (flitKnown f = false → exec (.flitRx k f t) s = .next { s with m := m.inc (CHN_P_CRC k) CHN_P_CRC_count }) ∧
        (flitKnown f = true → flitSequenced f = false → exec (.flitRx k f t) s = .next { s with m := m }) ∧
        (flitKnown f = true → flitSequenced f = true → f.seq.toNat ≠ (m.chp k).rxExp → exec (.flitRx k f t) s = .next { s with m := m.sendNak k }) ∧
        (flitKnown f = true → flitSequenced f = true → f.seq.toNat = (m.chp k).rxExp → exec (.flitRx k f t) s = .next { s with m := let n := m.setChp k { m.chp k with rxExp := ((m.chp k).rxExp + 1) % 256, nak := false }; if f.kind = 1#2 then n.flitData k f else n })))) ∧
  (∀ (k : Fin 4) (q : BitVec 8) (s : State), let x := s.m.chp k; let held := x.held.dropWhile (fun f => f.seq != q.toNat)
    s.m.linkUp k = true →
    (held = [] → q.toNat ≠ x.txSeq → exec (.flitNakRx k q) s = .next s) ∧
    (held ≠ [] → x.replaySeq = some q.toNat → 4 ≤ x.replays → exec (.flitNakRx k q) s = .next { s with m := s.m.linkLost k }) ∧
    (held ≠ [] → x.replaySeq ≠ some q.toNat → exec (.flitNakRx k q) s = .next { s with m := let m := (s.m.setChp k { x with held := held, replaySeq := some q.toNat, replays := 1 }).inc (CHN_P_REPLAY k) CHN_P_REPLAY_count; Mach.chnPump x.wait.length k (forEach held (fun f m => m.flitOut k f) m) })) ∧
  (∀ (k : Fin 4) (ok : Bool) (s : State), ((s.m.chp k).rx = [] → exec (.chainPacketRx k ok) s = .next s) ∧
    (∀ pool n bs rest, (s.m.chp k).rx = (pool, n, bs) :: rest → let h := routeHdr bs; let data := slice bs 16 h.length
      let m := s.m.setChp k { s.m.chp k with rx := rest }
      let m := if m.linkUp k = true then m.creditBack k pool n else m
      let room := if forReports h = true then s.m.qMayBegin 51 = true else s.m.feed (49 + k) h.cls = []
      (room → ok = false → exec (.chainPacketRx k ok) s = .next { s with m := m.raise 0x52 (49 + k) }) ∧
      ((h.linkLocal = true ∨ h.dst = s.m.node) → ¬ room → exec (.chainPacketRx k ok) s = .next s) ∧
      (h.linkLocal = true → room → ok = true → exec (.chainPacketRx k ok) s = .next { s with m := m.chainLocal k h data }) ∧
      (h.linkLocal = false → room → ok = true → m.fg (CHN_ROUTE h.src) CHN_ROUTE_join ≠ h.join →
        exec (.chainPacketRx k ok) s = .next { s with m := m.inc (CHN_P_DROP k) CHN_P_DROP_count })))

/-- SYNC goes to every child on a link in service. A SYNC from the parent steps the time where this hub has just joined or
a new parent is off by more than 500 ns, and else slews it either way by at most 100 ppm, and the offset and age are
shown. A DELAY_REQ goes to the parent with its time, one from a child is answered at once, and a response's delay
joins the mean of the last eight. Time more than 10 ms old loses its lock on a joined hub other than 0. An ALERT is
shown, stops playout, raises ALERT_RX and goes on down the tree; one of the proof test is acknowledged, and the tester
counts each node once. A channel reset breaks the locks owned through that channel and goes on. (R427, R470, R471,
R472, R473, R555, R568) -/
def Obligations.ChainTimeAndAlerts : Prop :=
  (∀ (t : Nat) (s : State), exec (.syncSend t) s = .next { s with m := let m := s.m.at_ t; forEach ((upTo 4).filter (fun k => m.fg (CHN_P_STAT k) CHN_P_STAT_tree == 1 && m.fg (CHN_P_STAT k) CHN_P_STAT_child == 1 && m.linkUp k)) (fun k n => (n.emit .chainTx [k, 1, n.ctime, n.fg CHN_TIME CHN_TIME_offset]).controlOut k (2#8 :: leBytes 8 n.ctime ++ leBytes 2 (n.fg CHN_TIME CHN_TIME_offset))) m }) ∧
  (∀ (k : Fin 4) (ts t : Nat) (off : BitVec 16) (s : State),
    ((s.m.parentLink ≠ some k.val ∨ s.m.node = 0) → exec (.syncRx k ts off t) s = .next s) ∧
    (s.m.parentLink = some k.val → s.m.node ≠ 0 →
      let m := s.m.at_ t
      let d : Int := (8 * ts + m.fg (CHN_P_STAT k) CHN_P_STAT_delay : Nat) - (8 * t : Nat)
      let slew : Int := ((match m.chn.lastSync with | some l => t - l | none => 0) / 10000 : Nat)
      let moved : Int → Mach := fun v =>
        let now := ((m.ctime : Int) + v).toNat % 2 ^ 64
        let n : Mach := { m with ctime := now, chn := { m.chn with fresh := false, newParent := false, lastSync := some now } }
        (n.fs CHN_TIME CHN_TIME_offset (twos 16 (sext 16 off.toNat - (d / 8 - v)))).fs CHN_TIME CHN_TIME_age 0
      let locked : Mach → Bool → Mach := fun n stepped =>
        Mach.setTimeLock { n with shf := { n.shf with synced := true, phasing := n.shf.phasing || stepped } } true
      (m.chn.fresh = true ∨ (m.chn.newParent = true ∧ 4000 < d.natAbs) →
        (m.domOn 6 = true → exec (.syncRx k ts off t) s = .next { s with m := locked ((moved (d / 8)).rephase (d / 8)) true }) ∧
        (m.domOn 6 = false → exec (.syncRx k ts off t) s = .next { s with m := moved (d / 8) })) ∧
      (m.chn.fresh = false → (m.chn.newParent = false ∨ d.natAbs ≤ 4000) →
        let v := max (-slew) (min slew (d / 8))
        (m.domOn 6 = true → exec (.syncRx k ts off t) s = .next { s with m := locked (moved v) false }) ∧
        (m.domOn 6 = false → exec (.syncRx k ts off t) s = .next { s with m := moved v })))) ∧
  (∀ (t : Nat) (half : Bool) (s : State), ((s.m.at_ t).parentLink = none → exec (.delayReqSend t half) s = .next { s with m := s.m.at_ t }) ∧
    (∀ k, (s.m.at_ t).parentLink = some k → exec (.delayReqSend t half) s = .next { s with m := (((s.m.at_ t).setChp k { (s.m.at_ t).chp k with t1 := some (2 * t + b2n half) }).emit .chainTx [k, 2, 2 * t + b2n half]).controlOut k (3#8 :: leBytes 8 (2 * t + b2n half)) })) ∧
  (∀ (k : Fin 4) (t2 t3 t4 : Nat) (s : State),
    (s.m.linkUp k = true → exec (.delayReqRx k t2 t3) s = .next { s with m := (s.m.emit .chainTx [k, 3, t2, t3]).controlOut k (4#8 :: leBytes 8 t2 ++ leBytes 8 t3) }) ∧
    (s.m.linkUp k = false → exec (.delayReqRx k t2 t3) s = .next s) ∧
    ((s.m.chp k).t1 = none → exec (.delayRespRx k t2 t3 t4) s = .next s) ∧
    (∀ t1, (s.m.chp k).t1 = some t1 → exec (.delayRespRx k t2 t3 t4) s = .next { s with m := let l := (s.m.chp k).delays ++ [2 * (t4 - t1 - (t3 - t2))]; let l := l.drop (l.length - 8); (s.m.setChp k { s.m.chp k with t1 := none, delays := l }).fs (CHN_P_STAT k) CHN_P_STAT_delay (min 65535 (l.foldl (· + ·) 0 / l.length)) })) ∧
  (∀ (t : Nat) (s : State), let m := s.m.at_ t
    (m.chn.lastSync = none → exec (.syncAgeExpiry t) s = .next { s with m := m }) ∧
    (∀ l, m.chn.lastSync = some l →
      ((t ≤ l + 10000000 ∨ m.node = 0 ∨ m.joined = false ∨ m.domOn 6 = false) → exec (.syncAgeExpiry t) s = .next { s with m := m }) ∧
      (l + 10000000 < t → m.node ≠ 0 → m.joined = true → m.domOn 6 = true → exec (.syncAgeExpiry t) s = .next { s with m := Mach.setTimeLock { m with shf := { m.shf with synced := false } } false }))) ∧
  (∀ (k : Fin 4) (node : Fin 32) (src : BitVec 8) (s : State), (s.m.linkUp k = false → exec (.alertRx k node src) s = .next s) ∧
    (s.m.linkUp k = true → src.toNat ≠ 6 → exec (.alertRx k node src) s = .next { s with m := let m := (s.m.wr FLT_ALERT (BitVec.ofNat 32 (node * 256 + src.toNat))).ev FLT_STAT FLT_STAT_alert_ev; (m.stopPlayout.raise 0x62 (node * 256 + src.toNat)).controlTree (some k.val) 4 0x05 [node, src.toNat] }) ∧
    (∀ r, s.m.linkUp k = true → src.toNat = 6 →
      let m := (s.m.wr FLT_ALERT (BitVec.ofNat 32 (node * 256 + src.toNat))).ev FLT_STAT FLT_STAT_alert_ev
      let m := (m.stopPlayout.raise 0x62 (node * 256 + src.toNat)).controlTree (some k.val) 4 0x05 [node, src.toNat]
      m.routePort node = some r → m.linkUp r = true → exec (.alertRx k node src) s = .next { s with m := m.emit .chainTx [r, 5, node, m.node] })) ∧
  (∀ (node : Fin 32) (s : State), (s.m.flt.proof = none → exec (.proofAlertAckRx node) s = .next s) ∧
    (∀ p, s.m.flt.proof = some p →
      (p.test ≠ 5 ∨ node.val ∈ p.acks → exec (.proofAlertAckRx node) s = .next s) ∧
      (p.test = 5 → node.val ∉ p.acks → exec (.proofAlertAckRx node) s = .next { s with m := { s.m with flt := { s.m.flt with proof := some { p with acks := p.acks ++ [node.val] } } } }))) ∧
  (∀ (k : Fin 4) (node : Fin 32) (chan : Fin 3) (s : State), (s.m.linkUp k = false → exec (.chanResetRx k node chan) s = .next s) ∧
    (s.m.linkUp k = true → exec (.chanResetRx k node chan) s = .next { s with m := (s.m.breakOwner node chan (if chan.val = 2 then 2 else 1)).controlTree (some k.val) 6 0x06 [node, chan] }))

/-- On a link in service, a hub other than 0 passes the first PROBE of a run on through its other links and reports; a
repeat does nothing; on node 0 another root's PROBE ends discovery as a duplicate. A REPORT passes back towards node
0, which waits for every hub its reports name and then sends the topology; once every hub has answered it activates. A
pending topology is held and answered, none withdraws it, and ACTIVATE installs it and goes to the children. A limit
that passes goes on without the silent hubs. A link notice on node 0 makes a waiting run look again. Where no route to
node 0 returns in time, the other nodes' routes are cleared. (R400, R467, R468, R474, R475, R487) -/
def Obligations.DiscoveryMessagesInstallTopologies : Prop :=
  (∀ (k : Fin 4) (root : BitVec 64) (run : BitVec 8) (s : State), (s.m.linkUp k = false → exec (.probeRx k root run) s = .next s) ∧
    (s.m.linkUp k = true → s.m.node = 0 → (root = Config.serial → exec (.probeRx k root run) s = .next s) ∧
      (root ≠ Config.serial → exec (.probeRx k root run) s = .next { s with m := (s.m.discDup 2).discAgain })) ∧
    (s.m.linkUp k = true → s.m.node ≠ 0 →
      (∀ p, s.m.chn.probed = some (root.toNat, run.toNat, p) → exec (.probeRx k root run) s = .next s) ∧
      (s.m.chn.probed = none → exec (.probeRx k root run) s = .next { s with m := let m := { s.m with chn := { s.m.chn with probed := some (root.toNat, run.toNat, k.val) } }; let m := forEach ((upTo 4).filter (fun p => p != k.val && m.linkUp p)) (fun p m => m.emit .chainTx [p, 7, run.toNat]) m; m.emit .chainTx ([k.val, 8] ++ repNums m.ownRep) }))) ∧
  (∀ (r : NodeRep) (s : State),
    (s.m.node ≠ 0 → s.m.chn.probed = none → exec (.reportRx (.report r)) s = .next s) ∧
    (∀ a b p, s.m.node ≠ 0 → s.m.chn.probed = some (a, b, p) → s.m.linkUp p = true → exec (.reportRx (.report r)) s = .next { s with m := s.m.emit .chainTx ([p, 8] ++ repNums r) }) ∧
    (∀ d, s.m.node = 0 → s.m.chn.disc = some d → d.phase = 3 → d.reports.find? (fun e => e.node == r.node) = none →
      exec (.reportRx (.report r)) s = .next { s with m := (s.m.discCheck { d with reports := d.reports ++ [r] }).discAgain }) ∧
    (∀ d e, s.m.node = 0 → s.m.chn.disc = some d → d.phase = 3 → d.reports.find? (fun e => e.node == r.node) = some e → e.serial ≠ r.serial →
      exec (.reportRx (.report r)) s = .next { s with m := (s.m.discDup 1).discAgain })) ∧
  (∀ (n : Fin 32) (d : Disc) (s : State), s.m.node = 0 → s.m.chn.disc = some d → d.phase = 5 →
    let d' := { d with answered := d.answered ++ [n.val] }
    let done := (topoNodes d'.reports).all (fun n => n == 0 || d'.answered.contains n)
    (done = true → exec (.reportRx (.answer n)) s = .next { s with m := (s.m.discActivate d').discAgain }) ∧
    (done = false → exec (.reportRx (.answer n)) s = .next { s with m := s.m.setDisc (some d') })) ∧
  (∀ s : State, exec (.topologyRx none) s = .next { s with m := { s.m with chn := { s.m.chn with pend := none } } } ∧
    (∀ t a b p, s.m.chn.probed = some (a, b, p) → s.m.linkUp p = true → exec (.topologyRx (some t)) s = .next { s with m := Mach.emit { s.m with chn := { s.m.chn with pend := some t } } .chainTx [p, 9, s.m.node] }) ∧
    (s.m.chn.pend = none → exec .activateRx s = .next s) ∧
    (∀ t, s.m.chn.pend = some t → exec .activateRx s = .next { s with m := (forEach t.children (fun k m => m.emit .chainTx [k.val, 10]) s.m).install t })) ∧
  (∀ s : State, (s.m.chn.disc = none → exec .discoveryTimeout s = .next s) ∧
    (∀ d, s.m.chn.disc = some d →
      (d.phase = 1 → exec .discoveryTimeout s = .next { s with m := (s.m.discProbe d).discAgain }) ∧
      (d.phase = 3 → exec .discoveryTimeout s = .next { s with m := (s.m.discSend { d with silent := true }).discAgain }) ∧
      (d.phase = 5 → exec .discoveryTimeout s = .next { s with m := (s.m.discActivate { d with silent := true, reports := d.reports.filter (fun r => r.node == 0 || d.answered.contains r.node.val) }).discAgain }) ∧
      (s.m.node = 0 → d.phase = 1 → exec .linkDownRx s = .next { s with m := s.m.discWait d })) ∧
    (s.m.node ≠ 0 → exec .linkDownRx s = .next s) ∧
    ((s.m.node = 0 ∨ s.m.joined = false) → exec .routeTimeout s = .next s) ∧
    (s.m.node ≠ 0 → s.m.joined = true → s.m.routePort 0 = none → exec .routeTimeout s = .next { s with m := forEach s.m.otherNodes (fun n m => (m.wr (CHN_ROUTE n) 0).nodeUnreachable n) s.m }))

/-- Power-on resets with cause POWER_ON and samples the straps; RESET_N low for 1 us or more is a cold reset that samples
them, below 0.8 us nothing. A running watchdog raises CPU_WDOG first and resets the chip at its second end unless a
warm-retain reset is under way. A processor fault drops the held store and resets channel 2. S0 waits for the supplies
and records one that holds it up; a failed S1 stops the boot with the core die held; a passed S7 goes on; S11 ends the
boot once VBUS is there; with no step running nothing happens. JOURNAL_READ answers records from the newest back;
FW_WRITE into any slot but the running one programs it, which a FLASH_OP_DONE ends; FW_ACTIVATE of a slot that
authenticates answers OK, marks it and resets unless a warm-retain reset is under way, else BAD_STATE with the result.
(R396, R427, R428, R576, R577, R580, R582, R583, R588, R593, R612) -/
def Obligations.ResetsBootAndFirmware : Prop :=
  (∀ (st : BitVec 4) (s : State), exec (.powerOnReset st) s = .next { s.chipReset rsPowerOn 0 false with m := (s.chipReset rsPowerOn 0 false).m.sampleStraps st.toNat } ∧
    (∀ ns < 800, exec (.coldReset st ns) s = .next s) ∧
    (∀ ns, 1000 ≤ ns → exec (.coldReset st ns) s = .next { s.chipReset rsCold 0 false with m := (s.chipReset rsCold 0 false).m.sampleStraps st.toNat })) ∧
  (∀ (cause r : Nat) (s : State) (b : Bool), (s.chipReset cause r b).guard = 0 ∧ (s.chipReset cause r b).pending = s.pending ∧
    (cause ≠ rsRetain → (s.chipReset cause r b).dram = []) ∧ (s.chipReset rsRetain r b).dram = s.dram) ∧
  (∀ s : State, (s.m.wdogRuns = false → exec .watchdogExpiry s = .next s) ∧
    (s.m.wdogRuns = true → s.m.boot.wdogOnce = false → exec .watchdogExpiry s = .next { s with m := (s.m.boots (fun b => { b with wdogOnce := true })).raise 0x74 0 }) ∧
    (s.m.wdogRuns = true → s.m.boot.wdogOnce = true →
      (s.m.boot.retaining = false → exec .watchdogExpiry s = .next (s.chipReset rsWatchdog 0 false)) ∧
      (s.m.boot.retaining = true → exec .watchdogExpiry s = .next s)) ∧
    exec .processorFault s = .next { s with m := Mach.channelReset { s.m with cmd := { s.m.cmd with keyed := none } } 2 2 }) ∧
  (∀ (x : BootRes) (s : State), let m := s.m.bootTime x.time.toNat
    (s.m.boot.step = none → exec (.bootStepComplete x) s = .next s) ∧
    (s.m.boot.step = some 0 →
      let n := (if s.m.boot.index = 0 then s.m.causeRecord.journal 0 jStart 1 0 else s.m).bootTime x.time.toNat
      (x.pass = false → exec (.bootStepComplete x) s = .next { s with m := n.journal 0 jFail 1 x.detail.toNat }) ∧
      (x.pass = true → s.m.pdi.badSupply = [] → exec (.bootStepComplete x) s = .next { s with m := n.stepPass 0 x }) ∧
      (x.pass = true → s.m.pdi.badSupply ≠ [] → exec (.bootStepComplete x) s = .next { s with m := m })) ∧
    (s.m.boot.step = some 1 → x.pass = true → exec (.bootStepComplete x) s = .next { s with m := m.collectorStart.stepPass 1 x }) ∧
    (s.m.boot.step = some 1 → x.pass = false → exec (.bootStepComplete x) s = .next { s with m := m.bootStop 1 1 x.detail.toNat }) ∧
    (s.m.boot.step = some 7 → x.pass = true → exec (.bootStepComplete x) s = .next { s with m := m.stepPass 7 x }) ∧
    (s.m.boot.step = some 11 → m.fg HUB_STAT HUB_STAT_vbus_det = 1 → exec (.bootStepComplete x) s = .next { s with m := (m.journal 11 jPass 1 x.detail.toNat).bootComplete }) ∧
    (s.m.boot.step = some 11 → m.fg HUB_STAT HUB_STAT_vbus_det = 0 → exec (.bootStepComplete x) s = .next { s with m := m })) ∧
  (∀ s : State, (s.m.boot.fw = [] → exec (.flashOpDone true) s = .next s) ∧
    (∀ c l, s.m.boot.fw = c :: l → exec (.flashOpDone true) s = .next { s with m := Mach.reply { s.m with boot := { s.m.boot with fw := l, slots := slotWrite s.m.boot.slots (fwAddr c) c.payload, invalid := if c.p 12 4 = 0 then s.m.boot.invalid.filter (· != fwSlot c) else s.m.boot.invalid } } c 0 })) ∧
  (∀ (c : Cmd) (s : State), s.m.domOn 1 = true → s.m.domOn 3 = true →
    (s.m.serves c (cmdBare c && decide (c.p 14 2 ≤ 42)) (decide (c.b 8 ≤ 1)) = true → exec (.journalRead c) s = .next { s with m := s.m.reply c 0 0 ((((if c.b 8 = 0 then s.m.boot.ram else s.m.boot.flash).reverse.drop (c.p 12 2)).take (c.p 14 2)).reverse.flatMap jBytes) }) ∧
    (s.m.serves c (decide (4 ≤ c.payload.length ∧ c.payload.length ≤ 1024 ∧ c.p 12 4 + c.payload.length ≤ 2 ^ 22)) (decide (c.b 8 ≤ 1)) = true →
      (s.m.boot.slot = some (fwSlot c) → exec (.fwWrite c) s = .next { s with m := s.m.reply c 0x13 }) ∧
      (s.m.boot.slot ≠ some (fwSlot c) → exec (.fwWrite c) s = .next { s with m := (s.m.startRun { cmd := c }).boots (fun b => { b with fw := b.fw ++ [c] }) })) ∧
    (s.m.serves c (cmdBare c) (decide (c.b 8 ≤ 1)) = true → let m := s.m.fs (JNL_SLOT (c.b 8)) JNL_SLOT_result (s.m.authSlot (c.b 8))
      (s.m.authSlot (c.b 8) ≠ 0 → exec (.fwActivate c) s = .next { s with m := m.reply c 0x13 (s.m.authSlot (c.b 8)) }) ∧
      (s.m.authSlot (c.b 8) = 0 → s.m.boot.retaining = true → exec (.fwActivate c) s = .next { s with m := (m.fwMark (c.b 8)).reply c 0 }) ∧
      (s.m.authSlot (c.b 8) = 0 → s.m.boot.retaining = false → exec (.fwActivate c) s = .next (State.chipReset { s with m := (m.fwMark (c.b 8)).reply c 0 } rsFwActivate 0 false))))

/-- For every state and every step that answers: either every lock bit that was set is still set, or the chip was reset in
that step (the lock bits are 0, boot is not done and stands at S0 or S1). A write that reaches GLB_GUARD answers OK
and sets exactly the bits written 1, leaving the others as they are; nothing else of the state changes. (R423) -/
def Obligations.LockBitsLastUntilAChipReset : Prop :=
  (∀ s t : State, step s = .next t → (∀ g, s.guard.getLsbD g = true → t.guard.getLsbD g = true) ∨ Restarted t) ∧
  (∀ (a : Acc) (v : Word) (s : State), Reaches s a GLB_GUARD true →
    exec (.regWrite a (BitVec.ofNat 24 GLB_GUARD) v 15#4) s = .next { s with m := s.m.answer a 0 0, guard := s.guard ||| v.setWidth 7 })

/-- For every state whose DRAM contents are in canonical form (addresses strictly rising, and no listed byte equal to what
an unlisted address reads as), every step that answers leaves them in it, whatever the command: a write of a request,
a hung or retraining write, a fill, the clearing of initialisation or a chip reset. That an unlisted byte reads 0 is
the model's choice (assumption 2), on which no rule of the spec rests. (R243, R250) -/
def Obligations.DramKeepsItsCanonicalForm : Prop :=
  ∀ s t : State, Memory.wf s = true → step s = .next t → Memory.wf t = true

/-- At State.reset the DRAM contents are in canonical form, every lock bit is clear, and registers read as the spec gives
them: the chip ID, every lock free and marked broken with cause 5, holdoffs of 250 ms, every permit and every hoop
off, and every domain ON with its island at RUN. That the queue of commands is empty and the DRAM lists nothing is the
model's own (assumptions 1 and 2). (R423, R427, R430, R496, R534, R576, R581) -/
def Obligations.ResetStateMeetsItsInvariants : Prop :=
  Memory.wf State.reset = true ∧ State.reset.guard = 0 ∧ State.reset.pending = [] ∧
  State.reset.m.rg GLB_CHIPID = 0x484000A1#32 ∧
  (∀ n : Fin 32, State.reset.m.lockHeld n = false ∧ State.reset.m.fg (LCK_LOCK n) LCK_LOCK_broken = 1 ∧ State.reset.m.fg (LCK_LOCK n) LCK_LOCK_cause = 5) ∧
  State.reset.m.fg PDI_PWR_CFG PDI_PWR_CFG_vbus_holdoff = 25 ∧
  (∀ k : Fin 12, State.reset.m.fg (PDI_HOOP_CFG k) PDI_HOOP_CFG_holdoff = 25 ∧ State.reset.m.fg (PDI_HOOP_CFG k) PDI_HOOP_CFG_permit = 0 ∧
    State.reset.m.swState (.hoop k) = 0) ∧
  (∀ d : Fin 19, State.reset.m.domOn d = true)

/-- For every command and state: if the command is not one that writes the DRAM (a request's end, a hung grant, a
retraining round, the end of initialisation) and it answers, then the DRAM contents are as before or the chip was
reset in that step. In every answered step the commands that wait are as before, and after a step with a command in
front exactly that command is gone. (R243, R273, R423, R576) -/
def Obligations.OnlyDramRowsWriteTheDram : Prop :=
  (∀ (c : Instr) (s t : State), exec c s = .next t → writesDram c = false → t.dram = s.dram ∨ (Restarted t ∧ t.dram = [])) ∧
  (∀ (c : Instr) (s t : State), exec c s = .next t → t.pending = s.pending) ∧
  (∀ (c : Instr) (rest : List Instr) (s t : State), s.pending = c :: rest → step s = .next t → t.pending = rest)

/-- For every command and state the model answers a next state or stops with the one fault of a reserved encoding; it
never refuses. A command stops only where it writes a register or fires a cam channel; every other command answers a
next state in every state. (R5, R41, R164) -/
def Obligations.EveryCommandAnswersUnlessReserved : Prop :=
  ∀ (c : Instr) (s : State), (∀ r, exec c s ≠ .refused r) ∧ (∀ f, exec c s = .fault f → ∃ a, f = .reservedEncoding a) ∧
    (writesRegister c = false → firesCams c = false → ∃ t, exec c s = .next t)

/-- For every row that carries out a command packet: with the core die running, the command not aborted and the power
domain of its block, where it has one behind the crossbar, ON and not being entered, a packet whose CRC-32C is wrong
is answered BAD_CRC, and the reply is all that happens. While that domain is not ON the cells wait (R16): the step
changes nothing, whatever the packet. That a waiting packet is offered again is the model's choice (assumption 11).
(R390, R16) -/
def Obligations.BadCrcIsAnsweredBeforeAnythingElse : Prop :=
  (∀ (i : Instr) (c : Cmd) (s : State), i.cmd = some c → s.m.coreDead = false →
    s.m.cmd.gone.any (·.same c) = false → c.crcOk = false →
    (∀ d, blockDomain i = some d → s.m.domOn d = true ∧ s.m.domLeaving d = false) → exec i s = .next { s with m := s.m.reply c 0x04 }) ∧
  (∀ (i : Instr) (s : State) (d : Nat), blockDomain i = some d → s.m.domOn d = false → exec i s = .next s)

/-- A REG_RD or REG_WR that passes its checks and names a register of PDI_: over a link that carries nothing, the REG_REQ,
the access and the REG_RSP with its status and data lie in one step, and the command is answered. Over a link that
carries something it joins the packets and the command waits, past every ABORT. An accepted REG_REQ at the power die
carries out the oldest access that has not been carried out, and its REG_RSP joins the packets of the other direction.
An accepted REG_RSP at the core die ends the oldest access with results: once they are all there the access leaves the
list and is answered; while the core die is dead nothing happens there. That one access's packets cross in one step
over a quiet link is the model's choice (assumption 19). (R8, R11, R411) -/
def Obligations.PdiAccessesCrossTheDieLink : Prop :=
  (∀ (c : Cmd) (s : State), s.m.serves c (cmdBare c) true = true → s.m.accessGate c.arrival.val false (c.p 8 3) none = none → isPdi (c.p 8 3) = true →
    (s.m.dl.quiet = true →
      let r := (s.m.dlPass .core 0x1 0 (regReqData (c.p 8 3) none)).readWord s.guard.toNat c.arrival.val (c.p 8 3)
      exec (.regRd c) s = .next { s with m := (r.2.2.dlPass .power 0x2 0 (regRspData r.1 r.2.1)).reply c r.1 (f12 r.2.1.toNat) }) ∧
    (s.m.dl.quiet = false → s.m.dl.inService = true →
      exec (.regRd c) s = .next { s with m := (s.m.startRun { cmd := c, committed := true }).pdiSend (.cmd c) [{ addr := c.p 8 3 }] })) ∧
  (∀ (c : Cmd) (s : State), let a := c.p 8 3
    let be := c.b 11 % 16
    let w : Word := BitVec.ofNat 32 (c.p 12 4)
    s.m.serves c (cmdBare c) true = true → s.m.accessGate c.arrival.val false a (some be) = none → isPdi a = true →
    (s.m.dl.quiet = true →
      let r := (s.m.dlPass .core 0x1 1 (regReqData a (some w))).writeWord s.guard.toNat (c.arrival.val == 2) none a w be
      exec (.regWr c) s = s.regEnd a w (r.1, r.2.dlPass .power 0x2 0 (regRspData r.1 0)) (fun m => m.reply c r.1)) ∧
    (s.m.dl.quiet = false → s.m.dl.inService = true →
      exec (.regWr c) s = .next { s with m := (s.m.startRun { cmd := c, committed := true }).pdiSend (.cmd c) [{ addr := a, write := some w }] })) ∧
  (∀ (e : DieEnd) (pk : DlPkt) (s : State), s.m.dl.inService = true → pk.parityOk = true →
    pk.seq.toNat = (s.m.dl.dir e.other).rxExp % 16 → (s.m.dl.dir e.other).dup = 0 →
    let d := s.m.dl.dir e.other
    let n : Mach := { s.m with dl := s.m.dl.setDir e.other { d with rxExp := (d.rxExp + 1) % 16, dup := 0 }, out := s.m.out ++ [⟨.dieLink, [e.num, 6, pk.seq.toNat, 1, 0], []⟩, ⟨.dieDeliver, [e.num, pk.type.toNat], pk.data.flatMap (fun w => leBytes 2 w.toNat)⟩] }
    (∀ (r : PdiReq) (x : PdiAct) (l : List PdiAct), e = .power → pk.type = 1#4 → s.m.dl.reqs.find? (fun r => !r.reqs.isEmpty) = some r → r.reqs = x :: l →
      let k := n.pdiDo s.guard.toNat r.who x
      exec (.dielinkPacketRx e pk) s = .next { s with m := ({ k.2.2 with dl := { k.2.2.dl with reqs := updFirst (fun r => !r.reqs.isEmpty) (fun r => { r with reqs := l, done := r.done ++ [(k.1, k.2.1)] }) k.2.2.dl.reqs } }).dlSend .power 0x2 0 (regRspData k.1 k.2.1) }) ∧
    (∀ (r : PdiReq) (x : Nat × Word), e = .core → pk.type = 2#4 → s.m.coreDead = false → s.m.dl.reqs.find? (fun r => !r.done.isEmpty) = some r → r.done = [x] →
      r.reqs = [] → rmwWrite r.who (r.got ++ [x]) = none →
      exec (.dielinkPacketRx e pk) s = .next { s with m := ({ n with dl := { n.dl with reqs := n.dl.reqs.erase r } }).pdiAnswer r.who (r.got ++ [x]) }) ∧
    (e = .core → pk.type = 2#4 → s.m.coreDead = true → exec (.dielinkPacketRx e pk) s = .next { s with m := n }))
end

