-- ==== Sys2Proof/Laws/Sparse.lean ====
section
/-! SUPPORT. Laws of sparse maps: a read after a write, and the canonical form that every operation keeps. -/

namespace Sys2Proof.Machine

theorem spGet_spDel_same {α : Type} (d : α) (m : Sp α) (a : Nat) : spGet d (spDel m a) a = d := by
  induction m with
  | nil => rfl
  | cons e m ih => obtain ⟨k, v⟩ := e; by_cases h : k = a <;> simp [spDel, spGet, h, ih]

theorem spGet_spDel_ne {α : Type} (d : α) (m : Sp α) {a b : Nat} (h : b ≠ a) : spGet d (spDel m a) b = spGet d m b := by
  induction m with
  | nil => rfl
  | cons e m ih =>
    obtain ⟨k, v⟩ := e
    by_cases hk : k = a
    · have : k ≠ b := fun hb => h (hb.symm.trans hk)
      simp [spDel, spGet, hk ▸ this, hk, ih]
    · by_cases hb : k = b <;> simp [spDel, spGet, hk, hb, ih]
      simp [← hb, hk, spGet]

theorem spGet_spIns_same {α : Type} (d : α) (m : Sp α) (a : Nat) (v : α) (h : spDel m a = m) : spGet d (spIns m a v) a = v := by
  induction m with
  | nil => simp [spIns, spGet]
  | cons e m ih =>
    obtain ⟨k, w⟩ := e
    have hk : k ≠ a := by
      intro hk
      have hl : ∀ l : Sp α, (spDel l a).length ≤ l.length := by
        intro l
        induction l with
        | nil => simp [spDel]
        | cons e l il => obtain ⟨j, u⟩ := e; by_cases hj : j = a <;> simp [spDel, hj] <;> omega
      have := congrArg List.length h
      have := hl m
      simp [spDel, hk] at *
      omega
    have hm : spDel m a = m := by simpa [spDel, hk] using h
    by_cases ha : a < k <;> simp [spIns, spGet, ha, hk, ih hm]

theorem spGet_spIns_ne {α : Type} (d : α) (m : Sp α) {a b : Nat} (v : α) (h : b ≠ a) :
    spGet d (spIns m a v) b = spGet d m b := by
  induction m with
  | nil => simp [spIns, spGet, h.symm]
  | cons e m ih =>
    obtain ⟨k, w⟩ := e
    by_cases ha : a < k
    · simp [spIns, spGet, ha, h.symm]
    · by_cases hb : k = b <;> simp [spIns, spGet, ha, hb, ih]
      · simp [← hb, ha, spGet]

theorem spDel_spDel {α : Type} (m : Sp α) (a : Nat) : spDel (spDel m a) a = spDel m a := by
  induction m with
  | nil => rfl
  | cons e m ih => obtain ⟨k, v⟩ := e; by_cases h : k = a <;> simp [spDel, h, ih]

/-- A read after a write to the same key gives the value written. -/
@[simp] theorem spGet_spSet_same {α : Type} [DecidableEq α] (d : α) (m : Sp α) (a : Nat) (v : α) :
    spGet d (spSet d m a v) a = v := by
  by_cases h : v = d
  · simp [spSet, h, spGet_spDel_same]
  · simp [spSet, h, spGet_spIns_same d (spDel m a) a v (spDel_spDel m a)]

/-- A write leaves every other key alone. -/
theorem spGet_spSet_ne {α : Type} [DecidableEq α] (d e : α) (m : Sp α) {a b : Nat} (v : α) (h : b ≠ a) :
    spGet d (spSet e m a v) b = spGet d m b := by
  by_cases hv : v = e
  · simp [spSet, hv, spGet_spDel_ne d m h]
  · simp [spSet, hv, spGet_spIns_ne d _ v h, spGet_spDel_ne d m h]

theorem spSorted_mono {α : Type} (m : Sp α) {lo hi : Nat} (h : lo ≤ hi) (hs : spSorted hi m = true) : spSorted lo m = true := by
  cases m with
  | nil => rfl
  | cons e m => obtain ⟨k, v⟩ := e; simp [spSorted] at hs ⊢; exact ⟨by omega, hs.2⟩

theorem spSorted_spDel {α : Type} (m : Sp α) (a lo : Nat) (hs : spSorted lo m = true) : spSorted lo (spDel m a) = true := by
  induction m generalizing lo with
  | nil => rfl
  | cons e m ih =>
    obtain ⟨k, v⟩ := e
    simp [spSorted] at hs
    by_cases h : k = a
    · simpa [spDel, h] using spSorted_mono _ (by omega : lo ≤ k + 1) (ih _ hs.2)
    · simp [spDel, h, spSorted, hs.1, ih _ hs.2]

theorem spDel_absent {α : Type} (m : Sp α) (a lo : Nat) (h : a < lo) (hs : spSorted lo m = true) : spDel m a = m := by
  induction m generalizing lo with
  | nil => rfl
  | cons e m ih =>
    obtain ⟨k, v⟩ := e
    simp [spSorted] at hs
    have : k ≠ a := by omega
    simp [spDel, this, ih (k + 1) (by omega) hs.2]

theorem spSorted_spIns {α : Type} (m : Sp α) (a lo : Nat) (v : α) (hl : lo ≤ a) (hs : spSorted lo m = true) (hd : spDel m a = m) :
    spSorted lo (spIns m a v) = true := by
  induction m generalizing lo with
  | nil => simp [spIns, spSorted, hl]
  | cons e m ih =>
    obtain ⟨k, w⟩ := e
    simp [spSorted] at hs
    have hk : k ≠ a := by
      intro hk
      have h1 := spGet_spDel_same (α := Option α) none (((k, w) :: m).map (fun e => (e.1, some e.2))) a
      have h2 : ∀ l : Sp α, spDel (l.map (fun e => (e.1, some e.2))) a = (spDel l a).map (fun e => (e.1, some e.2)) := by
        intro l
        induction l with
        | nil => rfl
        | cons e l il => obtain ⟨j, u⟩ := e; by_cases hj : j = a <;> simp [spDel, hj, il]
      rw [h2, hd] at h1
      simp [spGet, hk] at h1
    have hm : spDel m a = m := by simpa [spDel, hk] using hd
    by_cases ha : a < k
    · simp [spIns, spSorted, ha, hl, hs.2]
    · simp [spIns, spSorted, ha, hs.1, ih (k + 1) (by omega) hs.2 hm]

theorem spAll_spDel {α : Type} (p : Nat × α → Bool) (m : Sp α) (a : Nat) (h : m.all p = true) : (spDel m a).all p = true := by
  induction m with
  | nil => rfl
  | cons e m ih =>
    obtain ⟨k, v⟩ := e
    simp only [List.all_cons, Bool.and_eq_true] at h
    by_cases hk : k = a
    · simpa [spDel, hk] using ih h.2
    · simp only [spDel, hk, if_false, List.all_cons, Bool.and_eq_true]; exact ⟨h.1, ih h.2⟩

theorem spAll_spIns {α : Type} (p : Nat × α → Bool) (m : Sp α) (a : Nat) (v : α) (h : m.all p = true) (hv : p (a, v) = true) :
    (spIns m a v).all p = true := by
  induction m with
  | nil => simp [spIns, hv]
  | cons e m ih =>
    obtain ⟨k, w⟩ := e
    simp only [List.all_cons, Bool.and_eq_true] at h
    by_cases ha : a < k
    · simp only [spIns, ha, if_true, List.all_cons, Bool.and_eq_true]; exact ⟨hv, h.1, h.2⟩
    · simp only [spIns, ha, if_false, List.all_cons, Bool.and_eq_true]; exact ⟨h.1, ih h.2⟩

/-- A write keeps the canonical form. -/
theorem spWf_spSet {α : Type} [DecidableEq α] (d : Nat → α) (m : Sp α) (a : Nat) (v : α) (h : spWf d m = true) :
    spWf d (spSet (d a) m a v) = true := by
  simp only [spWf, Bool.and_eq_true] at h ⊢
  have hd := spSorted_spDel m a 0 h.1
  have ha := spAll_spDel _ m a h.2
  by_cases hv : v = d a
  · simp only [spSet, hv, if_true]; exact ⟨hd, ha⟩
  · simp only [spSet, hv, if_false]
    exact ⟨spSorted_spIns _ a 0 v (Nat.zero_le _) hd (spDel_spDel m a), spAll_spIns _ _ _ _ ha (by simpa using hv)⟩

/-- Keeping some keys keeps the canonical form. -/
theorem spWf_spKeep {α : Type} [DecidableEq α] (d : Nat → α) (p : Nat → Bool) (m : Sp α) (h : spWf d m = true) :
    spWf d (spKeep p m) = true := by
  have hs : ∀ (m : Sp α) (lo : Nat), spSorted lo m = true → spSorted lo (spKeep p m) = true := by
    intro m
    induction m with
    | nil => intro lo _; rfl
    | cons e m ih =>
      obtain ⟨k, v⟩ := e
      intro lo hs
      simp [spSorted] at hs
      by_cases hp : p k = true
      · simp [spKeep, hp, spSorted, hs.1, ih _ hs.2]
      · simpa [spKeep, hp] using spSorted_mono _ (by omega : lo ≤ k + 1) (ih _ hs.2)
  have ha : ∀ (q : Nat × α → Bool) (m : Sp α), m.all q = true → (spKeep p m).all q = true := by
    intro q m
    induction m with
    | nil => intro _; rfl
    | cons e m ih =>
      obtain ⟨k, v⟩ := e
      intro h
      simp only [List.all_cons, Bool.and_eq_true] at h
      by_cases hp : p k = true
      · simp only [spKeep, hp, if_true, List.all_cons, Bool.and_eq_true]; exact ⟨h.1, ih h.2⟩
      · simpa [spKeep, hp] using ih h.2
  simp only [spWf, Bool.and_eq_true] at h ⊢
  exact ⟨hs m 0 h.1, ha _ m h.2⟩

/-- What is read after some keys were kept. -/
theorem spGet_spKeep {α : Type} (d : α) (p : Nat → Bool) (m : Sp α) (a : Nat) :
    spGet d (spKeep p m) a = if p a then spGet d m a else d := by
  induction m with
  | nil => simp [spKeep, spGet]
  | cons e m ih =>
    obtain ⟨k, v⟩ := e
    by_cases hp : p k = true <;> by_cases hk : k = a
    · simp [spKeep, spGet, hk, hk ▸ hp]
    · simp [spKeep, spGet, hp, hk, ih]
    · simp [spKeep, hp, hk ▸ hp, ih]
    · simp [spKeep, spGet, hp, hk, ih]

end Sys2Proof.Machine
end

