-- ==== Sys2Proof/Laws/State.lean ====
section
/-! SUPPORT. Laws of the state: one lemma per field per primitive update, and what a register and its fields read after a
write. -/

namespace Sys2Proof.Machine

theorem Mach.rg_eq (m : Mach) (a : Nat) : m.rg a = spGet (regReset a) m.regs a := rfl
theorem Mach.fg_eq (m : Mach) (a : Nat) (f : Fd) : m.fg a f = getF (m.rg a) f := rfl
theorem Mach.wr_eq (m : Mach) (a : Nat) (v : Word) : m.wr a v = { m with regs := spSet (regReset a) m.regs a v } := rfl
theorem Mach.fs_eq (m : Mach) (a : Nat) (f : Fd) (v : Nat) : m.fs a f v = m.wr a (setF (m.rg a) f v) := rfl
theorem Mach.inc_eq (m : Mach) (a : Nat) (f : Fd) (k : Nat) : m.inc a f k = m.fs a f (m.fg a f + k) := rfl
theorem Mach.sat_eq (m : Mach) (a : Nat) (f : Fd) (k : Nat) : m.sat a f k = m.fs a f (min (m.fg a f + k) (2 ^ f.n - 1)) := rfl
theorem Mach.emit_eq (m : Mach) (k : OutKind) (l : List Nat) (b : List Byte) : m.emit k l b = { m with out := m.out ++ [⟨k, l, b⟩] } := rfl
theorem Mach.ev_eq (m : Mach) (a : Nat) (f : Fd) :
    m.ev a f = { (m.fs a seqFd (m.fg a seqFd + 1)).fs a f 1 with
      evCnt := spSet 0 ((m.fs a seqFd (m.fg a seqFd + 1)).fs a f 1).evCnt a (spGet 0 m.evCnt a + 1),
      evAt := spSet 0 ((m.fs a seqFd (m.fg a seqFd + 1)).fs a f 1).evAt (a * 32 + f.lo) (spGet 0 m.evCnt a + 1) } := rfl

@[simp] theorem Mach.wr_evCnt (m : Mach) (a : Nat) (v : Word) : (m.wr a v).evCnt = m.evCnt := by rw [Mach.wr_eq]
@[simp] theorem Mach.wr_evAt (m : Mach) (a : Nat) (v : Word) : (m.wr a v).evAt = m.evAt := by rw [Mach.wr_eq]
@[simp] theorem Mach.wr_pair (m : Mach) (a : Nat) (v : Word) : (m.wr a v).pair = m.pair := by rw [Mach.wr_eq]
@[simp] theorem Mach.wr_ctime (m : Mach) (a : Nat) (v : Word) : (m.wr a v).ctime = m.ctime := by rw [Mach.wr_eq]
@[simp] theorem Mach.wr_running (m : Mach) (a : Nat) (v : Word) : (m.wr a v).running = m.running := by rw [Mach.wr_eq]
@[simp] theorem Mach.wr_free (m : Mach) (a : Nat) (v : Word) : (m.wr a v).free = m.free := by rw [Mach.wr_eq]
@[simp] theorem Mach.wr_out (m : Mach) (a : Nat) (v : Word) : (m.wr a v).out = m.out := by rw [Mach.wr_eq]
@[simp] theorem Mach.wr_evLost (m : Mach) (a : Nat) (v : Word) : (m.wr a v).evLost = m.evLost := by rw [Mach.wr_eq]
@[simp] theorem Mach.wr_tlySeen (m : Mach) (a : Nat) (v : Word) : (m.wr a v).tlySeen = m.tlySeen := by rw [Mach.wr_eq]
@[simp] theorem Mach.wr_dl (m : Mach) (a : Nat) (v : Word) : (m.wr a v).dl = m.dl := by rw [Mach.wr_eq]
@[simp] theorem Mach.wr_shf (m : Mach) (a : Nat) (v : Word) : (m.wr a v).shf = m.shf := by rw [Mach.wr_eq]
@[simp] theorem Mach.wr_ren (m : Mach) (a : Nat) (v : Word) : (m.wr a v).ren = m.ren := by rw [Mach.wr_eq]
@[simp] theorem Mach.wr_prt (m : Mach) (a : Nat) (v : Word) : (m.wr a v).prt = m.prt := by rw [Mach.wr_eq]
@[simp] theorem Mach.wr_xbr (m : Mach) (a : Nat) (v : Word) : (m.wr a v).xbr = m.xbr := by rw [Mach.wr_eq]
@[simp] theorem Mach.wr_que (m : Mach) (a : Nat) (v : Word) : (m.wr a v).que = m.que := by rw [Mach.wr_eq]
@[simp] theorem Mach.wr_tap (m : Mach) (a : Nat) (v : Word) : (m.wr a v).tap = m.tap := by rw [Mach.wr_eq]
@[simp] theorem Mach.wr_pdi (m : Mach) (a : Nat) (v : Word) : (m.wr a v).pdi = m.pdi := by rw [Mach.wr_eq]
@[simp] theorem Mach.wr_flt (m : Mach) (a : Nat) (v : Word) : (m.wr a v).flt = m.flt := by rw [Mach.wr_eq]
@[simp] theorem Mach.wr_cmd (m : Mach) (a : Nat) (v : Word) : (m.wr a v).cmd = m.cmd := by rw [Mach.wr_eq]
@[simp] theorem Mach.wr_hub (m : Mach) (a : Nat) (v : Word) : (m.wr a v).hub = m.hub := by rw [Mach.wr_eq]
@[simp] theorem Mach.wr_cmf (m : Mach) (a : Nat) (v : Word) : (m.wr a v).cmf = m.cmf := by rw [Mach.wr_eq]
@[simp] theorem Mach.wr_dmc (m : Mach) (a : Nat) (v : Word) : (m.wr a v).dmc = m.dmc := by rw [Mach.wr_eq]
@[simp] theorem Mach.wr_dpy (m : Mach) (a : Nat) (v : Word) : (m.wr a v).dpy = m.dpy := by rw [Mach.wr_eq]
@[simp] theorem Mach.wr_chn (m : Mach) (a : Nat) (v : Word) : (m.wr a v).chn = m.chn := by rw [Mach.wr_eq]
@[simp] theorem Mach.wr_pwr (m : Mach) (a : Nat) (v : Word) : (m.wr a v).pwr = m.pwr := by rw [Mach.wr_eq]
@[simp] theorem Mach.wr_boot (m : Mach) (a : Nat) (v : Word) : (m.wr a v).boot = m.boot := by rw [Mach.wr_eq]

@[simp] theorem Mach.fs_evCnt (m : Mach) (a : Nat) (f : Fd) (v : Nat) : (m.fs a f v).evCnt = m.evCnt := by rw [Mach.fs_eq, Mach.wr_evCnt]
@[simp] theorem Mach.fs_evAt (m : Mach) (a : Nat) (f : Fd) (v : Nat) : (m.fs a f v).evAt = m.evAt := by rw [Mach.fs_eq, Mach.wr_evAt]
@[simp] theorem Mach.fs_pair (m : Mach) (a : Nat) (f : Fd) (v : Nat) : (m.fs a f v).pair = m.pair := by rw [Mach.fs_eq, Mach.wr_pair]
@[simp] theorem Mach.fs_ctime (m : Mach) (a : Nat) (f : Fd) (v : Nat) : (m.fs a f v).ctime = m.ctime := by rw [Mach.fs_eq, Mach.wr_ctime]
@[simp] theorem Mach.fs_running (m : Mach) (a : Nat) (f : Fd) (v : Nat) : (m.fs a f v).running = m.running := by rw [Mach.fs_eq, Mach.wr_running]
@[simp] theorem Mach.fs_free (m : Mach) (a : Nat) (f : Fd) (v : Nat) : (m.fs a f v).free = m.free := by rw [Mach.fs_eq, Mach.wr_free]
@[simp] theorem Mach.fs_out (m : Mach) (a : Nat) (f : Fd) (v : Nat) : (m.fs a f v).out = m.out := by rw [Mach.fs_eq, Mach.wr_out]
@[simp] theorem Mach.fs_evLost (m : Mach) (a : Nat) (f : Fd) (v : Nat) : (m.fs a f v).evLost = m.evLost := by rw [Mach.fs_eq, Mach.wr_evLost]
@[simp] theorem Mach.fs_tlySeen (m : Mach) (a : Nat) (f : Fd) (v : Nat) : (m.fs a f v).tlySeen = m.tlySeen := by rw [Mach.fs_eq, Mach.wr_tlySeen]
@[simp] theorem Mach.fs_dl (m : Mach) (a : Nat) (f : Fd) (v : Nat) : (m.fs a f v).dl = m.dl := by rw [Mach.fs_eq, Mach.wr_dl]
@[simp] theorem Mach.fs_shf (m : Mach) (a : Nat) (f : Fd) (v : Nat) : (m.fs a f v).shf = m.shf := by rw [Mach.fs_eq, Mach.wr_shf]
@[simp] theorem Mach.fs_ren (m : Mach) (a : Nat) (f : Fd) (v : Nat) : (m.fs a f v).ren = m.ren := by rw [Mach.fs_eq, Mach.wr_ren]
@[simp] theorem Mach.fs_prt (m : Mach) (a : Nat) (f : Fd) (v : Nat) : (m.fs a f v).prt = m.prt := by rw [Mach.fs_eq, Mach.wr_prt]
@[simp] theorem Mach.fs_xbr (m : Mach) (a : Nat) (f : Fd) (v : Nat) : (m.fs a f v).xbr = m.xbr := by rw [Mach.fs_eq, Mach.wr_xbr]
@[simp] theorem Mach.fs_que (m : Mach) (a : Nat) (f : Fd) (v : Nat) : (m.fs a f v).que = m.que := by rw [Mach.fs_eq, Mach.wr_que]
@[simp] theorem Mach.fs_tap (m : Mach) (a : Nat) (f : Fd) (v : Nat) : (m.fs a f v).tap = m.tap := by rw [Mach.fs_eq, Mach.wr_tap]
@[simp] theorem Mach.fs_pdi (m : Mach) (a : Nat) (f : Fd) (v : Nat) : (m.fs a f v).pdi = m.pdi := by rw [Mach.fs_eq, Mach.wr_pdi]
@[simp] theorem Mach.fs_flt (m : Mach) (a : Nat) (f : Fd) (v : Nat) : (m.fs a f v).flt = m.flt := by rw [Mach.fs_eq, Mach.wr_flt]
@[simp] theorem Mach.fs_cmd (m : Mach) (a : Nat) (f : Fd) (v : Nat) : (m.fs a f v).cmd = m.cmd := by rw [Mach.fs_eq, Mach.wr_cmd]
@[simp] theorem Mach.fs_hub (m : Mach) (a : Nat) (f : Fd) (v : Nat) : (m.fs a f v).hub = m.hub := by rw [Mach.fs_eq, Mach.wr_hub]
@[simp] theorem Mach.fs_cmf (m : Mach) (a : Nat) (f : Fd) (v : Nat) : (m.fs a f v).cmf = m.cmf := by rw [Mach.fs_eq, Mach.wr_cmf]
@[simp] theorem Mach.fs_dmc (m : Mach) (a : Nat) (f : Fd) (v : Nat) : (m.fs a f v).dmc = m.dmc := by rw [Mach.fs_eq, Mach.wr_dmc]
@[simp] theorem Mach.fs_dpy (m : Mach) (a : Nat) (f : Fd) (v : Nat) : (m.fs a f v).dpy = m.dpy := by rw [Mach.fs_eq, Mach.wr_dpy]
@[simp] theorem Mach.fs_chn (m : Mach) (a : Nat) (f : Fd) (v : Nat) : (m.fs a f v).chn = m.chn := by rw [Mach.fs_eq, Mach.wr_chn]
@[simp] theorem Mach.fs_pwr (m : Mach) (a : Nat) (f : Fd) (v : Nat) : (m.fs a f v).pwr = m.pwr := by rw [Mach.fs_eq, Mach.wr_pwr]
@[simp] theorem Mach.fs_boot (m : Mach) (a : Nat) (f : Fd) (v : Nat) : (m.fs a f v).boot = m.boot := by rw [Mach.fs_eq, Mach.wr_boot]

@[simp] theorem Mach.inc_evCnt (m : Mach) (a : Nat) (f : Fd) (k : Nat) : (m.inc a f k).evCnt = m.evCnt := by rw [Mach.inc_eq, Mach.fs_evCnt]
@[simp] theorem Mach.inc_evAt (m : Mach) (a : Nat) (f : Fd) (k : Nat) : (m.inc a f k).evAt = m.evAt := by rw [Mach.inc_eq, Mach.fs_evAt]
@[simp] theorem Mach.inc_pair (m : Mach) (a : Nat) (f : Fd) (k : Nat) : (m.inc a f k).pair = m.pair := by rw [Mach.inc_eq, Mach.fs_pair]
@[simp] theorem Mach.inc_ctime (m : Mach) (a : Nat) (f : Fd) (k : Nat) : (m.inc a f k).ctime = m.ctime := by rw [Mach.inc_eq, Mach.fs_ctime]
@[simp] theorem Mach.inc_running (m : Mach) (a : Nat) (f : Fd) (k : Nat) : (m.inc a f k).running = m.running := by rw [Mach.inc_eq, Mach.fs_running]
@[simp] theorem Mach.inc_free (m : Mach) (a : Nat) (f : Fd) (k : Nat) : (m.inc a f k).free = m.free := by rw [Mach.inc_eq, Mach.fs_free]
@[simp] theorem Mach.inc_out (m : Mach) (a : Nat) (f : Fd) (k : Nat) : (m.inc a f k).out = m.out := by rw [Mach.inc_eq, Mach.fs_out]
@[simp] theorem Mach.inc_evLost (m : Mach) (a : Nat) (f : Fd) (k : Nat) : (m.inc a f k).evLost = m.evLost := by rw [Mach.inc_eq, Mach.fs_evLost]
@[simp] theorem Mach.inc_tlySeen (m : Mach) (a : Nat) (f : Fd) (k : Nat) : (m.inc a f k).tlySeen = m.tlySeen := by rw [Mach.inc_eq, Mach.fs_tlySeen]
@[simp] theorem Mach.inc_dl (m : Mach) (a : Nat) (f : Fd) (k : Nat) : (m.inc a f k).dl = m.dl := by rw [Mach.inc_eq, Mach.fs_dl]
@[simp] theorem Mach.inc_shf (m : Mach) (a : Nat) (f : Fd) (k : Nat) : (m.inc a f k).shf = m.shf := by rw [Mach.inc_eq, Mach.fs_shf]
@[simp] theorem Mach.inc_ren (m : Mach) (a : Nat) (f : Fd) (k : Nat) : (m.inc a f k).ren = m.ren := by rw [Mach.inc_eq, Mach.fs_ren]
@[simp] theorem Mach.inc_prt (m : Mach) (a : Nat) (f : Fd) (k : Nat) : (m.inc a f k).prt = m.prt := by rw [Mach.inc_eq, Mach.fs_prt]
@[simp] theorem Mach.inc_xbr (m : Mach) (a : Nat) (f : Fd) (k : Nat) : (m.inc a f k).xbr = m.xbr := by rw [Mach.inc_eq, Mach.fs_xbr]
@[simp] theorem Mach.inc_que (m : Mach) (a : Nat) (f : Fd) (k : Nat) : (m.inc a f k).que = m.que := by rw [Mach.inc_eq, Mach.fs_que]
@[simp] theorem Mach.inc_tap (m : Mach) (a : Nat) (f : Fd) (k : Nat) : (m.inc a f k).tap = m.tap := by rw [Mach.inc_eq, Mach.fs_tap]
@[simp] theorem Mach.inc_pdi (m : Mach) (a : Nat) (f : Fd) (k : Nat) : (m.inc a f k).pdi = m.pdi := by rw [Mach.inc_eq, Mach.fs_pdi]
@[simp] theorem Mach.inc_flt (m : Mach) (a : Nat) (f : Fd) (k : Nat) : (m.inc a f k).flt = m.flt := by rw [Mach.inc_eq, Mach.fs_flt]
@[simp] theorem Mach.inc_cmd (m : Mach) (a : Nat) (f : Fd) (k : Nat) : (m.inc a f k).cmd = m.cmd := by rw [Mach.inc_eq, Mach.fs_cmd]
@[simp] theorem Mach.inc_hub (m : Mach) (a : Nat) (f : Fd) (k : Nat) : (m.inc a f k).hub = m.hub := by rw [Mach.inc_eq, Mach.fs_hub]
@[simp] theorem Mach.inc_cmf (m : Mach) (a : Nat) (f : Fd) (k : Nat) : (m.inc a f k).cmf = m.cmf := by rw [Mach.inc_eq, Mach.fs_cmf]
@[simp] theorem Mach.inc_dmc (m : Mach) (a : Nat) (f : Fd) (k : Nat) : (m.inc a f k).dmc = m.dmc := by rw [Mach.inc_eq, Mach.fs_dmc]
@[simp] theorem Mach.inc_dpy (m : Mach) (a : Nat) (f : Fd) (k : Nat) : (m.inc a f k).dpy = m.dpy := by rw [Mach.inc_eq, Mach.fs_dpy]
@[simp] theorem Mach.inc_chn (m : Mach) (a : Nat) (f : Fd) (k : Nat) : (m.inc a f k).chn = m.chn := by rw [Mach.inc_eq, Mach.fs_chn]
@[simp] theorem Mach.inc_pwr (m : Mach) (a : Nat) (f : Fd) (k : Nat) : (m.inc a f k).pwr = m.pwr := by rw [Mach.inc_eq, Mach.fs_pwr]
@[simp] theorem Mach.inc_boot (m : Mach) (a : Nat) (f : Fd) (k : Nat) : (m.inc a f k).boot = m.boot := by rw [Mach.inc_eq, Mach.fs_boot]

@[simp] theorem Mach.sat_evCnt (m : Mach) (a : Nat) (f : Fd) (k : Nat) : (m.sat a f k).evCnt = m.evCnt := by rw [Mach.sat_eq, Mach.fs_evCnt]
@[simp] theorem Mach.sat_evAt (m : Mach) (a : Nat) (f : Fd) (k : Nat) : (m.sat a f k).evAt = m.evAt := by rw [Mach.sat_eq, Mach.fs_evAt]
@[simp] theorem Mach.sat_pair (m : Mach) (a : Nat) (f : Fd) (k : Nat) : (m.sat a f k).pair = m.pair := by rw [Mach.sat_eq, Mach.fs_pair]
@[simp] theorem Mach.sat_ctime (m : Mach) (a : Nat) (f : Fd) (k : Nat) : (m.sat a f k).ctime = m.ctime := by rw [Mach.sat_eq, Mach.fs_ctime]
@[simp] theorem Mach.sat_running (m : Mach) (a : Nat) (f : Fd) (k : Nat) : (m.sat a f k).running = m.running := by rw [Mach.sat_eq, Mach.fs_running]
@[simp] theorem Mach.sat_free (m : Mach) (a : Nat) (f : Fd) (k : Nat) : (m.sat a f k).free = m.free := by rw [Mach.sat_eq, Mach.fs_free]
@[simp] theorem Mach.sat_out (m : Mach) (a : Nat) (f : Fd) (k : Nat) : (m.sat a f k).out = m.out := by rw [Mach.sat_eq, Mach.fs_out]
@[simp] theorem Mach.sat_evLost (m : Mach) (a : Nat) (f : Fd) (k : Nat) : (m.sat a f k).evLost = m.evLost := by rw [Mach.sat_eq, Mach.fs_evLost]
@[simp] theorem Mach.sat_tlySeen (m : Mach) (a : Nat) (f : Fd) (k : Nat) : (m.sat a f k).tlySeen = m.tlySeen := by rw [Mach.sat_eq, Mach.fs_tlySeen]
@[simp] theorem Mach.sat_dl (m : Mach) (a : Nat) (f : Fd) (k : Nat) : (m.sat a f k).dl = m.dl := by rw [Mach.sat_eq, Mach.fs_dl]
@[simp] theorem Mach.sat_shf (m : Mach) (a : Nat) (f : Fd) (k : Nat) : (m.sat a f k).shf = m.shf := by rw [Mach.sat_eq, Mach.fs_shf]
@[simp] theorem Mach.sat_ren (m : Mach) (a : Nat) (f : Fd) (k : Nat) : (m.sat a f k).ren = m.ren := by rw [Mach.sat_eq, Mach.fs_ren]
@[simp] theorem Mach.sat_prt (m : Mach) (a : Nat) (f : Fd) (k : Nat) : (m.sat a f k).prt = m.prt := by rw [Mach.sat_eq, Mach.fs_prt]
@[simp] theorem Mach.sat_xbr (m : Mach) (a : Nat) (f : Fd) (k : Nat) : (m.sat a f k).xbr = m.xbr := by rw [Mach.sat_eq, Mach.fs_xbr]
@[simp] theorem Mach.sat_que (m : Mach) (a : Nat) (f : Fd) (k : Nat) : (m.sat a f k).que = m.que := by rw [Mach.sat_eq, Mach.fs_que]
@[simp] theorem Mach.sat_tap (m : Mach) (a : Nat) (f : Fd) (k : Nat) : (m.sat a f k).tap = m.tap := by rw [Mach.sat_eq, Mach.fs_tap]
@[simp] theorem Mach.sat_pdi (m : Mach) (a : Nat) (f : Fd) (k : Nat) : (m.sat a f k).pdi = m.pdi := by rw [Mach.sat_eq, Mach.fs_pdi]
@[simp] theorem Mach.sat_flt (m : Mach) (a : Nat) (f : Fd) (k : Nat) : (m.sat a f k).flt = m.flt := by rw [Mach.sat_eq, Mach.fs_flt]
@[simp] theorem Mach.sat_cmd (m : Mach) (a : Nat) (f : Fd) (k : Nat) : (m.sat a f k).cmd = m.cmd := by rw [Mach.sat_eq, Mach.fs_cmd]
@[simp] theorem Mach.sat_hub (m : Mach) (a : Nat) (f : Fd) (k : Nat) : (m.sat a f k).hub = m.hub := by rw [Mach.sat_eq, Mach.fs_hub]
@[simp] theorem Mach.sat_cmf (m : Mach) (a : Nat) (f : Fd) (k : Nat) : (m.sat a f k).cmf = m.cmf := by rw [Mach.sat_eq, Mach.fs_cmf]
@[simp] theorem Mach.sat_dmc (m : Mach) (a : Nat) (f : Fd) (k : Nat) : (m.sat a f k).dmc = m.dmc := by rw [Mach.sat_eq, Mach.fs_dmc]
@[simp] theorem Mach.sat_dpy (m : Mach) (a : Nat) (f : Fd) (k : Nat) : (m.sat a f k).dpy = m.dpy := by rw [Mach.sat_eq, Mach.fs_dpy]
@[simp] theorem Mach.sat_chn (m : Mach) (a : Nat) (f : Fd) (k : Nat) : (m.sat a f k).chn = m.chn := by rw [Mach.sat_eq, Mach.fs_chn]
@[simp] theorem Mach.sat_pwr (m : Mach) (a : Nat) (f : Fd) (k : Nat) : (m.sat a f k).pwr = m.pwr := by rw [Mach.sat_eq, Mach.fs_pwr]
@[simp] theorem Mach.sat_boot (m : Mach) (a : Nat) (f : Fd) (k : Nat) : (m.sat a f k).boot = m.boot := by rw [Mach.sat_eq, Mach.fs_boot]

@[simp] theorem Mach.ev_pair (m : Mach) (a : Nat) (f : Fd) : (m.ev a f).pair = m.pair := by rw [Mach.ev_eq]; dsimp only; rw [Mach.fs_pair, Mach.fs_pair]
@[simp] theorem Mach.ev_ctime (m : Mach) (a : Nat) (f : Fd) : (m.ev a f).ctime = m.ctime := by rw [Mach.ev_eq]; dsimp only; rw [Mach.fs_ctime, Mach.fs_ctime]
@[simp] theorem Mach.ev_running (m : Mach) (a : Nat) (f : Fd) : (m.ev a f).running = m.running := by rw [Mach.ev_eq]; dsimp only; rw [Mach.fs_running, Mach.fs_running]
@[simp] theorem Mach.ev_free (m : Mach) (a : Nat) (f : Fd) : (m.ev a f).free = m.free := by rw [Mach.ev_eq]; dsimp only; rw [Mach.fs_free, Mach.fs_free]
@[simp] theorem Mach.ev_out (m : Mach) (a : Nat) (f : Fd) : (m.ev a f).out = m.out := by rw [Mach.ev_eq]; dsimp only; rw [Mach.fs_out, Mach.fs_out]
@[simp] theorem Mach.ev_evLost (m : Mach) (a : Nat) (f : Fd) : (m.ev a f).evLost = m.evLost := by rw [Mach.ev_eq]; dsimp only; rw [Mach.fs_evLost, Mach.fs_evLost]
@[simp] theorem Mach.ev_tlySeen (m : Mach) (a : Nat) (f : Fd) : (m.ev a f).tlySeen = m.tlySeen := by rw [Mach.ev_eq]; dsimp only; rw [Mach.fs_tlySeen, Mach.fs_tlySeen]
@[simp] theorem Mach.ev_dl (m : Mach) (a : Nat) (f : Fd) : (m.ev a f).dl = m.dl := by rw [Mach.ev_eq]; dsimp only; rw [Mach.fs_dl, Mach.fs_dl]
@[simp] theorem Mach.ev_shf (m : Mach) (a : Nat) (f : Fd) : (m.ev a f).shf = m.shf := by rw [Mach.ev_eq]; dsimp only; rw [Mach.fs_shf, Mach.fs_shf]
@[simp] theorem Mach.ev_ren (m : Mach) (a : Nat) (f : Fd) : (m.ev a f).ren = m.ren := by rw [Mach.ev_eq]; dsimp only; rw [Mach.fs_ren, Mach.fs_ren]
@[simp] theorem Mach.ev_prt (m : Mach) (a : Nat) (f : Fd) : (m.ev a f).prt = m.prt := by rw [Mach.ev_eq]; dsimp only; rw [Mach.fs_prt, Mach.fs_prt]
@[simp] theorem Mach.ev_xbr (m : Mach) (a : Nat) (f : Fd) : (m.ev a f).xbr = m.xbr := by rw [Mach.ev_eq]; dsimp only; rw [Mach.fs_xbr, Mach.fs_xbr]
@[simp] theorem Mach.ev_que (m : Mach) (a : Nat) (f : Fd) : (m.ev a f).que = m.que := by rw [Mach.ev_eq]; dsimp only; rw [Mach.fs_que, Mach.fs_que]
@[simp] theorem Mach.ev_tap (m : Mach) (a : Nat) (f : Fd) : (m.ev a f).tap = m.tap := by rw [Mach.ev_eq]; dsimp only; rw [Mach.fs_tap, Mach.fs_tap]
@[simp] theorem Mach.ev_pdi (m : Mach) (a : Nat) (f : Fd) : (m.ev a f).pdi = m.pdi := by rw [Mach.ev_eq]; dsimp only; rw [Mach.fs_pdi, Mach.fs_pdi]
@[simp] theorem Mach.ev_flt (m : Mach) (a : Nat) (f : Fd) : (m.ev a f).flt = m.flt := by rw [Mach.ev_eq]; dsimp only; rw [Mach.fs_flt, Mach.fs_flt]
@[simp] theorem Mach.ev_cmd (m : Mach) (a : Nat) (f : Fd) : (m.ev a f).cmd = m.cmd := by rw [Mach.ev_eq]; dsimp only; rw [Mach.fs_cmd, Mach.fs_cmd]
@[simp] theorem Mach.ev_hub (m : Mach) (a : Nat) (f : Fd) : (m.ev a f).hub = m.hub := by rw [Mach.ev_eq]; dsimp only; rw [Mach.fs_hub, Mach.fs_hub]
@[simp] theorem Mach.ev_cmf (m : Mach) (a : Nat) (f : Fd) : (m.ev a f).cmf = m.cmf := by rw [Mach.ev_eq]; dsimp only; rw [Mach.fs_cmf, Mach.fs_cmf]
@[simp] theorem Mach.ev_dmc (m : Mach) (a : Nat) (f : Fd) : (m.ev a f).dmc = m.dmc := by rw [Mach.ev_eq]; dsimp only; rw [Mach.fs_dmc, Mach.fs_dmc]
@[simp] theorem Mach.ev_dpy (m : Mach) (a : Nat) (f : Fd) : (m.ev a f).dpy = m.dpy := by rw [Mach.ev_eq]; dsimp only; rw [Mach.fs_dpy, Mach.fs_dpy]
@[simp] theorem Mach.ev_chn (m : Mach) (a : Nat) (f : Fd) : (m.ev a f).chn = m.chn := by rw [Mach.ev_eq]; dsimp only; rw [Mach.fs_chn, Mach.fs_chn]
@[simp] theorem Mach.ev_pwr (m : Mach) (a : Nat) (f : Fd) : (m.ev a f).pwr = m.pwr := by rw [Mach.ev_eq]; dsimp only; rw [Mach.fs_pwr, Mach.fs_pwr]
@[simp] theorem Mach.ev_boot (m : Mach) (a : Nat) (f : Fd) : (m.ev a f).boot = m.boot := by rw [Mach.ev_eq]; dsimp only; rw [Mach.fs_boot, Mach.fs_boot]

@[simp] theorem Mach.emit_regs (m : Mach) (k : OutKind) (l : List Nat) (b : List Byte) : (m.emit k l b).regs = m.regs := by rw [Mach.emit_eq]
@[simp] theorem Mach.emit_evCnt (m : Mach) (k : OutKind) (l : List Nat) (b : List Byte) : (m.emit k l b).evCnt = m.evCnt := by rw [Mach.emit_eq]
@[simp] theorem Mach.emit_evAt (m : Mach) (k : OutKind) (l : List Nat) (b : List Byte) : (m.emit k l b).evAt = m.evAt := by rw [Mach.emit_eq]
@[simp] theorem Mach.emit_pair (m : Mach) (k : OutKind) (l : List Nat) (b : List Byte) : (m.emit k l b).pair = m.pair := by rw [Mach.emit_eq]
@[simp] theorem Mach.emit_ctime (m : Mach) (k : OutKind) (l : List Nat) (b : List Byte) : (m.emit k l b).ctime = m.ctime := by rw [Mach.emit_eq]
@[simp] theorem Mach.emit_running (m : Mach) (k : OutKind) (l : List Nat) (b : List Byte) : (m.emit k l b).running = m.running := by rw [Mach.emit_eq]
@[simp] theorem Mach.emit_free (m : Mach) (k : OutKind) (l : List Nat) (b : List Byte) : (m.emit k l b).free = m.free := by rw [Mach.emit_eq]
@[simp] theorem Mach.emit_evLost (m : Mach) (k : OutKind) (l : List Nat) (b : List Byte) : (m.emit k l b).evLost = m.evLost := by rw [Mach.emit_eq]
@[simp] theorem Mach.emit_tlySeen (m : Mach) (k : OutKind) (l : List Nat) (b : List Byte) : (m.emit k l b).tlySeen = m.tlySeen := by rw [Mach.emit_eq]
@[simp] theorem Mach.emit_dl (m : Mach) (k : OutKind) (l : List Nat) (b : List Byte) : (m.emit k l b).dl = m.dl := by rw [Mach.emit_eq]
@[simp] theorem Mach.emit_shf (m : Mach) (k : OutKind) (l : List Nat) (b : List Byte) : (m.emit k l b).shf = m.shf := by rw [Mach.emit_eq]
@[simp] theorem Mach.emit_ren (m : Mach) (k : OutKind) (l : List Nat) (b : List Byte) : (m.emit k l b).ren = m.ren := by rw [Mach.emit_eq]
@[simp] theorem Mach.emit_prt (m : Mach) (k : OutKind) (l : List Nat) (b : List Byte) : (m.emit k l b).prt = m.prt := by rw [Mach.emit_eq]
@[simp] theorem Mach.emit_xbr (m : Mach) (k : OutKind) (l : List Nat) (b : List Byte) : (m.emit k l b).xbr = m.xbr := by rw [Mach.emit_eq]
@[simp] theorem Mach.emit_que (m : Mach) (k : OutKind) (l : List Nat) (b : List Byte) : (m.emit k l b).que = m.que := by rw [Mach.emit_eq]
@[simp] theorem Mach.emit_tap (m : Mach) (k : OutKind) (l : List Nat) (b : List Byte) : (m.emit k l b).tap = m.tap := by rw [Mach.emit_eq]
@[simp] theorem Mach.emit_pdi (m : Mach) (k : OutKind) (l : List Nat) (b : List Byte) : (m.emit k l b).pdi = m.pdi := by rw [Mach.emit_eq]
@[simp] theorem Mach.emit_flt (m : Mach) (k : OutKind) (l : List Nat) (b : List Byte) : (m.emit k l b).flt = m.flt := by rw [Mach.emit_eq]
@[simp] theorem Mach.emit_cmd (m : Mach) (k : OutKind) (l : List Nat) (b : List Byte) : (m.emit k l b).cmd = m.cmd := by rw [Mach.emit_eq]
@[simp] theorem Mach.emit_hub (m : Mach) (k : OutKind) (l : List Nat) (b : List Byte) : (m.emit k l b).hub = m.hub := by rw [Mach.emit_eq]
@[simp] theorem Mach.emit_cmf (m : Mach) (k : OutKind) (l : List Nat) (b : List Byte) : (m.emit k l b).cmf = m.cmf := by rw [Mach.emit_eq]
@[simp] theorem Mach.emit_dmc (m : Mach) (k : OutKind) (l : List Nat) (b : List Byte) : (m.emit k l b).dmc = m.dmc := by rw [Mach.emit_eq]
@[simp] theorem Mach.emit_dpy (m : Mach) (k : OutKind) (l : List Nat) (b : List Byte) : (m.emit k l b).dpy = m.dpy := by rw [Mach.emit_eq]
@[simp] theorem Mach.emit_chn (m : Mach) (k : OutKind) (l : List Nat) (b : List Byte) : (m.emit k l b).chn = m.chn := by rw [Mach.emit_eq]
@[simp] theorem Mach.emit_pwr (m : Mach) (k : OutKind) (l : List Nat) (b : List Byte) : (m.emit k l b).pwr = m.pwr := by rw [Mach.emit_eq]
@[simp] theorem Mach.emit_boot (m : Mach) (k : OutKind) (l : List Nat) (b : List Byte) : (m.emit k l b).boot = m.boot := by rw [Mach.emit_eq]

@[simp] theorem Mach.at_regs (m : Mach) (t : Nat) : (m.at_ t).regs = m.regs := by unfold Mach.at_; split <;> rfl
@[simp] theorem Mach.at_evCnt (m : Mach) (t : Nat) : (m.at_ t).evCnt = m.evCnt := by unfold Mach.at_; split <;> rfl
@[simp] theorem Mach.at_evAt (m : Mach) (t : Nat) : (m.at_ t).evAt = m.evAt := by unfold Mach.at_; split <;> rfl
@[simp] theorem Mach.at_pair (m : Mach) (t : Nat) : (m.at_ t).pair = m.pair := by unfold Mach.at_; split <;> rfl
@[simp] theorem Mach.at_running (m : Mach) (t : Nat) : (m.at_ t).running = m.running := by unfold Mach.at_; split <;> rfl
@[simp] theorem Mach.at_free (m : Mach) (t : Nat) : (m.at_ t).free = m.free := by unfold Mach.at_; split <;> rfl
@[simp] theorem Mach.at_out (m : Mach) (t : Nat) : (m.at_ t).out = m.out := by unfold Mach.at_; split <;> rfl
@[simp] theorem Mach.at_evLost (m : Mach) (t : Nat) : (m.at_ t).evLost = m.evLost := by unfold Mach.at_; split <;> rfl
@[simp] theorem Mach.at_tlySeen (m : Mach) (t : Nat) : (m.at_ t).tlySeen = m.tlySeen := by unfold Mach.at_; split <;> rfl
@[simp] theorem Mach.at_dl (m : Mach) (t : Nat) : (m.at_ t).dl = m.dl := by unfold Mach.at_; split <;> rfl
@[simp] theorem Mach.at_shf (m : Mach) (t : Nat) : (m.at_ t).shf = m.shf := by unfold Mach.at_; split <;> rfl
@[simp] theorem Mach.at_ren (m : Mach) (t : Nat) : (m.at_ t).ren = m.ren := by unfold Mach.at_; split <;> rfl
@[simp] theorem Mach.at_prt (m : Mach) (t : Nat) : (m.at_ t).prt = m.prt := by unfold Mach.at_; split <;> rfl
@[simp] theorem Mach.at_xbr (m : Mach) (t : Nat) : (m.at_ t).xbr = m.xbr := by unfold Mach.at_; split <;> rfl
@[simp] theorem Mach.at_que (m : Mach) (t : Nat) : (m.at_ t).que = m.que := by unfold Mach.at_; split <;> rfl
@[simp] theorem Mach.at_tap (m : Mach) (t : Nat) : (m.at_ t).tap = m.tap := by unfold Mach.at_; split <;> rfl
@[simp] theorem Mach.at_pdi (m : Mach) (t : Nat) : (m.at_ t).pdi = m.pdi := by unfold Mach.at_; split <;> rfl
@[simp] theorem Mach.at_flt (m : Mach) (t : Nat) : (m.at_ t).flt = m.flt := by unfold Mach.at_; split <;> rfl
@[simp] theorem Mach.at_cmd (m : Mach) (t : Nat) : (m.at_ t).cmd = m.cmd := by unfold Mach.at_; split <;> rfl
@[simp] theorem Mach.at_hub (m : Mach) (t : Nat) : (m.at_ t).hub = m.hub := by unfold Mach.at_; split <;> rfl
@[simp] theorem Mach.at_cmf (m : Mach) (t : Nat) : (m.at_ t).cmf = m.cmf := by unfold Mach.at_; split <;> rfl
@[simp] theorem Mach.at_dmc (m : Mach) (t : Nat) : (m.at_ t).dmc = m.dmc := by unfold Mach.at_; split <;> rfl
@[simp] theorem Mach.at_dpy (m : Mach) (t : Nat) : (m.at_ t).dpy = m.dpy := by unfold Mach.at_; split <;> rfl
@[simp] theorem Mach.at_chn (m : Mach) (t : Nat) : (m.at_ t).chn = m.chn := by unfold Mach.at_; split <;> rfl
@[simp] theorem Mach.at_pwr (m : Mach) (t : Nat) : (m.at_ t).pwr = m.pwr := by unfold Mach.at_; split <;> rfl
@[simp] theorem Mach.at_boot (m : Mach) (t : Nat) : (m.at_ t).boot = m.boot := by unfold Mach.at_; split <;> rfl

@[simp] theorem Mach.emit_out (m : Mach) (k : OutKind) (l : List Nat) (b : List Byte) : (m.emit k l b).out = m.out ++ [⟨k, l, b⟩] := rfl

/-! ### Registers -/

/-- Whatever else of the hub changes, its registers read as they did. -/
@[simp] theorem Mach.rg_mk (m : Mach) (x1 x2 x3 x4 x5 x6 x7 x8 x9 x10 x11 x12 x13 x14 x15 x16 x17 x18 x19 x20 x21 x22 x23 x24 x25 x26) (a : Nat) :
    Mach.rg ⟨m.regs, x1, x2, x3, x4, x5, x6, x7, x8, x9, x10, x11, x12, x13, x14, x15, x16, x17, x18, x19, x20, x21, x22, x23, x24, x25, x26,⟩ a = m.rg a := by rw [Mach.rg_eq, Mach.rg_eq]

@[simp] theorem Mach.fg_mk (m : Mach) (x1 x2 x3 x4 x5 x6 x7 x8 x9 x10 x11 x12 x13 x14 x15 x16 x17 x18 x19 x20 x21 x22 x23 x24 x25 x26) (a : Nat) (f : Fd) :
    Mach.fg ⟨m.regs, x1, x2, x3, x4, x5, x6, x7, x8, x9, x10, x11, x12, x13, x14, x15, x16, x17, x18, x19, x20, x21, x22, x23, x24, x25, x26,⟩ a f = m.fg a f := by rw [Mach.fg_eq, Mach.fg_eq, Mach.rg_mk]

@[simp] theorem Mach.rg_wr_same (m : Mach) (a : Nat) (v : Word) : (m.wr a v).rg a = v := by
  rw [Mach.rg_eq, Mach.wr_eq]; exact spGet_spSet_same _ _ _ _

theorem Mach.rg_wr_ne (m : Mach) {a b : Nat} (v : Word) (h : b ≠ a) : (m.wr a v).rg b = m.rg b := by
  rw [Mach.rg_eq, Mach.rg_eq, Mach.wr_eq]; exact spGet_spSet_ne _ _ _ _ h

/-- A register after a write: the value written, or what it was. -/
theorem Mach.rg_wr (m : Mach) (a b : Nat) (v : Word) : (m.wr a v).rg b = if b = a then v else m.rg b := by
  by_cases h : b = a
  · simp [h]
  · simp [h, Mach.rg_wr_ne m v h]

theorem Mach.rg_fs (m : Mach) (a b : Nat) (f : Fd) (v : Nat) :
    (m.fs a f v).rg b = if b = a then setF (m.rg a) f v else m.rg b := by
  rw [Mach.fs_eq, Mach.rg_wr]

@[simp] theorem Mach.rg_emit (m : Mach) (k : OutKind) (l : List Nat) (b : List Byte) (a : Nat) : (m.emit k l b).rg a = m.rg a := by
  rw [Mach.rg_eq, Mach.rg_eq, Mach.emit_regs]

@[simp] theorem Mach.fg_emit (m : Mach) (k : OutKind) (l : List Nat) (b : List Byte) (a : Nat) (f : Fd) :
    (m.emit k l b).fg a f = m.fg a f := by rw [Mach.fg_eq, Mach.fg_eq, Mach.rg_emit]

theorem getF_lt (w : Word) (f : Fd) : getF w f < 2 ^ f.n := Nat.mod_lt _ (by positivity)

/-- A word split at a field. -/
theorem split_at_field (x lo n : Nat) : x = x % 2 ^ lo + x / 2 ^ lo % 2 ^ n * 2 ^ lo + x / 2 ^ (lo + n) * 2 ^ (lo + n) := by
  have h1 := Nat.div_add_mod x (2 ^ lo)
  have h2 := Nat.div_add_mod (x / 2 ^ lo) (2 ^ n)
  have h3 : x / 2 ^ lo / 2 ^ n = x / 2 ^ (lo + n) := by rw [Nat.div_div_eq_div_mul, ← pow_add]
  rw [h3] at h2
  have : x / 2 ^ (lo + n) * 2 ^ (lo + n) = 2 ^ lo * (2 ^ n * (x / 2 ^ (lo + n))) := by rw [pow_add]; ring
  rw [this]
  calc x = 2 ^ lo * (x / 2 ^ lo) + x % 2 ^ lo := h1.symm
    _ = 2 ^ lo * (2 ^ n * (x / 2 ^ (lo + n)) + x / 2 ^ lo % 2 ^ n) + x % 2 ^ lo := by rw [h2]
    _ = _ := by ring

theorem setF_toNat (w : Word) (f : Fd) (v : Nat) (h : f.lo + f.n ≤ 32) :
    (setF w f v).toNat = w.toNat % 2 ^ f.lo + v % 2 ^ f.n * 2 ^ f.lo + w.toNat / 2 ^ (f.lo + f.n) * 2 ^ (f.lo + f.n) := by
  have hs := split_at_field w.toNat f.lo f.n
  have hx := w.isLt
  simp only [setF, getF, BitVec.toNat_ofNat]
  have e : w.toNat - w.toNat / 2 ^ f.lo % 2 ^ f.n * 2 ^ f.lo + v % 2 ^ f.n * 2 ^ f.lo =
      w.toNat % 2 ^ f.lo + v % 2 ^ f.n * 2 ^ f.lo + w.toNat / 2 ^ (f.lo + f.n) * 2 ^ (f.lo + f.n) := by omega
  rw [e]
  apply Nat.mod_eq_of_lt
  have hv : v % 2 ^ f.n + 1 ≤ 2 ^ f.n := Nat.mod_lt _ (by positivity)
  have hl : w.toNat % 2 ^ f.lo + 1 ≤ 2 ^ f.lo := Nat.mod_lt _ (by positivity)
  have h1 : v % 2 ^ f.n * 2 ^ f.lo + 2 ^ f.lo ≤ 2 ^ (f.lo + f.n) := by
    calc v % 2 ^ f.n * 2 ^ f.lo + 2 ^ f.lo = (v % 2 ^ f.n + 1) * 2 ^ f.lo := by ring
      _ ≤ 2 ^ f.n * 2 ^ f.lo := Nat.mul_le_mul_right _ hv
      _ = 2 ^ (f.lo + f.n) := by rw [pow_add]; ring
  have hq : w.toNat / 2 ^ (f.lo + f.n) + 1 ≤ 2 ^ (32 - (f.lo + f.n)) := by
    have : w.toNat / 2 ^ (f.lo + f.n) < 2 ^ (32 - (f.lo + f.n)) := by
      rw [Nat.div_lt_iff_lt_mul (by positivity), ← pow_add, Nat.sub_add_cancel h]; exact hx
    omega
  have h2 : w.toNat / 2 ^ (f.lo + f.n) * 2 ^ (f.lo + f.n) + 2 ^ (f.lo + f.n) ≤ 2 ^ 32 := by
    calc _ = (w.toNat / 2 ^ (f.lo + f.n) + 1) * 2 ^ (f.lo + f.n) := by ring
      _ ≤ 2 ^ (32 - (f.lo + f.n)) * 2 ^ (f.lo + f.n) := Nat.mul_le_mul_right _ hq
      _ = 2 ^ 32 := by rw [← pow_add, Nat.sub_add_cancel h]
  omega

/-- A field reads what was put into it, cut to its width. -/
theorem getF_setF_same (w : Word) (f : Fd) (v : Nat) (h : f.lo + f.n ≤ 32) : getF (setF w f v) f = v % 2 ^ f.n := by
  rw [getF, setF_toNat w f v h]
  have hl : w.toNat % 2 ^ f.lo < 2 ^ f.lo := Nat.mod_lt _ (by positivity)
  have e : w.toNat % 2 ^ f.lo + v % 2 ^ f.n * 2 ^ f.lo + w.toNat / 2 ^ (f.lo + f.n) * 2 ^ (f.lo + f.n) =
      w.toNat % 2 ^ f.lo + 2 ^ f.lo * (v % 2 ^ f.n + 2 ^ f.n * (w.toNat / 2 ^ (f.lo + f.n))) := by rw [pow_add]; ring
  rw [e, Nat.add_mul_div_left _ _ (by positivity), Nat.div_eq_of_lt hl, Nat.zero_add, Nat.add_mul_mod_self_left, Nat.mod_mod]

/-- Putting a value into one field leaves a field below or above it alone. -/
theorem getF_setF_other (w : Word) (f g : Fd) (v : Nat) (h : f.lo + f.n ≤ 32) (hd : g.lo + g.n ≤ f.lo ∨ f.lo + f.n ≤ g.lo) :
    getF (setF w f v) g = getF w g := by
  have hs := split_at_field w.toNat f.lo f.n
  rw [getF, getF, setF_toNat w f v h]
  rcases hd with hd | hd
  · have e : ∀ x y : Nat, w.toNat % 2 ^ f.lo + x * 2 ^ f.lo + y * 2 ^ (f.lo + f.n) =
        w.toNat % 2 ^ f.lo + 2 ^ (g.lo + g.n) * (2 ^ (f.lo - (g.lo + g.n)) * (x + y * 2 ^ f.n)) := by
      intro x y
      rw [← Nat.mul_assoc, ← pow_add, Nat.add_sub_cancel' hd, pow_add 2 f.lo]; ring
    have cut : ∀ x y : Nat, (x + 2 ^ (g.lo + g.n) * y) / 2 ^ g.lo % 2 ^ g.n = x / 2 ^ g.lo % 2 ^ g.n := by
      intro x y
      rw [pow_add, Nat.mul_assoc, Nat.add_mul_div_left _ _ (by positivity), Nat.add_mul_mod_self_left]
    conv_rhs => rw [hs]
    rw [e, e, cut, cut]
  · have cut : ∀ x : Nat, x < 2 ^ (f.lo + f.n) → ∀ y : Nat,
        (x + y * 2 ^ (f.lo + f.n)) / 2 ^ g.lo = y / 2 ^ (g.lo - (f.lo + f.n)) := by
      intro x hx y
      have : 2 ^ g.lo = 2 ^ (f.lo + f.n) * 2 ^ (g.lo - (f.lo + f.n)) := by rw [← pow_add, Nat.add_sub_cancel' hd]
      rw [this, ← Nat.div_div_eq_div_mul, Nat.add_mul_div_right _ _ (by positivity), Nat.div_eq_of_lt hx, Nat.zero_add]
    have lt : ∀ v : Nat, w.toNat % 2 ^ f.lo + v % 2 ^ f.n * 2 ^ f.lo < 2 ^ (f.lo + f.n) := by
      intro v
      have hv : v % 2 ^ f.n + 1 ≤ 2 ^ f.n := Nat.mod_lt _ (by positivity)
      have hl : w.toNat % 2 ^ f.lo + 1 ≤ 2 ^ f.lo := Nat.mod_lt _ (by positivity)
      have : v % 2 ^ f.n * 2 ^ f.lo + 2 ^ f.lo ≤ 2 ^ (f.lo + f.n) := by
        calc v % 2 ^ f.n * 2 ^ f.lo + 2 ^ f.lo = (v % 2 ^ f.n + 1) * 2 ^ f.lo := by ring
          _ ≤ 2 ^ f.n * 2 ^ f.lo := Nat.mul_le_mul_right _ hv
          _ = 2 ^ (f.lo + f.n) := by rw [pow_add]; ring
      omega
    conv_rhs => rw [hs]
    rw [cut _ (lt v), cut _ (lt (w.toNat / 2 ^ f.lo))]

/-- A field of a register after that field was set. -/
theorem Mach.fg_fs_same (m : Mach) (a : Nat) (f : Fd) (v : Nat) (h : f.lo + f.n ≤ 32) : (m.fs a f v).fg a f = v % 2 ^ f.n := by
  rw [Mach.fg_eq, Mach.rg_fs, if_pos rfl, getF_setF_same _ _ _ h]

/-- A field after another field of the same register was set. -/
theorem Mach.fg_fs_other (m : Mach) (a : Nat) (f g : Fd) (v : Nat) (h : f.lo + f.n ≤ 32)
    (hd : g.lo + g.n ≤ f.lo ∨ f.lo + f.n ≤ g.lo) : (m.fs a f v).fg a g = m.fg a g := by
  rw [Mach.fg_eq, Mach.rg_fs, if_pos rfl, getF_setF_other _ _ _ _ h hd, ← Mach.fg_eq]

/-- A field after a field of another register was set. -/
theorem Mach.fg_fs_ne (m : Mach) {a b : Nat} (f g : Fd) (v : Nat) (h : b ≠ a) : (m.fs a f v).fg b g = m.fg b g := by
  rw [Mach.fg_eq, Mach.rg_fs, if_neg h, ← Mach.fg_eq]

theorem Mach.ev_regs (m : Mach) (a : Nat) (f : Fd) : (m.ev a f).regs = ((m.fs a seqFd (m.fg a seqFd + 1)).fs a f 1).regs := by
  rw [Mach.ev_eq]

theorem Mach.rg_ev (m : Mach) (a b : Nat) (f : Fd) : (m.ev a f).rg b = ((m.fs a seqFd (m.fg a seqFd + 1)).fs a f 1).rg b := by
  rw [Mach.rg_eq, Mach.ev_regs, ← Mach.rg_eq]

@[simp] theorem Mach.rg_at (m : Mach) (t a : Nat) : (m.at_ t).rg a = m.rg a := by rw [Mach.rg_eq, Mach.rg_eq, Mach.at_regs]

@[simp] theorem Mach.fg_at (m : Mach) (t a : Nat) (f : Fd) : (m.at_ t).fg a f = m.fg a f := by rw [Mach.fg_eq, Mach.fg_eq, Mach.rg_at]

theorem Mach.fg_fs (m : Mach) (a b : Nat) (f g : Fd) (v : Nat) :
    (m.fs a f v).fg b g = if b = a then getF (setF (m.rg a) f v) g else m.fg b g := by
  rw [Mach.fg_eq, Mach.rg_fs]; split <;> rfl

/-- A bit of a number after it was set. -/
theorem bitN_setBitN_same (v i : Nat) (b : Bool) : bitN (setBitN v i b) i = b := by
  have hs := split_at_field v i 1
  have hb : b2n (bitN v i) = v / 2 ^ i % 2 := by
    unfold bitN b2n; have := Nat.mod_two_eq_zero_or_one (v / 2 ^ i); rcases this with h | h <;> simp [h]
  have h2 : (2 : Nat) ^ (i + 1) = 2 ^ i * 2 := pow_succ 2 i
  have hp : 0 < 2 ^ i := by positivity
  have hl : v % 2 ^ i < 2 ^ i := Nat.mod_lt _ hp
  have e : setBitN v i b = v % 2 ^ i + 2 ^ i * (b2n b + 2 * (v / 2 ^ (i + 1))) := by
    unfold setBitN; rw [hb]
    have e1 : v / 2 ^ (i + 1) * 2 ^ (i + 1) = 2 ^ i * (2 * (v / 2 ^ (i + 1))) := by rw [h2]; ring
    have e2 : 2 ^ i * (b2n b + 2 * (v / 2 ^ (i + 1))) = b2n b * 2 ^ i + 2 ^ i * (2 * (v / 2 ^ (i + 1))) := by ring
    rw [pow_one, e1] at hs; rw [e2]; omega
  unfold bitN
  rw [e, Nat.add_mul_div_left _ _ hp, Nat.div_eq_of_lt hl, Nat.zero_add]
  cases b <;> simp [b2n, Nat.add_mod]

/-- An event field that sets reads 1 (R417). -/
theorem Mach.fg_ev_same (m : Mach) (a : Nat) (f : Fd) (hn : f.n = 1) (hl : f.lo < 24) : (m.ev a f).fg a f = 1 := by
  rw [Mach.fg_eq, Mach.rg_ev, ← Mach.fg_eq, Mach.fg_fs_same _ _ _ _ (by omega), hn]; norm_num

/-- Setting an event writes its status register alone. -/
theorem Mach.rg_ev_ne (m : Mach) {a b : Nat} (f : Fd) (h : b ≠ a) : (m.ev a f).rg b = m.rg b := by
  rw [Mach.rg_ev, Mach.rg_fs, if_neg h, Mach.rg_fs, if_neg h]

/-- Setting an event moves seq on by one (R417). -/
theorem Mach.seq_ev (m : Mach) (a : Nat) (f : Fd) (hn : f.n = 1) (hl : f.lo < 24) :
    (m.ev a f).fg a seqFd = (m.fg a seqFd + 1) % 256 := by
  rw [Mach.fg_eq, Mach.rg_ev, ← Mach.fg_eq, Mach.fg_fs_other _ _ _ _ _ (by omega) (Or.inr (by simp [seqFd]; omega)),
    Mach.fg_fs_same _ _ _ _ (by simp [seqFd])]
  rfl

end Sys2Proof.Machine
end

