-- ==== Sys2Proof/Laws/Cmds.lean ====
section
/-! SUPPORT. Laws of the checks before a command's own rules and of replies: what passes them, what each refusal is, and what a
reply writes. -/

namespace Sys2Proof.Machine

/-- A command that passes the checks has its own rules' effect. -/
theorem Mach.serve_of_serves {m : Mach} {c : Cmd} {l p : Bool} (f : Mach → Mach) (h : m.serves c l p = true) :
    m.serve c l p f = f m := by
  simp only [Mach.serves, Mach.coreDead, Bool.and_eq_true, Bool.not_eq_true'] at h
  obtain ⟨⟨⟨⟨⟨h1, h2⟩, h3⟩, h4⟩, h5⟩, h6⟩ := h
  simp only [Mach.serve, h1, h2, h3, h4, h5, h6]
  simp

theorem Mach.serveIn_of_serves {m : Mach} {c : Cmd} {l p : Bool} {d : Nat} (f : Mach → Mach) (h : m.serves c l p = true)
    (hd : m.domOn d = true) : m.serveIn d c l p f = f m := by
  rw [Mach.serveIn, Mach.serve_of_serves _ h, if_pos hd]

theorem Mach.serveCore_of_serves {m : Mach} {c : Cmd} {l p : Bool} (f : Mach → Mach) (h : m.serves c l p = true)
    (h1 : m.domOn 1 = true) (h3 : m.domOn 3 = true) : m.serveCore c l p f = f m := by
  rw [Mach.serveCore, Mach.serve_of_serves _ h, if_pos (by simp [Mach.portOn, h1, h3])]

/-- Commands that go to output 55 are answered DOMAIN_OFF while D1 or D3 is not ON (head of chapter 11). -/
theorem Mach.serveCore_off {m : Mach} {c : Cmd} {l p : Bool} (f : Mach → Mach) (h : m.serves c l p = true)
    (hd : m.domOn 1 = false ∨ m.domOn 3 = false) : m.serveCore c l p f = m.reply c stDomainOff := by
  rw [Mach.serveCore, Mach.serve_of_serves _ h, if_neg (by rcases hd with h | h <;> simp [Mach.portOn, h])]

/-- A packet with a bad CRC is answered BAD_CRC (R390). -/
theorem Mach.serve_badCrc {m : Mach} {c : Cmd} (l p : Bool) (f : Mach → Mach) (h : (m.boot.stop || m.pwr.off) = false)
    (hg : m.cmd.gone.any (·.same c) = false) (hc : c.crcOk = false) : m.serve c l p f = m.reply c stBadCrc := by
  simp only [Mach.serve, h, hg, hc]; simp

/-- A reply to this hub's own origin puts out one record and ends the command here. -/
theorem Mach.reply_own {m : Mach} {c : Cmd} (st f : Nat) (p : List Byte) (h : c.origin.val = m.node) :
    m.reply c st f p = (m.emit .reply [c.origin.val, c.chan.toNat, c.opcode.toNat, c.tag.toNat, c.gen.toNat, m.node, st, f % 2 ^ 56] p).endCmd c := by
  have h' : ∀ k l b, c.origin.val = (m.emit k l b).node := by
    intro k l b; rw [h, Mach.node, Mach.node, Mach.fg_emit]
  simp only [Mach.reply, Mach.sendReply]
  rw [if_pos (h' _ _ _)]

end Sys2Proof.Machine
end

