-- ==== Sys2Proof/Laws/Resets.lean ====
section
/-! SUPPORT. Laws of chip resets: what a reset of the whole chip leaves of the lock bits, the DRAM contents and the queue. -/

namespace Sys2Proof.Machine

@[simp] theorem State.chipReset_guard (s : State) (c r : Nat) (b : Bool) : (s.chipReset c r b).guard = 0 := by rw [State.chipReset]
@[simp] theorem State.chipReset_pending (s : State) (c r : Nat) (b : Bool) : (s.chipReset c r b).pending = s.pending := by rw [State.chipReset]
@[simp] theorem State.chipReset_m (s : State) (c r : Nat) (b : Bool) : (s.chipReset c r b).m = s.m.chipReset c r b := by rw [State.chipReset]
theorem State.chipReset_dram (s : State) (c r : Nat) (b : Bool) : (s.chipReset c r b).dram = if c = rsRetain then s.dram else [] := by rw [State.chipReset]

theorem State.retainReset_eq (s : State) (b : Bool) (o : Option Nat) :
    ∃ m c r, (c = rsRetain ∨ c = rsRetainFailed) ∧ s.retainReset b o = ({ s with m := m } : State).chipReset c r b := by
  cases o with
  | none => exact ⟨_, _, _, Or.inl rfl, rfl⟩
  | some r => exact ⟨_, _, _, Or.inr rfl, rfl⟩

/-- A warm-retain reset waits for D4, which changes the machine part alone, or resets the chip. -/
theorem State.warmRetain_eq (s : State) (b : Bool) :
    (∃ m, s.warmRetain b = { s with m := m }) ∨
      ∃ m c r, (c = rsRetain ∨ c = rsRetainFailed) ∧ s.warmRetain b = ({ s with m := m } : State).chipReset c r b := by
  unfold State.warmRetain
  split
  · exact Or.inl ⟨_, rfl⟩
  · obtain ⟨m, c, r, hc, h⟩ := State.retainReset_eq { s with m := s.m.retainStops } b s.m.retainStops.retainRefuser
    exact Or.inr ⟨m, c, r, hc, h⟩

@[simp] theorem State.warmRetain_pending (s : State) (b : Bool) : (s.warmRetain b).pending = s.pending := by
  rcases s.warmRetain_eq b with ⟨m, h⟩ | ⟨m, c, r, -, h⟩ <;> rw [h]
  rw [State.chipReset_pending]

/-- A reset for a warm-retain keeps the DRAM contents or loses them. -/
theorem State.chipReset_dram_or (s : State) (c r : Nat) (b : Bool) : (s.chipReset c r b).dram = s.dram ∨ (s.chipReset c r b).dram = [] := by
  rw [State.chipReset_dram]; split
  · exact Or.inl rfl
  · exact Or.inr rfl

theorem State.warmRetain_dram (s : State) (b : Bool) : (s.warmRetain b).dram = s.dram ∨ (s.warmRetain b).dram = [] := by
  rcases s.warmRetain_eq b with ⟨m, h⟩ | ⟨m, c, r, -, h⟩ <;> rw [h]
  · exact Or.inl rfl
  · exact State.chipReset_dram_or _ _ _ _

/-- The end of D4's entry changes nothing, or is the reset that waited for it. -/
theorem State.retainEnd_eq (s : State) :
    s.retainEnd = s ∨ ∃ m c r, (c = rsRetain ∨ c = rsRetainFailed) ∧ s.retainEnd = ({ s with m := m } : State).chipReset c r true := by
  unfold State.retainEnd
  split
  · exact Or.inl rfl
  · exact Or.inr (State.retainReset_eq _ _ _)

end Sys2Proof.Machine
end

