-- ==== Sys2Proof/Laws/Steps.lean ====
section
/-! SUPPORT. Laws of the ways in which a meaning acts on the whole state: what is left of the DRAM, the lock bits and the queue
by each of them, and by a chip reset. -/

namespace Sys2Proof.Machine
open Reg

/-! ### Meanings that change the machine part alone -/

theorem quiet_upd (s : State) (f : Mach → Mach) : Quiet s (s.upd f) := ⟨_, rfl⟩
theorem quiet_updUp (s : State) (f : Mach → Mach) : Quiet s (s.updUp f) := ⟨_, rfl⟩
theorem quiet_updD (s : State) (f : Sp Byte → Mach → Mach) : Quiet s (s.updD f) := ⟨_, rfl⟩
theorem quiet_same (s : State) : Quiet s (.next s) := ⟨s.m, rfl⟩

theorem quiet_get (s : State) (a : Acc) (addr : Nat) : Quiet s (s.get a addr) := by
  unfold State.get
  split
  · exact quiet_same s
  · split
    · exact ⟨_, rfl⟩
    · split <;> exact ⟨_, rfl⟩

/-- A cam set to a reserved encoding stops the command; otherwise the machine part alone changes. -/
theorem updCams_cases (s : State) (l : List Nat) (f : Mach → Mach) :
    (∃ n, s.updCams l f = .fault (.reservedEncoding (SHF_CAM_CFG n))) ∨ Quiet s (s.updCams l f) := by
  unfold State.updCams
  split
  · exact Or.inl ⟨_, rfl⟩
  · exact Or.inr (quiet_upd s f)

/-! ### Chip resets -/

theorem journal_step (m : Mach) (a b c d : Nat) : (m.journal a b c d).boot.step = m.boot.step ∧ (m.journal a b c d).boot.done = m.boot.done := by
  unfold Mach.journal Mach.showRam
  dsimp only
  rw [Mach.fs_boot, Mach.fs_boot, Mach.fs_boot]
  split <;> exact ⟨rfl, rfl⟩

theorem Mach.setIsls_boot (m : Mach) (d v : Nat) : (m.setIsls d v).boot = m.boot := by
  have key : ∀ (l : List Nat) (n : Mach), (forEach l (fun i n => n.setIsl d i v) n).boot = n.boot := by
    intro l
    induction l with
    | nil => intro n; rfl
    | cons a l ih => intro n; rw [forEach, List.foldl_cons]; exact (ih _).trans (by rw [Mach.setIsl, Mach.fs_boot])
  exact key _ _

theorem chipReset_boot (m : Mach) (c r : Nat) (b : Bool) :
    (m.chipReset c r b).boot.done = false ∧ ((m.chipReset c r b).boot.step = some 0 ∨ (m.chipReset c r b).boot.step = some 1) := by
  have hb : (m.bootNext c r b).done = false ∧ (m.bootNext c r b).step = some 0 := ⟨rfl, rfl⟩
  have hleave : ∀ (l : List Nat) (n : Mach), (forEach l (fun d n => n.leaveOff d) n).boot = n.boot := by
    intro l
    induction l with
    | nil => intro n; rfl
    | cons a l ih => intro n; rw [forEach, List.foldl_cons]; exact (ih _).trans (by rw [Mach.leaveOff, Mach.setIsls_boot, Mach.fs_boot])
  have hshow : ∀ n : Mach, n.showBoot.showRam.boot = n.boot := by
    intro n; unfold Mach.showBoot Mach.showRam; dsimp only
    rw [Mach.fs_boot, Mach.fs_boot, Mach.fs_boot, Mach.wr_boot, Mach.fs_boot, Mach.fs_boot]
  have hev : ∀ (n : Mach) (p : Bool), (if p = true then n.bootEv JNL_STAT_trial_fail_ev else n).boot = n.boot := by
    intro n p; split
    · rw [Mach.bootEv, Mach.ev_boot]
    · rfl
  have hfac : ∀ (n : Mach) (p : Bool), (if p = true then n.fs FLT_STAT FLT_STAT_factory 1 else n).boot = n.boot := by
    intro n p; split
    · rw [Mach.fs_boot]
    · rfl
  have hend : ∀ n : Mach, n.boot.done = false → n.boot.step = some 0 →
      (if c = rsPowerOn ∨ c = rsCold then n else ((n.causeRecord).boots (fun b => { b with step := some 1 })).journal 1 jStart 1 0).boot.done = false ∧
      ((if c = rsPowerOn ∨ c = rsCold then n else ((n.causeRecord).boots (fun b => { b with step := some 1 })).journal 1 jStart 1 0).boot.step = some 0 ∨
      (if c = rsPowerOn ∨ c = rsCold then n else ((n.causeRecord).boots (fun b => { b with step := some 1 })).journal 1 jStart 1 0).boot.step = some 1) := by
    intro n h1 h2
    split
    · exact ⟨h1, Or.inl h2⟩
    · rw [(journal_step _ 1 jStart 1 0).1, (journal_step _ 1 jStart 1 0).2, Mach.boots]
      refine ⟨?_, Or.inr rfl⟩
      dsimp only
      rw [Mach.causeRecord, (journal_step _ _ _ _ _).2, h1]
  unfold Mach.chipReset
  dsimp only
  apply hend
  · rw [hev, hshow]
    split
    · rw [hleave]; dsimp only; rw [hfac]; exact hb.1
    · rw [hfac]; exact hb.1
  · rw [hev, hshow]
    split
    · rw [hleave]; dsimp only; rw [hfac]; exact hb.2
    · rw [hfac]; exact hb.2

theorem restarted_chipReset (s : State) (c r : Nat) (b : Bool) : Restarted (s.chipReset c r b) := by
  refine ⟨State.chipReset_guard s c r b, ?_⟩
  rw [State.chipReset_m]
  exact chipReset_boot s.m c r b

/-- A change of the machine part alone, or a chip reset. -/
def Resets (s : State) (o : Host.Outcome State Fault Refusal) : Prop :=
  Quiet s o ∨ ∃ t, o = .next t ∧ Restarted t ∧ t.pending = s.pending ∧ (t.dram = s.dram ∨ t.dram = [])

theorem resets_chipReset (s : State) (m : Mach) (c r : Nat) (b : Bool) : Resets s (.next (({ s with m := m } : State).chipReset c r b)) :=
  Or.inr ⟨_, rfl, restarted_chipReset _ _ _ _, by rw [State.chipReset_pending], State.chipReset_dram_or _ _ _ _⟩

theorem resets_warmRetain (s : State) (m : Mach) (b : Bool) : Resets s (.next (({ s with m := m } : State).warmRetain b)) := by
  rcases State.warmRetain_eq ({ s with m := m } : State) b with ⟨n, h⟩ | ⟨n, c, r, -, h⟩ <;> rw [h]
  · exact Or.inl ⟨n, rfl⟩
  · exact resets_chipReset _ _ _ _ _

theorem resets_retainEnd (s : State) (m : Mach) : Resets s (.next (State.retainEnd { s with m := m })) := by
  rcases State.retainEnd_eq ({ s with m := m } : State) with h | ⟨n, c, r, -, h⟩ <;> rw [h]
  · exact Or.inl ⟨m, rfl⟩
  · exact resets_chipReset _ _ _ _ _

/-! ### Register writes -/

/-- What a register write answers: a fault of a reserved encoding, a change of the machine part and more lock bits, or a chip
reset. -/
def WriteEnds (s : State) (o : Host.Outcome State Fault Refusal) : Prop :=
  (∃ a, o = .fault (.reservedEncoding a)) ∨ (∃ m g, o = .next { s with m := m, guard := s.guard ||| g }) ∨
    ∃ t, o = .next t ∧ Restarted t ∧ t.pending = s.pending ∧ (t.dram = s.dram ∨ t.dram = [])

theorem writeEnds_of_quiet {s : State} {o : Host.Outcome State Fault Refusal} (h : Quiet s o) : WriteEnds s o := by
  obtain ⟨m, rfl⟩ := h
  exact Or.inr (Or.inl ⟨m, 0, by simp⟩)

theorem writeEnds_regEnd (s : State) (a : Nat) (v : Word) (r : Nat × Mach) (f : Mach → Mach) : WriteEnds s (s.regEnd a v r f) := by
  unfold State.regEnd
  split
  · exact Or.inl ⟨a, rfl⟩
  · dsimp only
    split
    · rename_i hr
      have hg : guardAfter s.guard r.1 a v = s.guard := by
        unfold guardAfter; rw [if_neg]; rintro ⟨-, h⟩; rw [hr.2.1] at h; exact absurd h (by decide)
      rw [hg]
      have key : Resets s (.next (if v.toNat % 4 = 2 then ({ s with m := f r.2 } : State).warmRetain true else ({ s with m := f r.2 } : State).chipReset rsWarm 0 true)) := by
        split
        · exact resets_warmRetain _ _ _
        · exact resets_chipReset _ _ _ _ _
      rcases key with h | h
      · exact writeEnds_of_quiet h
      · exact Or.inr (Or.inr h)
    · refine Or.inr (Or.inl ⟨f r.2, if r.1 = stOk ∧ a = GLB_GUARD then v.setWidth 7 else 0, ?_⟩)
      unfold guardAfter
      split <;> simp

theorem writeEnds_put (s : State) (a : Acc) (addr : Nat) (v : Word) (be : Nat) (more : Mach → Mach) : WriteEnds s (s.put a addr v be more) := by
  unfold State.put
  split
  · exact writeEnds_of_quiet (quiet_same s)
  · dsimp only
    split
    · exact writeEnds_regEnd _ _ _ _ _
    · split
      · exact writeEnds_of_quiet ⟨_, rfl⟩
      · exact writeEnds_regEnd _ _ _ _ _

theorem writeEnds_serve (s : State) (c : Cmd) (l p : Bool) (f : State → Host.Outcome State Fault Refusal) (h : WriteEnds s (f s)) :
    WriteEnds s (s.serve c l p f) := by
  unfold State.serve
  split
  · exact h
  · exact writeEnds_of_quiet (quiet_upd s _)

theorem writeEnds_regWriteCmd (s : State) (c : Cmd) (k : Option Bool) (v : Word) (be : Nat) : WriteEnds s (s.regWriteCmd c k v be) := by
  unfold State.regWriteCmd
  dsimp only
  split
  · exact writeEnds_of_quiet (quiet_upd s _)
  · exact writeEnds_regEnd _ _ _ _ _

theorem writeEnds_regRmwCmd (s : State) (c : Cmd) : WriteEnds s (s.regRmwCmd c) := by
  unfold State.regRmwCmd
  dsimp only
  split
  · exact writeEnds_of_quiet (quiet_upd s _)
  · split
    · exact writeEnds_of_quiet ⟨_, rfl⟩
    · split <;> exact writeEnds_regEnd _ _ _ _ _

/-! ### The DRAM's canonical form -/

theorem spWf_dramWrite (d : Sp Byte) (a : Nat) (bs : List Byte) (h : spWf (fun _ => (0 : Byte)) d = true) :
    spWf (fun _ => (0 : Byte)) (dramWrite d a bs) = true := by
  induction bs generalizing d a with
  | nil => exact h
  | cons b bs ih => exact ih _ _ (spWf_spSet _ d a b h)

theorem doWrite_dram (m : Mach) (d : Sp Byte) (idx addr : Nat) (data : List Byte) (p : Option Nat) (es : List EccRes) :
    (m.doWrite d idx addr data p es).2.1 = dramWrite d addr data := by
  unfold Mach.doWrite
  rfl

end Sys2Proof.Machine
end

