-- ==== Sys2Proof/Laws/DramForm.lean ====
section
/-! SUPPORT. Laws of the rows that write the DRAM: each keeps the canonical form of its contents. -/

namespace Sys2Proof.Machine
open Reg

/-- The canonical form of DRAM contents. -/
abbrev dramOk (d : Sp Byte) : Prop := spWf (fun _ => (0 : Byte)) d = true

theorem completeReq_ok (m : Mach) (d : Sp Byte) (slot : Nat) (ecc : List EccRes) (track : List (Fin 10 × Bool)) (t : Nat) (h : dramOk d) :
    dramOk (completeReq m d slot ecc track t).2 := by
  unfold completeReq
  dsimp only
  split
  · exact h
  · split
    · exact h
    · split
      · exact spWf_dramWrite _ _ _ h
      · exact h

theorem arbHang_ok (m : Mach) (d : Sp Byte) (slot done : Nat) (h : dramOk d) : dramOk (arbHang m d slot done).2 := by
  unfold arbHang
  split
  · exact h
  · split
    · exact h
    · dsimp only
      split
      · exact spWf_dramWrite _ _ _ h
      · exact h

theorem retrainRound_ok (m : Mach) (d : Sp Byte) (rank : Nat) (moves : List (Fin 5 × Bool)) (h : dramOk d) :
    dramOk (retrainRound m d rank moves).2 := by
  unfold retrainRound
  split
  · exact h
  · dsimp only
    split
    · exact h
    · exact spWf_dramWrite _ _ _ h

end Sys2Proof.Machine
end

