-- ==== Sys2Proof/Laws/Switches.lean ====
section
/-! SUPPORT. Laws of the die link's sending side (it writes no register) and of a switch's trip: what it writes, and that no
hoop conducts after all of them have tripped. -/

namespace Sys2Proof.Machine
open Reg

@[simp] theorem Mach.dlEmit_regs (m : Mach) (e : DieEnd) (p : DlPkt) : (m.dlEmit e p).regs = m.regs := by
  rw [Mach.dlEmit, Mach.emit_regs]

@[simp] theorem Mach.dlPump_regs (n : Nat) (e : DieEnd) (m : Mach) : (m.dlPump n e).regs = m.regs := by
  induction n generalizing m with
  | zero => rfl
  | succ n ih =>
    unfold Mach.dlPump
    dsimp only
    split
    · rfl
    · split
      · rfl
      · rw [ih, Mach.dlEmit_regs]

@[simp] theorem Mach.dlSend_regs (m : Mach) (e : DieEnd) (t sp : Nat) (d : List (BitVec 16)) : (m.dlSend e t sp d).regs = m.regs := by
  unfold Mach.dlSend; dsimp only; rw [Mach.dlPump_regs]

@[simp] theorem Mach.pdEvent_regs (m : Mach) (e : PdEvent) : (m.pdEvent e).regs = m.regs := by
  unfold Mach.pdEvent; dsimp only; rw [Mach.dlSend_regs]

@[simp] theorem Mach.pdEvent_rg (m : Mach) (e : PdEvent) (a : Nat) : (m.pdEvent e).rg a = m.rg a := by
  rw [Mach.rg_eq, Mach.rg_eq, Mach.pdEvent_regs]

@[simp] theorem Mach.dlSend_rg (m : Mach) (e : DieEnd) (t sp : Nat) (d : List (BitVec 16)) (a : Nat) :
    (m.dlSend e t sp d).rg a = m.rg a := by rw [Mach.rg_eq, Mach.rg_eq, Mach.dlSend_regs]

@[simp] theorem Mach.setSw_regs (m : Mach) (w : Switch) (x : Sw) : (m.setSw w x).regs = m.regs := by
  unfold Mach.setSw; dsimp only

@[simp] theorem Mach.setSw_rg (m : Mach) (w : Switch) (x : Sw) (a : Nat) : (m.setSw w x).rg a = m.rg a := by
  rw [Mach.rg_eq, Mach.rg_eq, Mach.setSw_regs]

/-- The register part of a trip that happens. -/
def Mach.tripRegs (m : Mach) (w : Switch) (cause : Nat) : Mach :=
  (((((m.fs (swStat w) PDI_HOOP_STAT_state swHoldoff).fs (swStat w) PDI_HOOP_STAT_cause cause).fs (swStat w) PDI_HOOP_STAT_pgood 0).fs
    (swStat w) PDI_HOOP_STAT_limiting 0).ev (swStat w) PDI_HOOP_STAT_trip_ev).sat (swCnt w) PDI_HOOP_CNT_trips 1

theorem Mach.tripSw_rg (m : Mach) (w : Switch) (cause a : Nat) :
    (m.tripSw w cause).rg a = if m.swLive w then (m.tripRegs w cause).rg a else m.rg a := by
  unfold Mach.tripSw
  cases h : m.swLive w
  · simp
  · simp only [Bool.not_true, Bool.false_eq_true, if_false, if_true, Mach.pdEvent_rg, Mach.rg_emit]
    split <;> simp only [Mach.startHoldoff, Mach.setSw_rg, Mach.tripRegs]

theorem swStat_ne_swCnt (v w : Switch) : swStat v ≠ swCnt w := by
  cases v <;> cases w <;> simp only [swStat, swCnt, PDI_HOOP_STAT, PDI_VBUS_STAT, PDI_HOOP_CNT, PDI_VBUS_CNT] <;> omega

theorem swStat_inj {v w : Switch} (h : swStat v = swStat w) : v = w := by
  cases v <;> cases w <;> simp only [swStat, PDI_HOOP_STAT, PDI_VBUS_STAT] at h
  · rename_i a b; exact congrArg _ (Fin.ext (by omega))
  · rename_i a b; have := a.isLt; omega
  · rename_i a b; have := b.isLt; omega
  · rename_i a b; exact congrArg _ (Fin.ext (by omega))

/-- A trip writes the status and the counter of its own switch. -/
theorem Mach.tripSw_rg_other (m : Mach) (w : Switch) (cause a : Nat) (h1 : a ≠ swStat w) (h2 : a ≠ swCnt w) :
    (m.tripSw w cause).rg a = m.rg a := by
  rw [Mach.tripSw_rg]
  split
  · unfold Mach.tripRegs
    rw [Mach.sat_eq, Mach.rg_fs, if_neg h2, Mach.rg_ev_ne _ _ h1, Mach.rg_fs, if_neg h1, Mach.rg_fs, if_neg h1, Mach.rg_fs,
      if_neg h1, Mach.rg_fs, if_neg h1]
  · rfl

/-- A field of the status register after a trip: HOLDOFF, the cause, and neither power-good nor limiting. -/
theorem Mach.tripSw_state (m : Mach) (w : Switch) (cause : Nat) (h : m.swLive w = true) :
    (m.tripSw w cause).fg (swStat w) PDI_HOOP_STAT_state = swHoldoff ∧ (m.tripSw w cause).fg (swStat w) PDI_HOOP_STAT_cause = cause % 16 ∧
    (m.tripSw w cause).fg (swStat w) PDI_HOOP_STAT_pgood = 0 ∧ (m.tripSw w cause).fg (swStat w) PDI_HOOP_STAT_limiting = 0 ∧
    (m.tripSw w cause).fg (swStat w) PDI_HOOP_STAT_trip_ev = 1 := by
  have hw : (m.tripSw w cause).rg (swStat w) = setF (setF (setF (setF (setF (setF (m.rg (swStat w)) PDI_HOOP_STAT_state swHoldoff)
      PDI_HOOP_STAT_cause cause) PDI_HOOP_STAT_pgood 0) PDI_HOOP_STAT_limiting 0) seqFd (m.fg (swStat w) seqFd + 1))
      PDI_HOOP_STAT_trip_ev 1 := by
    rw [Mach.tripSw_rg, h, if_pos rfl, Mach.tripRegs, Mach.sat_eq, Mach.rg_fs, if_neg (swStat_ne_swCnt w w), Mach.rg_ev]
    simp only [Mach.rg_fs, if_true, Mach.fg_eq]
    congr 3
    rw [getF_setF_other _ _ _ _ (by decide) (by decide), getF_setF_other _ _ _ _ (by decide) (by decide),
      getF_setF_other _ _ _ _ (by decide) (by decide), getF_setF_other _ _ _ _ (by decide) (by decide)]
  simp only [Mach.fg_eq, hw]
  refine ⟨?_, ?_, ?_, ?_, ?_⟩
  · rw [getF_setF_other _ _ _ _ (by decide) (by decide), getF_setF_other _ _ _ _ (by decide) (by decide),
      getF_setF_other _ _ _ _ (by decide) (by decide), getF_setF_other _ _ _ _ (by decide) (by decide),
      getF_setF_other _ _ _ _ (by decide) (by decide), getF_setF_same _ _ _ (by decide)]; rfl
  · rw [getF_setF_other _ _ _ _ (by decide) (by decide), getF_setF_other _ _ _ _ (by decide) (by decide),
      getF_setF_other _ _ _ _ (by decide) (by decide), getF_setF_other _ _ _ _ (by decide) (by decide),
      getF_setF_same _ _ _ (by decide)]; rfl
  · rw [getF_setF_other _ _ _ _ (by decide) (by decide), getF_setF_other _ _ _ _ (by decide) (by decide),
      getF_setF_other _ _ _ _ (by decide) (by decide), getF_setF_same _ _ _ (by decide)]; rfl
  · rw [getF_setF_other _ _ _ _ (by decide) (by decide), getF_setF_other _ _ _ _ (by decide) (by decide),
      getF_setF_same _ _ _ (by decide)]; rfl
  · rw [getF_setF_same _ _ _ (by decide)]; rfl

theorem Mach.swState_eq (m : Mach) (w : Switch) : m.swState w = m.fg (swStat w) PDI_HOOP_STAT_state := rfl

/-- A trip leaves every other switch's status as it is. -/
theorem Mach.tripSw_rg_stat (m : Mach) (v w : Switch) (cause : Nat) (h : v ≠ w) :
    (m.tripSw w cause).rg (swStat v) = m.rg (swStat v) :=
  Mach.tripSw_rg_other m w cause _ (fun e => h (swStat_inj e)) (swStat_ne_swCnt v w)

theorem Mach.swLive_congr {m n : Mach} {w : Switch} (h : n.rg (swStat w) = m.rg (swStat w)) : n.swLive w = m.swLive w := by
  simp only [Mach.swLive, Mach.swState_eq, Mach.fg_eq, h]

/-- A list of different switches trips: each of them reads as after its own trip, every other as before. -/
theorem Mach.tripAll_rg_stat (l : List Switch) (hn : l.Nodup) (m : Mach) (cause : Nat) (v : Switch) :
    (l.foldl (fun m w => m.tripSw w cause) m).rg (swStat v) = if v ∈ l then (m.tripSw v cause).rg (swStat v) else m.rg (swStat v) := by
  induction l generalizing m with
  | nil => simp
  | cons w l ih =>
    rw [List.nodup_cons] at hn
    rw [List.foldl_cons, ih hn.2]
    by_cases hvw : v = w
    · subst hvw; simp [hn.1]
    · have e := Mach.tripSw_rg_stat m v w cause hvw
      by_cases hl : v ∈ l
      · rw [if_pos hl, if_pos (List.mem_cons_of_mem _ hl)]
        have hlive : (m.tripSw w cause).swLive v = m.swLive v := Mach.swLive_congr e
        rw [Mach.tripSw_rg (m.tripSw w cause) v cause (swStat v), Mach.tripSw_rg m v cause (swStat v), hlive]
        split
        · have key : ∀ n : Mach, (n.tripRegs v cause).rg (swStat v) = setF (setF (setF (setF (setF (setF (n.rg (swStat v)) PDI_HOOP_STAT_state swHoldoff)
              PDI_HOOP_STAT_cause cause) PDI_HOOP_STAT_pgood 0) PDI_HOOP_STAT_limiting 0) seqFd
              (getF (setF (setF (setF (setF (n.rg (swStat v)) PDI_HOOP_STAT_state swHoldoff)
              PDI_HOOP_STAT_cause cause) PDI_HOOP_STAT_pgood 0) PDI_HOOP_STAT_limiting 0) seqFd + 1)) PDI_HOOP_STAT_trip_ev 1 := by
            intro n
            rw [Mach.tripRegs, Mach.sat_eq, Mach.rg_fs, if_neg (swStat_ne_swCnt v v), Mach.rg_ev]
            simp only [Mach.rg_fs, if_true, Mach.fg_eq]
          rw [key, key, e]
        · exact e
      · rw [if_neg hl, if_neg (by simp [hvw, hl]), e]

theorem Mach.tripHoops_eq (m : Mach) (cause : Nat) : m.tripHoops cause = allHoops.foldl (fun m w => m.tripSw w cause) m := by
  rw [allHoops, List.foldl_map]; rfl

/-- What each hoop's status reads after every hoop was told to trip. -/
theorem Mach.tripHoops_rg_stat (m : Mach) (cause : Nat) (k : Fin 12) :
    (m.tripHoops cause).rg (swStat (.hoop k)) = (m.tripSw (.hoop k) cause).rg (swStat (.hoop k)) := by
  rw [Mach.tripHoops_eq, Mach.tripAll_rg_stat _ (by decide), if_pos (by simp [allHoops])]

/-- Every hoop trips: a register that is no hoop's status or counter stays. -/
theorem Mach.tripHoops_rg_other (m : Mach) (cause a : Nat) (h : ∀ k : Fin 12, a ≠ swStat (.hoop k) ∧ a ≠ swCnt (.hoop k)) :
    (m.tripHoops cause).rg a = m.rg a := by
  rw [Mach.tripHoops_eq, allHoops, List.foldl_map]
  generalize List.finRange 12 = l
  induction l generalizing m with
  | nil => rfl
  | cons k l ih => rw [List.foldl_cons, ih, Mach.tripSw_rg_other _ _ _ _ (h k).1 (h k).2]

end Sys2Proof.Machine
end

