-- ==== Sys2Proof/Laws/Events.lean ====
section
/-! SUPPORT. Laws of what goes out: a chain packet writes at most a port's drop counter, a queue its own status, a hub event
the status of queue 51 or a drop counter, and a reply at most a drop counter. -/

namespace Sys2Proof.Machine
open Reg

@[simp] theorem Mach.setChp_regs (m : Mach) (k : Nat) (x : ChPort) : (m.setChp k x).regs = m.regs := by unfold Mach.setChp; rfl

@[simp] theorem Mach.chnPump_regs (n k : Nat) (m : Mach) : (m.chnPump n k).regs = m.regs := by
  induction n generalizing m with
  | zero => rfl
  | succ n ih =>
    unfold Mach.chnPump
    dsimp only
    split
    · rfl
    · split
      · rfl
      · split
        · rfl
        · rw [ih, Mach.flitOut, Mach.emit_regs, Mach.setChp_regs]

@[simp] theorem Mach.flitsWait_regs (m : Mach) (k : Nat) (l : List TxFlit) : (m.flitsWait k l).regs = m.regs := by
  unfold Mach.flitsWait; dsimp only; rw [Mach.chnPump_regs, Mach.setChp_regs]

theorem Mach.rg_of_regs {m n : Mach} (h : n.regs = m.regs) (a : Nat) : n.rg a = m.rg a := by rw [Mach.rg_eq, Mach.rg_eq, h]

theorem Mach.chainOut_rg (m : Mach) (k pool kind : Nat) (args : List Nat) (h : RouteHdr) (data : List Byte) (poison : Bool) {a : Nat}
    (ha : a ≠ CHN_P_DROP k) : (m.chainOut k pool kind args h data poison).rg a = m.rg a := by
  unfold Mach.chainOut
  split
  · rw [Mach.rg_of_regs (Mach.flitsWait_regs _ _ _), Mach.rg_emit]
  · rw [Mach.inc_eq, Mach.rg_fs, if_neg ha]

/-- An address that is no chain port's drop counter. -/
def noDrop (a : Nat) : Prop := ∀ k, a ≠ CHN_P_DROP k

theorem Mach.chainTo_rg (m : Mach) (n pool kind : Nat) (args : List Nat) (h : RouteHdr) (data : List Byte) (poison : Bool) {a : Nat}
    (ha : noDrop a) : (m.chainTo n pool kind args h data poison).rg a = m.rg a := by
  unfold Mach.chainTo
  split
  · rw [Mach.chainOut_rg _ _ _ _ _ _ _ _ (ha _)]
  · rfl

/-- A reply writes at most a drop counter. -/
theorem Mach.sendReply_rg (m : Mach) (c : Cmd) (st f : Nat) (p : List Byte) {a : Nat} (ha : noDrop a) :
    (m.sendReply c st f p).rg a = m.rg a := by
  unfold Mach.sendReply
  dsimp only
  split
  · rw [Mach.rg_emit]
  · rw [Mach.chainTo_rg _ _ _ _ _ _ _ _ ha, Mach.rg_emit]

@[simp] theorem Mach.endCmd_regs (m : Mach) (c : Cmd) : (m.endCmd c).regs = m.regs := by unfold Mach.endCmd; rfl

theorem Mach.reply_rg (m : Mach) (c : Cmd) (st f : Nat) (p : List Byte) {a : Nat} (ha : noDrop a) :
    (m.reply c st f p).rg a = m.rg a := by
  rw [Mach.reply, Mach.rg_of_regs (Mach.endCmd_regs _ _), Mach.sendReply_rg _ _ _ _ _ ha]

/-- A queue's replacement writes its status register alone. -/
theorem Mach.setQ_rg (m : Mach) (n : Nat) (q : Que) {a : Nat} (ha : a ≠ QUE_Q_STAT n) : (m.setQ n q).rg a = m.rg a := by
  unfold Mach.setQ
  dsimp only
  rw [Mach.rg_mk, Mach.rg_fs, if_neg ha, Mach.rg_fs, if_neg ha]
  have hev : ∀ (b : Bool) (m : Mach) (f : Fd), (if b = true then m.ev (QUE_Q_STAT n) f else m).rg a = m.rg a := by
    intro b m f; split
    · rw [Mach.rg_ev_ne _ _ ha]
    · rfl
  have hem : ∀ (b : Bool) (m : Mach) (l : List Nat), (if b = true then m.emit .notice l else m).rg a = m.rg a := by
    intro b m l; split
    · rw [Mach.rg_emit]
    · rfl
  rw [hem, hev, hev]

theorem Mach.qPut_rg (m : Mach) (n : Nat) (bs : List Byte) {a : Nat} (ha : a ≠ QUE_Q_STAT n) : (m.qPut n bs).rg a = m.rg a :=
  Mach.setQ_rg _ _ _ ha

/-- A hub event writes the status of queue 51 or a drop counter. -/
theorem Mach.event_rg (m : Mach) (kind h gen : Nat) (data : List Byte) {a : Nat} (hq : a ≠ QUE_Q_STAT 51) (ha : noDrop a) :
    (m.event kind h gen data).rg a = m.rg a := by
  have place : ∀ (b : Bool) (n : Mach) (bs : List Byte), (if b = true then n.reportTo 0 bs false else n.qPut 51 bs).rg a = n.rg a := by
    intro b n bs; split
    · rw [Mach.reportTo, Mach.chainTo_rg _ _ _ _ _ _ _ _ ha]
    · rw [Mach.qPut_rg _ _ _ hq]
  have both : ∀ {c : Prop} [Decidable c] {x y : Mach}, x.rg a = m.rg a → y.rg a = m.rg a → (if c then x else y).rg a = m.rg a := by
    intro c _ x y hx hy; split <;> assumption
  unfold Mach.event
  dsimp only
  refine both rfl ?_
  rw [place, Mach.rg_emit]
  refine both rfl ?_
  rw [Mach.rg_mk, place, Mach.rg_emit]

theorem Mach.portEvent_rg (m : Mach) (kind p sub : Nat) (data : List Byte) {a : Nat} (hq : a ≠ QUE_Q_STAT 51) (ha : noDrop a) :
    (m.portEvent kind p sub data).rg a = m.rg a := Mach.event_rg _ _ _ _ _ hq ha

theorem noDrop_of_lt {a : Nat} (h : a < 0x120000) : noDrop a := by
  intro k; unfold CHN_P_DROP; omega

end Sys2Proof.Machine
end

