-- ==== Sys2Proof/Laws/Exec.lean ====
section
/-! SUPPORT. What each row does to the whole state, said once for all rows: every row but those that write registers, fire cams,
write the DRAM or reset the chip changes the machine part alone. -/

namespace Sys2Proof.Machine
open Reg

/-- Every other row changes the machine part alone. -/
theorem exec_quiet (c : Instr) (s : State) (h1 : writesRegister c = false) (h2 : firesCams c = false) (h3 : writesDram c = false)
    (h4 : resetsChip c = false) : Quiet s (exec c s) := by
  cases c
  case queDataRead a q => exact quiet_get s a _
  case regPairLoRead a addr => exact quiet_get s a _
  all_goals
    first
      | exact ⟨_, rfl⟩
      | exact absurd (show true = false from h1) Bool.noConfusion
      | exact absurd (show true = false from h2) Bool.noConfusion
      | exact absurd (show true = false from h3) Bool.noConfusion
      | exact absurd (show true = false from h4) Bool.noConfusion

/-- A register row writes its register or resets the chip. -/
theorem exec_writes (c : Instr) (s : State) (h : writesRegister c = true) : WriteEnds s (exec c s) := by
  cases c
  case regWr c => simp only [exec, execRegWr]; refine writeEnds_serve s c _ _ _ ?_; exact writeEnds_regWriteCmd s c _ _ _
  case regWrKeyed c => simp only [exec, execRegWrKeyed]; refine writeEnds_serve s c _ _ _ ?_; exact writeEnds_regWriteCmd s c _ _ _
  case regRmw c => simp only [exec, execRegRmw]; refine writeEnds_serve s c _ _ _ ?_; exact writeEnds_regRmwCmd s c
  case regWrite a addr v be => exact writeEnds_put s a _ _ _ _
  case groupCancel a g => exact writeEnds_put s a _ _ _ _
  case groupRevert a g => exact writeEnds_put s a _ _ _ _
  case renCtrlWrite a v => exact writeEnds_put s a _ _ _ _
  case prtReset a p => exact writeEnds_put s a _ _ _ _
  case prtSuspend a p => exact writeEnds_put s a _ _ _ _
  case prtResume a p => exact writeEnds_put s a _ _ _ _
  case prtDisable a p => exact writeEnds_put s a _ _ _ _
  case slotApply a p => exact writeEnds_put s a _ _ _ _
  case wtpEnable a n v => exact writeEnds_put s a _ _ _ _
  case dmcEcsNow a counts => exact writeEnds_put s a _ _ _ _
  case dpyInvalidate a => exact writeEnds_put s a _ _ _ _
  case dpyMarkClear a => exact writeEnds_put s a _ _ _ _
  case hubCtrlWrite a v => exact writeEnds_put s a _ _ _ _
  case chnCtrlWrite a v => exact writeEnds_put s a _ _ _ _
  case hoopOn a k => exact writeEnds_put s a _ _ _ _
  case hoopOff a k => exact writeEnds_put s a _ _ _ _
  case fltHandled a v => exact writeEnds_put s a _ _ _ _
  case fltAckWrite a v => exact writeEnds_put s a _ _ _ _
  case fltRelease a => exact writeEnds_put s a _ _ _ _
  case fltInj a v => exact writeEnds_put s a _ _ _ _
  case jnlResetWarm a k => exact writeEnds_put s a _ _ _ _
  case jnlResetWarmRetain a k => exact writeEnds_put s a _ _ _ _
  case watchdogKick a => exact writeEnds_put s a _ _ _ _
  all_goals exact absurd (show false = true from h) Bool.noConfusion

/-- A row that fires cams changes the machine part alone, or stops at a channel set to a reserved encoding. -/
theorem exec_cams (c : Instr) (s : State) (h : firesCams c = true) :
    (∃ n, exec c s = .fault (.reservedEncoding (SHF_CAM_CFG n))) ∨ Quiet s (exec c s) := by
  cases c
  case encoderEdge ch a b samples t => exact updCams_cases s _ _
  case shaftRecordRx src r t => exact updCams_cases s _ _
  case camFirePredicted n t => exact updCams_cases s _ _
  all_goals exact absurd (show false = true from h) Bool.noConfusion

/-- A row that writes the DRAM answers, keeps its canonical form and leaves the lock bits and the queue. -/
theorem exec_dram (c : Instr) (s : State) (h : writesDram c = true) :
    ∃ m d, exec c s = .next { s with m := m, dram := d } ∧ (dramOk s.dram → dramOk d) := by
  cases c
  case dramRequestComplete slot ecc track t => exact ⟨_, _, rfl, fun hd => completeReq_ok _ _ _ _ _ _ hd⟩
  case arbHang slot done => exact ⟨_, _, rfl, fun hd => arbHang_ok _ _ _ _ hd⟩
  case retrainRound rank moves => exact ⟨_, _, rfl, fun hd => retrainRound_ok _ _ _ _ hd⟩
  case eccInitDone =>
    simp only [exec, execEccInitDone]
    split
    · exact ⟨_, _, rfl, fun _ => rfl⟩
    · exact ⟨s.m, s.dram, rfl, id⟩
  all_goals exact absurd (show false = true from h) Bool.noConfusion

/-- The straps sampled at a reset are part of the machine alone. -/
theorem resets_samples (s t : State) (st : Nat) (h : Resets s (.next t)) : Resets s (.next { t with m := t.m.sampleStraps st }) := by
  rcases h with ⟨m, h⟩ | ⟨u, h, hr, hp, hd⟩ <;> obtain rfl := Host.Outcome.next.inj h
  · exact Or.inl ⟨m.sampleStraps st, rfl⟩
  · exact Or.inr ⟨_, rfl, ⟨hr.1, hr.2.1, hr.2.2⟩, hp, hd⟩

/-- A reset row changes the machine part alone, or resets the chip. -/
theorem exec_resets (c : Instr) (s : State) (h : resetsChip c = true) : Resets s (exec c s) := by
  have hs : ∀ (m : Mach) cause (st : Nat),
      Resets s (.next { ({ s with m := m } : State).chipReset cause 0 false with m := (({ s with m := m } : State).chipReset cause 0 false).m.sampleStraps st }) := by
    intro m cause st
    have h : Resets s (.next (({ s with m := m } : State).chipReset cause 0 false)) := resets_chipReset s m _ _ _
    generalize ({ s with m := m } : State).chipReset cause 0 false = t at h ⊢
    exact resets_samples s t st h
  cases c
  case powerOnReset st => exact hs s.m _ _
  case coldReset st ns =>
    simp only [exec, execColdReset]
    split
    · exact Or.inl (quiet_same s)
    · split
      · exact hs s.m _ _
      · split
        · exact hs s.m.takeFree.2 _ _
        · exact Or.inl ⟨_, rfl⟩
  case watchdogExpiry =>
    simp only [exec, execWatchdogExpiry]
    split
    · exact Or.inl (quiet_same s)
    · split
      · split
        · exact Or.inl (quiet_same s)
        · exact resets_chipReset s s.m _ _ _
      · exact Or.inl ⟨_, rfl⟩
  case coreWakeEvent w =>
    simp only [exec, execCoreWakeEvent]
    generalize (if w = true then PWR_CORE_WAKE_waken else PWR_CORE_WAKE_smbus) = f
    split
    · exact Or.inl (quiet_same s)
    · split
      · exact resets_chipReset s s.m _ _ _
      · exact Or.inl ⟨_, rfl⟩
  case domainDrainDone d ok => exact resets_retainEnd s _
  case domainEntryTimeout d => exact resets_retainEnd s _
  case fwActivate c =>
    simp only [exec, execFwActivate]
    split
    · exact resets_chipReset s (s.m.fwActivate c) _ _ _
    · exact Or.inl ⟨_, rfl⟩
  all_goals exact absurd (show false = true from h) Bool.noConfusion

end Sys2Proof.Machine
end

