-- ==== Sys2Proof/Laws/PerInstr.lean ====
section
/-! SUPPORT. A statement about every command as syntax: a well-formed row that carries a command packet carries one that
can exist (R382, R385). One lemma per constructor. -/

namespace Sys2Proof.Laws.WellFormed

/-- The command packet of a well-formed command has an origin channel and at most 1,024 bytes of payload. -/
def Statement (i : Sys2Proof.Instr) : Prop :=
  i.wf = true → ∀ c, i.cmd = some c → c.payload.length ≤ 1024 ∧ c.chan.toNat ≤ 2

/-- A packet of an opcode that is well formed can exist. -/
theorem wfAs_bounds (c : Sys2Proof.Cmd) (k : Nat) (h : c.wfAs k = true) : c.payload.length ≤ 1024 ∧ c.chan.toNat ≤ 2 := by
  simp only [Sys2Proof.Cmd.wfAs, Sys2Proof.Cmd.wf, Bool.and_eq_true, decide_eq_true_eq] at h
  exact h.1

/-- A row that carries its packet meets the statement. -/
theorem of_wfAs (i : Sys2Proof.Instr) (c : Sys2Proof.Cmd) (k : Nat) (hc : i.cmd = some c) (hw : i.wf = c.wfAs k) : Statement i := by
  intro h d hd
  rw [hc] at hd
  cases hd
  exact wfAs_bounds c k (hw ▸ h)

/-- A row without a packet meets the statement. -/
theorem of_none (i : Sys2Proof.Instr) (hc : i.cmd = none) : Statement i := by
  intro _ d hd
  rw [hc] at hd
  cases hd

theorem dielinkPacketRx (e : Sys2Proof.DieEnd) (pk : Sys2Proof.DlPkt) : Statement (.dielinkPacketRx e pk) := of_none _ rfl
theorem dielinkAckRx (e : Sys2Proof.DieEnd) (seq : BitVec 4) : Statement (.dielinkAckRx e seq) := of_none _ rfl
theorem dielinkNakRx (e : Sys2Proof.DieEnd) (seq : BitVec 4) : Statement (.dielinkNakRx e seq) := of_none _ rfl
theorem dielinkResyncDone  : Statement .dielinkResyncDone := of_none _ rfl
theorem dielinkEventRx (ev : Sys2Proof.PdEvent) : Statement (.dielinkEventRx ev) := of_none _ rfl
theorem heartbeatSend  : Statement .heartbeatSend := of_none _ rfl
theorem heartbeatRx (count : BitVec 16) (spec : BitVec 4) : Statement (.heartbeatRx count spec) := of_none _ rfl
theorem heartbeatLost  : Statement .heartbeatLost := of_none _ rfl
theorem encoderEdge (ch : Fin 2) (a b : Bool) (samples t : Nat) : Statement (.encoderEdge ch a b samples t) := of_none _ rfl
theorem indexPulse (ch : Fin 2) (level : Bool) (samples t : Nat) : Statement (.indexPulse ch level samples t) := of_none _ rfl
theorem shaftRecordRx (src : Fin 32) (r : Sys2Proof.ShaftRec) (t : Nat) : Statement (.shaftRecordRx src r t) := of_none _ rfl
theorem recordOverdue (t : Nat) : Statement (.recordOverdue t) := of_none _ rfl
theorem camFirePredicted (n : Fin 32) (t : Nat) : Statement (.camFirePredicted n t) := of_none _ rfl
theorem camPulseEnd (n : Fin 32) : Statement (.camPulseEnd n) := of_none _ rfl
theorem plausCheck (t : Nat) : Statement (.plausCheck t) := of_none _ rfl
theorem sofLaunch (p : Fin 48) (t : Nat) : Statement (.sofLaunch p t) := of_none _ rfl
theorem frameTimerInPhase  : Statement .frameTimerInPhase := of_none _ rfl
theorem streamDefine (c : Sys2Proof.Cmd) : Statement (.streamDefine c) := of_wfAs _ c 0x30 rfl rfl
theorem streamArm (c : Sys2Proof.Cmd) : Statement (.streamArm c) := of_wfAs _ c 0x31 rfl rfl
theorem streamStart (c : Sys2Proof.Cmd) : Statement (.streamStart c) := of_wfAs _ c 0x32 rfl rfl
theorem streamHalt (c : Sys2Proof.Cmd) : Statement (.streamHalt c) := of_wfAs _ c 0x33 rfl rfl
theorem haltAll (c : Sys2Proof.Cmd) : Statement (.haltAll c) := of_wfAs _ c 0xB1 rfl rfl
theorem streamSwitch (c : Sys2Proof.Cmd) : Statement (.streamSwitch c) := of_wfAs _ c 0x34 rfl rfl
theorem tableWrite (c : Sys2Proof.Cmd) : Statement (.tableWrite c) := of_wfAs _ c 0x40 rfl rfl
theorem tableFlip (c : Sys2Proof.Cmd) : Statement (.tableFlip c) := of_wfAs _ c 0x41 rfl rfl
theorem groupCancel (a : Sys2Proof.Acc) (g : Fin 16) : Statement (.groupCancel a g) := of_none _ rfl
theorem groupRevert (a : Sys2Proof.Acc) (g : Fin 16) : Statement (.groupRevert a g) := of_none _ rfl
theorem renCtrlWrite (a : Sys2Proof.Acc) (v : Sys2Proof.Word) : Statement (.renCtrlWrite a v) := of_none _ rfl
theorem renCommitFrozen (n : Fin 128) : Statement (.renCommitFrozen n) := of_none _ rfl
theorem renCommitMissed (n : Fin 128) : Statement (.renCommitMissed n) := of_none _ rfl
theorem renEngineStart (t : Nat) : Statement (.renEngineStart t) := of_none _ rfl
theorem renDramData (e : Fin 8) (st : Sys2Proof.DramStatus) (parityOk : Bool) (count : Nat) (t : Nat) : Statement (.renDramData e st parityOk count t) := of_none _ rfl
theorem resyncCopyDone (g : Fin 16) : Statement (.resyncCopyDone g) := of_none _ rfl
theorem renKatRun (e : Fin 8) (pass : Bool) : Statement (.renKatRun e pass) := of_none _ rfl
theorem presenceSample (p : Fin 48) (dp dm : Bool) : Statement (.presenceSample p dp dm) := of_none _ rfl
theorem portPower (c : Sys2Proof.Cmd) : Statement (.portPower c) := of_wfAs _ c 0x51 rfl rfl
theorem vbusPowerGood (p : Fin 48) : Statement (.vbusPowerGood p) := of_none _ rfl
theorem connectDetect (p : Fin 48) : Statement (.connectDetect p) := of_none _ rfl
theorem connectDebounceDone (p : Fin 48) : Statement (.connectDebounceDone p) := of_none _ rfl
theorem portResetDone (p : Fin 48) (speed : Sys2Proof.UsbSpeed) (attached : Bool) : Statement (.portResetDone p speed attached) := of_none _ rfl
theorem disconnectDetect (p : Fin 48) (sub : Fin 8) : Statement (.disconnectDetect p sub) := of_none _ rfl
theorem portReset (c : Sys2Proof.Cmd) : Statement (.portReset c) := of_wfAs _ c 0x52 rfl rfl
theorem prtReset (a : Sys2Proof.Acc) (p : Fin 48) : Statement (.prtReset a p) := of_none _ rfl
theorem prtSuspend (a : Sys2Proof.Acc) (p : Fin 48) : Statement (.prtSuspend a p) := of_none _ rfl
theorem prtResume (a : Sys2Proof.Acc) (p : Fin 48) : Statement (.prtResume a p) := of_none _ rfl
theorem prtDisable (a : Sys2Proof.Acc) (p : Fin 48) : Statement (.prtDisable a p) := of_none _ rfl
theorem resumeDone (p : Fin 48) (sub : Fin 8) : Statement (.resumeDone p sub) := of_none _ rfl
theorem deviceRemoteWake (p : Fin 48) : Statement (.deviceRemoteWake p) := of_none _ rfl
theorem babble (p : Fin 48) : Statement (.babble p) := of_none _ rfl
theorem portRole (c : Sys2Proof.Cmd) : Statement (.portRole c) := of_wfAs _ c 0x50 rfl rfl
theorem roleChangeComplete (p : Fin 48) : Statement (.roleChangeComplete p) := of_none _ rfl
theorem enumTransferDone (p : Fin 48) (sub : Fin 8) (r : Sys2Proof.EnumResult) (errs : Nat) : Statement (.enumTransferDone p sub r errs) := of_none _ rfl
theorem enumTransferTimeout (p : Fin 48) (sub : Fin 8) (errs : Nat) : Statement (.enumTransferTimeout p sub errs) := of_none _ rfl
theorem slotApply (a : Sys2Proof.Acc) (p : Fin 48) : Statement (.slotApply a p) := of_none _ rfl
theorem slotCopy (p : Fin 48) (t : Nat) : Statement (.slotCopy p t) := of_none _ rfl
theorem microframeStart (p : Fin 48) (upset : List (Fin 512)) (t : Nat) : Statement (.microframeStart p upset t) := of_none _ rfl
theorem playoutItemArrive (p : Fin 48) (item : List Sys2Proof.Byte) (parityOk : Bool) (t : Nat) : Statement (.playoutItemArrive p item parityOk t) := of_none _ rfl
theorem transactionComplete (p : Fin 48) (pipe : Fin 512) (res : Sys2Proof.TxResult) (t : Nat) : Statement (.transactionComplete p pipe res t) := of_none _ rfl
theorem playoutDeadlinePass (p : Fin 48) (t : Nat) : Statement (.playoutDeadlinePass p t) := of_none _ rfl
theorem quarantineEnd (p : Fin 48) (addr : Fin 128) : Statement (.quarantineEnd p addr) := of_none _ rfl
theorem portKatRun (p : Fin 48) (pass : Bool) : Statement (.portKatRun p pass) := of_none _ rfl
theorem playingTimeout (p : Fin 48) (t : Nat) : Statement (.playingTimeout p t) := of_none _ rfl
theorem xbarCellEnqueue (input : Fin 57) (cell : Sys2Proof.CellIn) (groupOk : Bool) : Statement (.xbarCellEnqueue input cell groupOk) := of_none _ rfl
theorem xbarCellDeliver (input output : Fin 57) (cls : Fin 4) (parityOk dstOk bufOk : Bool) : Statement (.xbarCellDeliver input output cls parityOk dstOk bufOk) := of_none _ rfl
theorem creditReturn (output : Fin 57) (pool : Fin 5) (n : Nat) : Statement (.creditReturn output pool n) := of_none _ rfl
theorem packetLockTimeout (output : Fin 57) (cls : Fin 4) : Statement (.packetLockTimeout output cls) := of_none _ rfl
theorem queueWordWrite (q : Fin 56) (w : Sys2Proof.Word) (last : Bool) (bytes : Fin 4) (bad : BitVec 4) : Statement (.queueWordWrite q w last bytes bad) := of_none _ rfl
theorem queDataRead (a : Sys2Proof.Acc) (q : Fin 56) : Statement (.queDataRead a q) := of_none _ rfl
theorem queueStale (q : Fin 56) : Statement (.queueStale q) := of_none _ rfl
theorem reportForward (p : Fin 48) : Statement (.reportForward p) := of_none _ rfl
theorem tapObserve (n : Fin 4) (pk : Sys2Proof.TapPkt) : Statement (.tapObserve n pk) := of_none _ rfl
theorem wtpEnable (a : Sys2Proof.Acc) (n : Fin 4) (v : Sys2Proof.Word) : Statement (.wtpEnable a n v) := of_none _ rfl
theorem dramRequestArrive (p : Sys2Proof.DramPk) : Statement (.dramRequestArrive p) := of_none _ rfl
theorem frontArbGrant (t : Nat) : Statement (.frontArbGrant t) := of_none _ rfl
theorem quotaWindowEnd  : Statement .quotaWindowEnd := of_none _ rfl
theorem bankScheduleStart (openRows : List (Nat × Nat)) (ready : List Nat) (t : Nat) : Statement (.bankScheduleStart openRows ready t) := of_none _ rfl
theorem dramRequestComplete (slot : Fin 4) (ecc : List Sys2Proof.EccRes) (track : List (Fin 10 × Bool)) (t : Nat) : Statement (.dramRequestComplete slot ecc track t) := of_none _ rfl
theorem arbHang (slot : Fin 4) (done : Fin 4) : Statement (.arbHang slot done) := of_none _ rfl
theorem refreshDue (rank : Fin 2) (rfm : Bool) : Statement (.refreshDue rank rfm) := of_none _ rfl
theorem retrainRound (rank : Fin 2) (moves : List (Fin 5 × Bool)) : Statement (.retrainRound rank moves) := of_none _ rfl
theorem tempEstimate (junction : Int) (devs : List Sys2Proof.DevTemp) : Statement (.tempEstimate junction devs) := of_none _ rfl
theorem dramAlert (rank : Fin 2) (burst : Nat) : Statement (.dramAlert rank burst) := of_none _ rfl
theorem patrolScrubRead (ecc : Sys2Proof.EccRes) (counts : List Sys2Proof.Word) (track : List (Fin 10 × Bool)) (t : Nat) : Statement (.patrolScrubRead ecc counts track t) := of_none _ rfl
theorem dmcEcsNow (a : Sys2Proof.Acc) (counts : List Sys2Proof.Word) : Statement (.dmcEcsNow a counts) := of_none _ rfl
theorem memEngineStart  : Statement .memEngineStart := of_none _ rfl
theorem eccInitDone  : Statement .eccInitDone := of_none _ rfl
theorem trainingSubstepDone (r : Sys2Proof.TrainRes) : Statement (.trainingSubstepDone r) := of_none _ rfl
theorem flashOpDone (fw : Bool) : Statement (.flashOpDone fw) := of_none _ rfl
theorem dpyInvalidate (a : Sys2Proof.Acc) : Statement (.dpyInvalidate a) := of_none _ rfl
theorem dpyMarkClear (a : Sys2Proof.Acc) : Statement (.dpyMarkClear a) := of_none _ rfl
theorem hubCtrlWrite (a : Sys2Proof.Acc) (v : Sys2Proof.Word) : Statement (.hubCtrlWrite a v) := of_none _ rfl
theorem vbusDetFall (cut : Sys2Proof.CtrlCut) : Statement (.vbusDetFall cut) := of_none _ rfl
theorem vbusDetStable  : Statement .vbusDetStable := of_none _ rfl
theorem upBusReset (highSpeed : Bool) (cut : Sys2Proof.CtrlCut) : Statement (.upBusReset highSpeed cut) := of_none _ rfl
theorem getHubStatus  : Statement .getHubStatus := of_none _ rfl
theorem clearHubFeature (overCurrent : Bool) : Statement (.clearHubFeature overCurrent) := of_none _ rfl
theorem getPortStatus (n : Fin 50) : Statement (.getPortStatus n) := of_none _ rfl
theorem setPortFeaturePower (n : Fin 50) : Statement (.setPortFeaturePower n) := of_none _ rfl
theorem setPortFeatureReset (n : Fin 50) (cut : Sys2Proof.CtrlCut) : Statement (.setPortFeatureReset n cut) := of_none _ rfl
theorem setPortFeatureSuspend (n : Fin 50) : Statement (.setPortFeatureSuspend n) := of_none _ rfl
theorem setPortFeatureTest (n : Fin 50) (sel : Fin 6) : Statement (.setPortFeatureTest n sel) := of_none _ rfl
theorem clearPortFeature (n : Fin 50) (f : Sys2Proof.PortFeature) : Statement (.clearPortFeature n f) := of_none _ rfl
theorem portIndicatorRequest  : Statement .portIndicatorRequest := of_none _ rfl
theorem getHubDescriptor (what : Sys2Proof.HubRead) : Statement (.getHubDescriptor what) := of_none _ rfl
theorem unsupportedHubRequest  : Statement .unsupportedHubRequest := of_none _ rfl
theorem clearTtBuffer (tt : Nat) (dev : Fin 128) (ep : Fin 16) (isIn : Bool) : Statement (.clearTtBuffer tt dev ep isIn) := of_none _ rfl
theorem resetTt (tt : Nat) : Statement (.resetTt tt) := of_none _ rfl
theorem setAddressObserved (addr : Fin 128) : Statement (.setAddressObserved addr) := of_none _ rfl
theorem setConfiguration (hub : Bool) (value : Nat) (iface : Bool) : Statement (.setConfiguration hub value iface) := of_none _ rfl
theorem clearFeatureEndpointHalt (ep : BitVec 8) : Statement (.clearFeatureEndpointHalt ep) := of_none _ rfl
theorem hsPacketRepeat (pk : Sys2Proof.UpPacket) : Statement (.hsPacketRepeat pk) := of_none _ rfl
theorem ttStartSplit (x : Sys2Proof.SplitTok) : Statement (.ttStartSplit x) := of_none _ rfl
theorem upIdleSuspend  : Statement .upIdleSuspend := of_none _ rfl
theorem hubRemoteWake (source : Fin 4) (hostK : Bool) : Statement (.hubRemoteWake source hostK) := of_none _ rfl
theorem hostResume (during : Bool) : Statement (.hostResume during) := of_none _ rfl
theorem lpmTransaction (hub : Bool) (linkState : BitVec 4) (rwake : Bool) : Statement (.lpmTransaction hub linkState rwake) := of_none _ rfl
theorem cmdOutRx (bytes : List Sys2Proof.Byte) (ping : Bool) (t : Nat) : Statement (.cmdOutRx bytes ping t) := of_none _ rfl
theorem replyInAck  : Statement .replyInAck := of_none _ rfl
theorem notifyReady  : Statement .notifyReady := of_none _ rfl
theorem notifyIn  : Statement .notifyIn := of_none _ rfl
theorem streamOutPacket (bytes : List Sys2Proof.Byte) (ping : Bool) : Statement (.streamOutPacket bytes ping) := of_none _ rfl
theorem streamInPacket (bufOk : Bool) : Statement (.streamInPacket bufOk) := of_none _ rfl
theorem getCmfInfo  : Statement .getCmfInfo := of_none _ rfl
theorem submit (bytes : List Sys2Proof.Byte) : Statement (.submit bytes) := of_none _ rfl
theorem cmfResync  : Statement .cmfResync := of_none _ rfl
theorem nop (c : Sys2Proof.Cmd) : Statement (.nop c) := of_wfAs _ c 0x00 rfl rfl
theorem echo (c : Sys2Proof.Cmd) : Statement (.echo c) := of_wfAs _ c 0x01 rfl rfl
theorem regRd (c : Sys2Proof.Cmd) : Statement (.regRd c) := of_wfAs _ c 0x10 rfl rfl
theorem regWr (c : Sys2Proof.Cmd) : Statement (.regWr c) := of_wfAs _ c 0x11 rfl rfl
theorem regRmw (c : Sys2Proof.Cmd) : Statement (.regRmw c) := of_wfAs _ c 0x12 rfl rfl
theorem regWrKeyed (c : Sys2Proof.Cmd) : Statement (.regWrKeyed c) := of_wfAs _ c 0x13 rfl rfl
theorem regRdBlock (c : Sys2Proof.Cmd) : Statement (.regRdBlock c) := of_wfAs _ c 0x14 rfl rfl
theorem memRd (c : Sys2Proof.Cmd) : Statement (.memRd c) := of_wfAs _ c 0x20 rfl rfl
theorem memWr (c : Sys2Proof.Cmd) : Statement (.memWr c) := of_wfAs _ c 0x21 rfl rfl
theorem memFill (c : Sys2Proof.Cmd) : Statement (.memFill c) := of_wfAs _ c 0x22 rfl rfl
theorem memCrc (c : Sys2Proof.Cmd) : Statement (.memCrc c) := of_wfAs _ c 0x23 rfl rfl
theorem memStreamSet (c : Sys2Proof.Cmd) : Statement (.memStreamSet c) := of_wfAs _ c 0x24 rfl rfl
theorem cmdDramReply (w : Sys2Proof.DramTo) (st : Sys2Proof.DramStatus) (data : List Sys2Proof.Byte) : Statement (.cmdDramReply w st data) := of_none _ rfl
theorem moduleList (c : Sys2Proof.Cmd) : Statement (.moduleList c) := of_wfAs _ c 0x53 rfl rfl
theorem lockAcquire (c : Sys2Proof.Cmd) : Statement (.lockAcquire c) := of_wfAs _ c 0x60 rfl rfl
theorem lockRelease (c : Sys2Proof.Cmd) : Statement (.lockRelease c) := of_wfAs _ c 0x61 rfl rfl
theorem cfgCommit (c : Sys2Proof.Cmd) : Statement (.cfgCommit c) := of_wfAs _ c 0x62 rfl rfl
theorem faultRead (c : Sys2Proof.Cmd) : Statement (.faultRead c) := of_wfAs _ c 0x70 rfl rfl
theorem faultAck (c : Sys2Proof.Cmd) : Statement (.faultAck c) := of_wfAs _ c 0x71 rfl rfl
theorem proofTest (c : Sys2Proof.Cmd) : Statement (.proofTest c) := of_wfAs _ c 0x72 rfl rfl
theorem proofTestEnd (outcome : Fin 8) (time : Nat) (hoops : Nat) (engines : List (Fin 8)) (ports : List (Fin 48)) : Statement (.proofTestEnd outcome time hoops engines ports) := of_none _ rfl
theorem domainSet (c : Sys2Proof.Cmd) (wake : BitVec 7) : Statement (.domainSet c wake) := of_wfAs _ c 0x80 rfl rfl
theorem domainStatus (c : Sys2Proof.Cmd) : Statement (.domainStatus c) := of_wfAs _ c 0x81 rfl rfl
theorem journalRead (c : Sys2Proof.Cmd) : Statement (.journalRead c) := of_wfAs _ c 0x90 rfl rfl
theorem fwWrite (c : Sys2Proof.Cmd) : Statement (.fwWrite c) := of_wfAs _ c 0xA0 rfl rfl
theorem fwActivate (c : Sys2Proof.Cmd) : Statement (.fwActivate c) := of_wfAs _ c 0xA1 rfl rfl
theorem abort (c : Sys2Proof.Cmd) : Statement (.abort c) := of_wfAs _ c 0xB0 rfl rfl
theorem chainDiscover (c : Sys2Proof.Cmd) : Statement (.chainDiscover c) := of_wfAs _ c 0xC0 rfl rfl
theorem timeStatus (c : Sys2Proof.Cmd) : Statement (.timeStatus c) := of_wfAs _ c 0xC1 rfl rfl
theorem commandPendingTimeout (c : Sys2Proof.Cmd) : Statement (.commandPendingTimeout c) := of_none _ rfl
theorem replyAtOrigin (r : Sys2Proof.ReplyPkt) : Statement (.replyAtOrigin r) := of_none _ rfl
theorem smbusBlockWrite (bytes : List Sys2Proof.Byte) (pecOk : Bool) : Statement (.smbusBlockWrite bytes pecOk) := of_none _ rfl
theorem smbusBlockRead (n : Nat) : Statement (.smbusBlockRead n) := of_none _ rfl
theorem smbusReadWord  : Statement .smbusReadWord := of_none _ rfl
theorem smbusSendByte  : Statement .smbusSendByte := of_none _ rfl
theorem smbusTimeout  : Statement .smbusTimeout := of_none _ rfl
theorem regWrite (a : Sys2Proof.Acc) (addr : BitVec 24) (v : Sys2Proof.Word) (be : BitVec 4) : Statement (.regWrite a addr v be) := of_none _ rfl
theorem regPairLoRead (a : Sys2Proof.Acc) (addr : BitVec 24) : Statement (.regPairLoRead a addr) := of_none _ rfl
theorem keyedStoreTimeout  : Statement .keyedStoreTimeout := of_none _ rfl
theorem regmodeExpiry  : Statement .regmodeExpiry := of_none _ rfl
theorem lockHoldTimeout (n : Fin 32) : Statement (.lockHoldTimeout n) := of_none _ rfl
theorem tallySweep  : Statement .tallySweep := of_none _ rfl
theorem tallyCommitTimeout (idx : Fin 64) : Statement (.tallyCommitTimeout idx) := of_none _ rfl
theorem chnCtrlWrite (a : Sys2Proof.Acc) (v : Sys2Proof.Word) : Statement (.chnCtrlWrite a v) := of_none _ rfl
theorem linkTrained (k : Fin 4) (nbrNode : Fin 32) (nbrPort : Fin 4) : Statement (.linkTrained k nbrNode nbrPort) := of_none _ rfl
theorem linkLoss (k : Fin 4) : Statement (.linkLoss k) := of_none _ rfl
theorem linkQuietEnd (k : Fin 4) : Statement (.linkQuietEnd k) := of_none _ rfl
theorem flitRx (k : Fin 4) (f : Sys2Proof.Flit) (t : Nat) : Statement (.flitRx k f t) := of_none _ rfl
theorem flitNakRx (k : Fin 4) (seq : BitVec 8) : Statement (.flitNakRx k seq) := of_none _ rfl
theorem chainPacketRx (k : Fin 4) (bufOk : Bool) : Statement (.chainPacketRx k bufOk) := of_none _ rfl
theorem syncSend (t : Nat) : Statement (.syncSend t) := of_none _ rfl
theorem syncRx (k : Fin 4) (ts : Nat) (offset : BitVec 16) (t : Nat) : Statement (.syncRx k ts offset t) := of_none _ rfl
theorem delayReqSend (t : Nat) (half : Bool) : Statement (.delayReqSend t half) := of_none _ rfl
theorem delayReqRx (k : Fin 4) (t2 t3 : Nat) : Statement (.delayReqRx k t2 t3) := of_none _ rfl
theorem delayRespRx (k : Fin 4) (t2 t3 t4 : Nat) : Statement (.delayRespRx k t2 t3 t4) := of_none _ rfl
theorem syncAgeExpiry (t : Nat) : Statement (.syncAgeExpiry t) := of_none _ rfl
theorem alertRx (k : Fin 4) (node : Fin 32) (source : BitVec 8) : Statement (.alertRx k node source) := of_none _ rfl
theorem proofAlertAckRx (node : Fin 32) : Statement (.proofAlertAckRx node) := of_none _ rfl
theorem chanResetRx (k : Fin 4) (node : Fin 32) (chan : Fin 3) : Statement (.chanResetRx k node chan) := of_none _ rfl
theorem probeRx (k : Fin 4) (root : BitVec 64) (run : BitVec 8) : Statement (.probeRx k root run) := of_none _ rfl
theorem reportRx (x : Sys2Proof.DiscMsg) : Statement (.reportRx x) := of_none _ rfl
theorem topologyRx (x : Option Sys2Proof.TopoMsg) : Statement (.topologyRx x) := of_none _ rfl
theorem activateRx  : Statement .activateRx := of_none _ rfl
theorem discoveryTimeout  : Statement .discoveryTimeout := of_none _ rfl
theorem linkDownRx  : Statement .linkDownRx := of_none _ rfl
theorem routeTimeout  : Statement .routeTimeout := of_none _ rfl
theorem hoopOn (a : Sys2Proof.Acc) (k : Fin 12) : Statement (.hoopOn a k) := of_none _ rfl
theorem hoopOff (a : Sys2Proof.Acc) (k : Fin 12) : Statement (.hoopOff a k) := of_none _ rfl
theorem hoopInrushDone (k : Fin 12) : Statement (.hoopInrushDone k) := of_none _ rfl
theorem hoopInrushTimeout (k : Fin 12) : Statement (.hoopInrushTimeout k) := of_none _ rfl
theorem hoopPowerGood (k : Fin 12) : Statement (.hoopPowerGood k) := of_none _ rfl
theorem switchLimitEngage (w : Sys2Proof.Switch) : Statement (.switchLimitEngage w) := of_none _ rfl
theorem switchLimitClean (w : Sys2Proof.Switch) : Statement (.switchLimitClean w) := of_none _ rfl
theorem faultTimerExpiry (w : Sys2Proof.Switch) : Statement (.faultTimerExpiry w) := of_none _ rfl
theorem vbusThermalTrip (p : Fin 48) : Statement (.vbusThermalTrip p) := of_none _ rfl
theorem vinUvTrip (k : Fin 12) : Statement (.vinUvTrip k) := of_none _ rfl
theorem supplyFault (n : Fin 16) (high : Bool) : Statement (.supplyFault n high) := of_none _ rfl
theorem supplyRecover (n : Fin 16) : Statement (.supplyRecover n) := of_none _ rfl
theorem holdoffEnd (w : Sys2Proof.Switch) : Statement (.holdoffEnd w) := of_none _ rfl
theorem safeStopAssert  : Statement .safeStopAssert := of_none _ rfl
theorem safeStopRelease  : Statement .safeStopRelease := of_none _ rfl
theorem domainDrainDone (d : Fin 19) (ok : Bool) : Statement (.domainDrainDone d ok) := of_none _ rfl
theorem domainEntryTimeout (d : Fin 19) : Statement (.domainEntryTimeout d) := of_none _ rfl
theorem domainExitDone (d : Fin 19) (temp : Int) : Statement (.domainExitDone d temp) := of_none _ rfl
theorem domainWakeSource (d : Fin 19) (src : Fin 8) : Statement (.domainWakeSource d src) := of_none _ rfl
theorem islandIdleEntry (d : Fin 15) (i : Fin 4) : Statement (.islandIdleEntry d i) := of_none _ rfl
theorem islandSleepEntry (d : Fin 15) (i : Fin 4) : Statement (.islandSleepEntry d i) := of_none _ rfl
theorem islandWordArrive (d : Fin 15) (i : Fin 4) : Statement (.islandWordArrive d i) := of_none _ rfl
theorem vcoreAssistChange (mv : Nat) : Statement (.vcoreAssistChange mv) := of_none _ rfl
theorem coreWakeEvent (waken : Bool) : Statement (.coreWakeEvent waken) := of_none _ rfl
theorem faultRaise (source : BitVec 8) (detail : BitVec 16) : Statement (.faultRaise source detail) := of_none _ rfl
theorem graceTimerExpiry (g : Fin 8) : Statement (.graceTimerExpiry g) := of_none _ rfl
theorem fltHandled (a : Sys2Proof.Acc) (v : Sys2Proof.Word) : Statement (.fltHandled a v) := of_none _ rfl
theorem fltAckWrite (a : Sys2Proof.Acc) (v : Sys2Proof.Word) : Statement (.fltAckWrite a v) := of_none _ rfl
theorem fltRelease (a : Sys2Proof.Acc) : Statement (.fltRelease a) := of_none _ rfl
theorem collectorMismatch  : Statement .collectorMismatch := of_none _ rfl
theorem aliveToggle  : Statement .aliveToggle := of_none _ rfl
theorem fltInj (a : Sys2Proof.Acc) (v : Sys2Proof.Word) : Statement (.fltInj a v) := of_none _ rfl
theorem factoryToken (token : List Sys2Proof.Byte) (inTime : Bool) : Statement (.factoryToken token inTime) := of_none _ rfl
theorem powerOnReset (straps : BitVec 4) : Statement (.powerOnReset straps) := of_none _ rfl
theorem coldReset (straps : BitVec 4) (lowNs : Nat) : Statement (.coldReset straps lowNs) := of_none _ rfl
theorem jnlResetWarm (a : Sys2Proof.Acc) (confirm : BitVec 8) : Statement (.jnlResetWarm a confirm) := of_none _ rfl
theorem jnlResetWarmRetain (a : Sys2Proof.Acc) (confirm : BitVec 8) : Statement (.jnlResetWarmRetain a confirm) := of_none _ rfl
theorem watchdogExpiry  : Statement .watchdogExpiry := of_none _ rfl
theorem watchdogKick (a : Sys2Proof.Acc) : Statement (.watchdogKick a) := of_none _ rfl
theorem bootStepComplete (r : Sys2Proof.BootRes) : Statement (.bootStepComplete r) := of_none _ rfl
theorem alertNEnd (rank : Fin 2) : Statement (.alertNEnd rank) := of_none _ rfl
theorem processorFault  : Statement .processorFault := of_none _ rfl
theorem debugPortAccess (rank : Fin 2) (on : Bool) : Statement (.debugPortAccess rank on) := of_none _ rfl
theorem refreshComplete (rank : Fin 2) : Statement (.refreshComplete rank) := of_none _ rfl
theorem setFeatureDeviceRemoteWakeup (hub : Bool) (on : Bool) : Statement (.setFeatureDeviceRemoteWakeup hub on) := of_none _ rfl
theorem setAddress (hub : Bool) (addr : Fin 128) : Statement (.setAddress hub addr) := of_none _ rfl

end Sys2Proof.Laws.WellFormed
end

