-- ==== Sys2Proof/Laws/Ports.lean ====
section
/-! SUPPORT. What entering a state writes: the port's own status register and, on a hub-mode port, the steering table. -/

namespace Sys2Proof.Machine
open Reg

@[simp] theorem Mach.setPort_rg (m : Mach) (p : Nat) (x : Port) (a : Nat) : (m.setPort p x).rg a = m.rg a := Mach.rg_of_regs rfl a
@[simp] theorem Mach.portChange_rg (m : Mach) (p bit a : Nat) : (m.portChange p bit).rg a = m.rg a := Mach.setPort_rg _ _ _ _

@[simp] theorem Mach.setPort_port (m : Mach) (p : Nat) (x : Port) : (m.setPort p x).port p = x := by
  simp only [Mach.setPort, Mach.port]; rw [spGet_spSet_same]
@[simp] theorem Mach.inc_port (m : Mach) (a : Nat) (f : Fd) (k p : Nat) : (m.inc a f k).port p = m.port p := by
  simp only [Mach.port, Mach.inc_prt]

/-- Dropping a port's steering entries writes the steering table alone (R352). -/
theorem Mach.dropSteer_rg (m : Mach) (p : Nat) {a : Nat} (h : a < 0x2B0000) : (m.dropSteer p).rg a = m.rg a := by
  suffices ∀ (l : List Nat) (m : Mach),
      (forEach l (fun i m => if m.rg (steerAddr i) == BitVec.ofNat 32 (2 ^ 31 + p) then m.wr (steerAddr i) 0 else m) m).rg a = m.rg a from this _ m
  intro l
  induction l with
  | nil => intro m; rfl
  | cons i l ih =>
    intro m
    have n : a ≠ steerAddr i := by simp only [steerAddr]; omega
    refine (ih _).trans ?_
    dsimp only
    split
    · exact Mach.rg_wr_ne m 0 n
    · rfl

/-- Entering a state writes the port's PRT_STAT and the steering table alone (R127, R128, R352). -/
theorem Mach.setPst_rg (m : Mach) (p new : Nat) {a : Nat} (hp : a ≠ PRT_STAT p) (hs : a < 0x2B0000) : (m.setPst p new).rg a = m.rg a := by
  have fs : ∀ (m : Mach) (f : Fd) (v : Nat), (m.fs (PRT_STAT p) f v).rg a = m.rg a := fun m f v => by rw [Mach.rg_fs, if_neg hp]
  have c : ∀ (b : Bool) (x y : Mach), x.rg a = m.rg a → y.rg a = m.rg a → (if b then x else y).rg a = m.rg a := by
    intro b x y h k; cases b <;> assumption
  have d : ∀ (b : Prop) [Decidable b] (x y : Mach), x.rg a = m.rg a → y.rg a = m.rg a → (if b then x else y).rg a = m.rg a := by
    intro b _ x y h k; split <;> assumption
  unfold Mach.setPst
  refine c _ _ _ rfl ?_
  extract_lets w m1 m2 x m3 m4 m5 h1 h2 h3 h4
  have e1 : m1.rg a = m.rg a := fs _ _ _
  have e2 : m2.rg a = m.rg a := c _ _ _ e1 ((fs _ _ _).trans e1)
  have e3 : m3.rg a = m.rg a := c _ _ _ ((Mach.setPort_rg _ _ _ _).trans e2) e2
  have e4 : m4.rg a = m.rg a := d _ _ _ ((fs _ _ _).trans e3) e3
  have e5 : m5.rg a = m.rg a := d _ _ _ ((fs _ _ _).trans e4) e4
  have f1 : h1.rg a = m.rg a := d _ _ _ ((Mach.portChange_rg _ _ _ _).trans e5) e5
  have f2 : h2.rg a = m.rg a := c _ _ _ ((Mach.portChange_rg _ _ _ _).trans f1) f1
  have f3 : h3.rg a = m.rg a := c _ _ _ ((Mach.portChange_rg _ _ _ _).trans f2) f2
  have f4 : h4.rg a = m.rg a := c _ _ _ ((Mach.portChange_rg _ _ _ _).trans f3) f3
  exact c _ _ _ (c _ _ _ ((Mach.dropSteer_rg _ _ hs).trans f4) f4) e5

/-- A port's role outlives a change of its state. -/
theorem Mach.setPst_isDel (m : Mach) (p : Fin 48) (new : Nat) : (m.setPst p new).isDel p = m.isDel p := by
  have h : PRT_ROLE p ≠ PRT_STAT p := by simp only [PRT_ROLE, PRT_STAT]; omega
  have k : PRT_ROLE p < 0x2B0000 := by simp only [PRT_ROLE]; omega
  simp only [Mach.isDel, Mach.role, Mach.fg_eq, Mach.setPst_rg m p new h k]

end Sys2Proof.Machine
end

