-- ==== Sys2Proof/Laws/Sites.lean ====
section
/-! SUPPORT. Laws of register accesses that are rows of their own: what each address names, and what a write or a read that
reaches its register answers. -/

namespace Sys2Proof.Machine
open Reg

/-- What an address names, whether Tally checks it and its guard group. -/
def siteInfo (a : Nat) : Option (RegSite × Bool × Option Nat) :=
  match siteOf a, regRow a with
  | some x, some r => some (x, r.config, r.guard)
  | _, _ => none

theorem siteOf_of_info {a : Nat} {x : RegSite} {b : Bool} {g : Option Nat} (h : siteInfo a = some (x, b, g)) : siteOf a = some x := by
  unfold siteInfo at h; split at h <;> simp_all

theorem guard_of_info {a : Nat} {x : RegSite} {b : Bool} {g : Option Nat} (h : siteInfo a = some (x, b, g)) :
    (regRow a).bind (·.guard) = g := by
  unfold siteInfo at h; split at h <;> simp_all

theorem Mach.siteAt_of_info {m : Mach} {a : Nat} {x : RegSite} {b : Bool} {g : Option Nat} (h : siteInfo a = some (x, b, g)) (ha : a ≠ FLT_INJ) :
    m.siteAt a = some x := by
  rw [Mach.siteAt, if_neg (fun hh => ha hh.1)]; exact siteOf_of_info h

theorem Mach.markConfig_plain {m : Mach} {a : Nat} {x : RegSite} {g : Option Nat} (h : siteInfo a = some (x, false, g)) : m.markConfig a = m := by
  unfold Mach.markConfig
  unfold siteInfo at h
  split <;> (try rfl)
  rename_i r i hr ht
  split at h <;> simp_all

theorem Mach.markConfig_config {m : Mach} {a i : Nat} {x : RegSite} {g : Option Nat} (h : siteInfo a = some (x, true, g)) (hi : tallyIdx a = some i) :
    m.markConfig a = m.setUncom i true := by
  unfold Mach.markConfig
  unfold siteInfo at h
  split at h <;> simp_all

/-! ### What a write and a read that reach their register come to -/

/-- Over a link that is not asked, an access acts on the machine as it is. -/
theorem Mach.overLink_plain {m : Mach} {a : Nat} (h : isPdi a = false) (v : Option Word) (f : Mach → Nat × Word × Mach) : m.overLink a v f = f m := by
  rw [Mach.overLink, h]; rfl

theorem Mach.pdiWaits_plain {m : Mach} {a : Nat} (h : isPdi a = false) (ch : Nat) (d : Bool) (w : Option Nat) : m.pdiWaits ch d a w = false := by
  rw [Mach.pdiWaits, h]; rfl

theorem Mach.pdiWaits_quiet {m : Mach} (h : m.dl.quiet = true) (ch a : Nat) (d : Bool) (w : Option Nat) : m.pdiWaits ch d a w = false := by
  rw [Mach.pdiWaits, h]; simp

/-- An access that its checks refuse does not wait for the die link. -/
theorem Mach.pdiWaits_refused {m : Mach} {ch a : Nat} {d : Bool} {w : Option Nat} {r : Nat × Mach} (h : m.accessGate ch d a w = some r) :
    m.pdiWaits ch d a w = false := by
  rw [Mach.pdiWaits, h]; simp

/-- A write that reaches an unguarded register and does not wait for the die link: the register port's write, answered. -/
theorem put_eq {s : State} {a : Acc} {addr : Nat} {v : Word} {more : Mach → Mach}
    (h : Reaches s a addr true) (hg : (regRow addr).bind (·.guard) = none) (hw : s.m.pdiWaits a.ch.val a.direct addr (some 15) = false) :
    s.put a addr v 15 more =
      s.regEnd addr v ((s.m.regWrite s.guard.toNat a.ch.val a.direct none addr v 15).1,
        if (s.m.regWrite s.guard.toNat a.ch.val a.direct none addr v 15).1 = 0 then more (s.m.regWrite s.guard.toNat a.ch.val a.direct none addr v 15).2
        else (s.m.regWrite s.guard.toNat a.ch.val a.direct none addr v 15).2)
        (fun m => m.answer a (s.m.regWrite s.guard.toNat a.ch.val a.direct none addr v 15).1 0) := by
  obtain ⟨h1, h2, h3, h4⟩ := h
  have hst : s.m.store s.guard.toNat a addr v 15 = { addr := addr, value := v, after := s.m } := by
    rw [Mach.store, h2, if_neg (by simp)]
    rcases hd : a.direct
    · rfl
    · rw [if_pos rfl, Mach.directStore, h4 hd]
      simp only [Mach.ownStore, Mach.holdsStore, hg, Bool.and_false]
      rfl
  rw [State.put, h1, if_neg (by simp)]
  dsimp only
  rw [hst]
  dsimp only
  rw [hw, if_neg (by simp)]
  simp [stOk]

/-- A write to PDI_ over a link that carries something already joins it (R11). -/
theorem put_waits {s : State} {a : Acc} {addr : Nat} {v : Word} {more : Mach → Mach}
    (h : Reaches s a addr true) (hg : (regRow addr).bind (·.guard) = none) (hw : s.m.pdiWaits a.ch.val a.direct addr (some 15) = true) :
    s.put a addr v 15 more = .next { s with m := s.m.pdiSend (.own a) [{ addr := addr, write := some v }] } := by
  obtain ⟨h1, h2, h3, h4⟩ := h
  have hst : s.m.store s.guard.toNat a addr v 15 = { addr := addr, value := v, after := s.m } := by
    rw [Mach.store, h2, if_neg (by simp)]
    rcases hd : a.direct
    · rfl
    · rw [if_pos rfl, Mach.directStore, h4 hd]
      simp only [Mach.ownStore, Mach.holdsStore, hg, Bool.and_false]
      rfl
  rw [State.put, h1, if_neg (by simp)]
  dsimp only
  rw [hst]
  dsimp only
  rw [hw, if_pos rfl]

/-- A register-port write whose checks 1 to 3 pass and whose block accepts it, off the die link. -/
theorem Mach.regWrite_accepts {m n : Mach} {g ch : Nat} {d : Bool} {addr : Nat} {v : Word} {site : RegSite} {st : Nat}
    (h : m.accessGate ch d addr (some 15) = none) (hp : isPdi addr = false) (hs : m.siteAt addr = some site)
    (hg : (regRow addr).bind (·.guard) = none) (hb : m.blockRule (d || ch == 2) v site = none) (he : m.writeEffect addr v 15 site = (st, n)) :
    m.regWrite g ch d none addr v 15 = (st, if st = stOk then n.markConfig addr else n) := by
  rw [Mach.regWrite, h]
  simp only [Mach.overLink_plain hp, Mach.writeWord, hs, Mach.guardCheck, hg, hb, he]

/-- A register-port write that its block refuses, off the die link. -/
theorem Mach.regWrite_refuses {m : Mach} {g ch : Nat} {d : Bool} {addr : Nat} {v : Word} {site : RegSite} {st : Nat}
    (h : m.accessGate ch d addr (some 15) = none) (hp : isPdi addr = false) (hs : m.siteAt addr = some site)
    (hg : (regRow addr).bind (·.guard) = none) (hb : m.blockRule (d || ch == 2) v site = some st) :
    m.regWrite g ch d none addr v 15 = (st, m) := by
  rw [Mach.regWrite, h]
  simp only [Mach.overLink_plain hp, Mach.writeWord, hs, Mach.guardCheck, hg, hb]

/-- The end of a write that neither resets the chip nor locks. -/
theorem State.regEnd_plain {s : State} {addr : Nat} {v : Word} {st : Nat} {n : Mach} {f : Mach → Mach} (hr : st ≠ 0x100)
    (hj : addr ≠ JNL_RESET ∨ st ≠ 0) (hl : addr ≠ GLB_GUARD ∨ st ≠ 0) : s.regEnd addr v (st, n) f = .next { s with m := f n } := by
  have hg : guardAfter s.guard st addr v = s.guard := by
    rw [guardAfter, if_neg]; rintro ⟨h0, h⟩; exact hl.elim (· h) (· h0)
  unfold State.regEnd
  dsimp only
  rw [if_neg (show st ≠ stReserved from hr), if_neg, hg]
  rintro ⟨h0, h, -⟩; exact hj.elim (· h) (· h0)

/-- A write that reaches an unguarded register whose block accepts it. -/
theorem put_of_reaches {s : State} {a : Acc} {addr : Nat} {v : Word} {more : Mach → Mach} {site : RegSite} {n : Mach}
    (h : Reaches s a addr true) (hp : isPdi addr = false) (hs : s.m.siteAt addr = some site) (hg : (regRow addr).bind (·.guard) = none)
    (hb : s.m.blockRule (a.direct || a.ch.val == 2) v site = none) (he : s.m.writeEffect addr v 15 site = (0, n))
    (hj : addr ≠ JNL_RESET) (hl : addr ≠ GLB_GUARD) :
    s.put a addr v 15 more = .next { s with m := (more (n.markConfig addr)).answer a 0 0 } := by
  rw [put_eq h hg (Mach.pdiWaits_plain hp _ _ _), Mach.regWrite_accepts (h.2.2.1) hp hs hg hb he]
  simp only [stOk, if_true]
  exact State.regEnd_plain (by decide) (Or.inl hj) (Or.inl hl)

/-- A write that reaches an unguarded register whose block refuses it. -/
theorem put_refused {s : State} {a : Acc} {addr : Nat} {v : Word} {more : Mach → Mach} {site : RegSite} {st : Nat}
    (h : Reaches s a addr true) (hp : isPdi addr = false) (hs : s.m.siteAt addr = some site) (hg : (regRow addr).bind (·.guard) = none)
    (hb : s.m.blockRule (a.direct || a.ch.val == 2) v site = some st) (h0 : st ≠ 0) (hr : st ≠ 0x100) :
    s.put a addr v 15 more = .next { s with m := s.m.answer a st 0 } := by
  rw [put_eq h hg (Mach.pdiWaits_plain hp _ _ _), Mach.regWrite_refuses (h.2.2.1) hp hs hg hb]
  simp only [if_neg h0]
  exact State.regEnd_plain hr (Or.inr h0) (Or.inr h0)

/-- A write whose effect ends with a status other than OK. -/
theorem put_status {s : State} {a : Acc} {addr : Nat} {v : Word} {more : Mach → Mach} {site : RegSite} {st : Nat} {n : Mach}
    (h : Reaches s a addr true) (hp : isPdi addr = false) (hs : s.m.siteAt addr = some site) (hg : (regRow addr).bind (·.guard) = none)
    (hb : s.m.blockRule (a.direct || a.ch.val == 2) v site = none) (he : s.m.writeEffect addr v 15 site = (st, n))
    (h0 : st ≠ 0) (hr : st ≠ 0x100) :
    s.put a addr v 15 more = .next { s with m := n.answer a st 0 } := by
  rw [put_eq h hg (Mach.pdiWaits_plain hp _ _ _), Mach.regWrite_accepts (h.2.2.1) hp hs hg hb he]
  dsimp only
  rw [if_neg h0, if_neg (show st ≠ stOk from h0)]
  exact State.regEnd_plain hr (Or.inr h0) (Or.inr h0)

/-- An accepted write of JNL_RESET answers and then resets (R579), but while a reset is in progress. -/
theorem put_reset {s : State} {a : Acc} {v : Word} (h : Reaches s a JNL_RESET true) (hr : s.m.boot.retaining = false)
    (hv : v.toNat / 256 % 256 = 0xC3) (hk : v.toNat % 4 = 1 ∨ v.toNat % 4 = 2) :
    s.put a JNL_RESET v 15 = .next (if v.toNat % 4 = 2 then ({ s with m := s.m.answer a 0 0 } : State).warmRetain true
      else ({ s with m := s.m.answer a 0 0 } : State).chipReset rsWarm 0 true) := by
  have hi : siteInfo JNL_RESET = some (.jnlReset, false, none) := by decide
  rw [put_eq h (guard_of_info hi) (Mach.pdiWaits_plain (by decide) _ _ _),
    Mach.regWrite_accepts (h.2.2.1) (by decide) (Mach.siteAt_of_info hi (by decide)) (guard_of_info hi) (by simp [Mach.blockRule, hv, hk]) rfl]
  have hl : guardAfter s.guard 0 JNL_RESET v = s.guard := by rw [guardAfter, if_neg]; rintro ⟨-, h⟩; exact absurd h (by decide)
  simp only [stOk, if_true, Mach.markConfig_plain hi]
  unfold State.regEnd
  dsimp only
  rw [if_neg (by decide), if_pos ⟨rfl, rfl, hr⟩, hl]
  rfl

/-- A write to a PDI_ register over a quiet die link (R8, R11): it takes effect between its REG_REQ and its REG_RSP. -/
theorem put_pdi {s : State} {a : Acc} {addr : Nat} {v : Word} {site : RegSite} {st : Nat} {n : Mach}
    (h : Reaches s a addr true) (hp : isPdi addr = true) (hq : s.m.dl.quiet = true) (hf : addr ≠ FLT_INJ) (hs : siteOf addr = some site)
    (hg : (regRow addr).bind (·.guard) = none)
    (hb : (s.m.dlPass .core 0x1 1 (regReqData addr (some v))).blockRule (a.direct || a.ch.val == 2) v site = none)
    (he : (s.m.dlPass .core 0x1 1 (regReqData addr (some v))).writeEffect addr v 15 site = (st, n)) (hr : st ≠ 0x100)
    (hj : addr ≠ JNL_RESET) (hl : addr ≠ GLB_GUARD) :
    s.put a addr v 15 = .next { s with m := ((if st = 0 then n.markConfig addr else n).dlPass .power 0x2 0 (regRspData st 0)).answer a st 0 } := by
  have hw : s.m.regWrite s.guard.toNat a.ch.val a.direct none addr v 15 =
      (st, (if st = 0 then n.markConfig addr else n).dlPass .power 0x2 0 (regRspData st 0)) := by
    have h3 := h.2.2.1
    simp only [if_true] at h3
    have hs' : (s.m.dlPass .core 0x1 1 (regReqData addr (some v))).siteAt addr = some site := by
      rw [Mach.siteAt, if_neg (fun hh => hf hh.1)]; exact hs
    rw [Mach.regWrite, h3]
    simp only [Mach.overLink, hp, hq, Bool.and_self, if_true, Option.isSome_some, b2n, Mach.writeWord, hs', Mach.guardCheck, hg, hb, he]
    rfl
  rw [put_eq h hg (Mach.pdiWaits_quiet hq _ _ _ _), hw]
  dsimp only [id]
  rw [ite_self]
  exact State.regEnd_plain hr (Or.inl hj) (Or.inl hl)

/-- A read that reaches its register, off the die link. -/
theorem get_of_reaches {s : State} {a : Acc} {addr : Nat} {st : Nat} {v : Word} {n : Mach}
    (h : Reaches s a addr false) (hp : isPdi addr = false) (he : s.m.readWord s.guard.toNat a.ch.val addr = (st, v, n)) :
    s.get a addr = .next { s with m := n.answer a st v.toNat } := by
  obtain ⟨h1, h2, h3, h4⟩ := h
  have hm : (if a.direct = true then s.m.dropKeyed else s.m) = s.m := by
    split
    · rename_i hd; rw [Mach.dropKeyed, h4 hd]
    · rfl
  rw [State.get, h1, h2, if_neg (by simp), if_neg (by simp), Mach.pdiWaits_plain hp, if_neg (by simp)]
  dsimp only
  rw [hm, Mach.regRead]
  simp only [Bool.false_eq_true, if_false] at h3
  simp only [h3, Mach.overLink_plain hp, he]

/-! ### The rows' addresses -/

theorem info_prtCtrl : ∀ p : Fin 48, siteInfo (PRT_CTRL p) = some (.prtCtrl p, false, none) := by decide
theorem info_slotCtrl : ∀ p : Fin 48, siteInfo (PRT_SLOT_CTRL p) = some (.slotCtrl p, false, none) := by decide
theorem info_grpCtrl : ∀ g : Fin 16, siteInfo (REN_GRP_CTRL g) = some (.grpCtrl g, false, none) := by decide
theorem info_renCtrl : siteInfo REN_CTRL = some (.renCtrl, true, none) := by decide
theorem info_tapCfg : ∀ n : Fin 4, siteInfo (WTP_T_CFG n) = some (.tapCfg n, true, none) := by decide
theorem info_dramScrub : siteInfo DMC_SCRUB = some (.dramScrub, true, none) := by decide
theorem info_phyCtrl : siteInfo DPY_CTRL = some (.phyCtrl, true, none) := by decide
theorem info_hubCtrl : siteInfo HUB_CTRL = some (.hubCtrl, false, none) := by decide
theorem info_hoopCtrl : ∀ k : Fin 12, siteInfo (PDI_HOOP_CTRL k) = some (.hoopCtrl k, false, none) := by decide
theorem info_fltHandled : siteInfo FLT_HANDLED = some (.fltHandled, false, none) := by decide
theorem info_fltAck : siteInfo FLT_ACK = some (.fltAck, false, none) := by decide
theorem info_fltCtrl : siteInfo FLT_CTRL = some (.fltCtrl, false, none) := by decide
theorem info_fltInj : siteInfo FLT_INJ = some (.fltInj, false, none) := by decide
theorem info_chnCtrl : siteInfo CHN_CTRL = some (.chnCtrl, true, none) := by decide
theorem info_jnlReset : siteInfo JNL_RESET = some (.jnlReset, false, none) := by decide
theorem info_jnlWdog : siteInfo JNL_WDOG = some (.jnlWdog, true, none) := by decide
theorem info_queData : ∀ q : Fin 56, siteInfo (QUE_Q_DATA q) = some (.queData q, false, none) := by decide

end Sys2Proof.Machine
end

