-- ==== Sys2Proof/Tests/Slice0.lean ====
section
/-! SUPPORT. Small tests: the well-formedness checks refuse ill-formed terms, each statement's hypotheses are met by a
concrete state, and single steps give the values that the spec's rules name. -/

namespace Sys2Proof.Tests
open Sys2Proof.Machine Sys2Proof.Machine.Reg

set_option Elab.async false

/-- The reset state with its machine part changed. -/
def mk (f : Mach → Mach) : State := { State.reset with m := f State.reset.m }

/-- A command packet from channel 0 of this hub to itself. -/
def pkt (op : BitVec 8) (params : BitVec 64 := 0) (payload : List Byte := []) : Cmd :=
  ⟨0, 0, 0, op, 0, 0, false, 0xFFF#16, params, payload, true⟩

/-- Header bytes 8 and 9, the two halves of bytes 8-9 as one number, and bytes 12-15. -/
def par (b8 b9 : Nat) (b12 : Nat := 0) : BitVec 64 := BitVec.ofNat 64 (b8 + 256 * b9 + 2 ^ 32 * b12)

/-- An access of channel 0, not the processor's own. -/
def port0 : Acc := ⟨0, false⟩

/-- `Reaches` as a test. -/
def canReach (s : State) (a : Acc) (addr : Nat) (wr : Bool) : Bool :=
  !s.m.coreDead && !s.m.accBarred a addr && (s.m.accessGate a.ch.val a.direct addr (if wr then some 15 else none)).isNone
    && (!a.direct || s.m.cmd.keyed.isNone)

theorem reaches_of_canReach {s : State} {a : Acc} {addr : Nat} {wr : Bool} (h : canReach s a addr wr = true) : Reaches s a addr wr := by
  simp only [canReach, Bool.and_eq_true, Bool.not_eq_true', Option.isNone_iff_eq_none, Bool.or_eq_true] at h
  obtain ⟨⟨⟨h1, h2⟩, h3⟩, h4⟩ := h
  exact ⟨h1, h2, h3, fun hd => by rcases h4 with h4 | h4 <;> simp_all⟩

/-- A step that answers a next state with a property. -/
def gives (o : Host.Outcome State Fault Refusal) (p : State → Bool) : Bool :=
  match o with
  | .next t => p t
  | _ => false

/-- A step that stops with a fault. -/
def stops (o : Host.Outcome State Fault Refusal) (f : Fault) : Bool :=
  match o with
  | .fault g => f == g
  | _ => false

/-! ### Ill-formed terms are refused -/

theorem test_wf_opcode : (Instr.nop (pkt 0x01)).wf = false := by decide +kernel
theorem test_wf_payload : (Instr.echo (pkt 0x01 0 (List.replicate 1025 0))).wf = false := by decide +kernel
theorem test_wf_channel : (Instr.nop { pkt 0 with chan := 3#4 }).wf = false := by decide +kernel
theorem test_wf_dielink_length : (Instr.dielinkPacketRx .core ⟨1, 0, 2, 0, [], true⟩).wf = false := by decide +kernel
theorem test_wf_dielink_transfers :
    (Instr.dielinkPacketRx .core ⟨1, 0, 10, 0, List.replicate 9 0, true⟩).wf = false := by decide +kernel
theorem test_wf_item : (Instr.playoutItemArrive 0 (List.replicate 28 0) true 0).wf = false := by decide +kernel
theorem test_wf_cell_data :
    (Instr.xbarCellEnqueue 0 ⟨0, 0, true, true, 1, false, true, 0, 0, 0, false, 0, false, List.replicate 65 0⟩ true).wf = false := by
  decide +kernel
theorem test_wf_queue_word : (Instr.queueWordWrite 0 0 false 1 0).wf = false := by decide +kernel
theorem test_wf_tap :
    (Instr.tapObserve 0 ⟨0, 0, 0, 0, false, false, 0, true, 0, 0, 0, false, []⟩).wf = false := by decide +kernel
theorem test_wf_dram_header : (Instr.dramRequestArrive ⟨55, 0, true, 0, List.replicate 15 0, [], none, true⟩).wf = false := by decide +kernel
theorem test_wf_dram_source : (Instr.dramRequestArrive ⟨53, 0, true, 0, List.replicate 16 0, [], none, true⟩).wf = false := by decide +kernel
theorem test_wf_dram_data :
    (Instr.dramRequestArrive ⟨55, 0, true, 0, List.replicate 16 0, List.replicate 1985 0, none, true⟩).wf = false := by decide +kernel
theorem test_wf_report : (Instr.reportRx (.report ⟨0, 1, []⟩)).wf = false := by decide +kernel
theorem test_wf_flit : (Instr.flitRx 0 ⟨1, 0, true, 1, 0, 0, 0, 0, true, []⟩ 0).wf = false := by decide +kernel
theorem test_wf_supply : (Instr.supplyFault 9 true).wf = false ∧ (Instr.supplyRecover 9).wf = false := by decide +kernel
theorem test_wf_island : (Instr.islandIdleEntry 5 1).wf = false ∧ (Instr.islandSleepEntry 0 2).wf = false ∧ (Instr.islandWordArrive 14 1).wf = false := by
  decide +kernel
theorem test_wf_wake_source : (Instr.hubRemoteWake 3 false).wf = false := by decide +kernel
theorem test_wf_submit : (Instr.submit (List.replicate 19 0)).wf = false ∧ (Instr.submit (List.replicate 1045 0)).wf = false := by
  decide +kernel
theorem test_wf_bulk : (Instr.cmdOutRx (List.replicate 513 0) false 0).wf = false ∧ (Instr.streamOutPacket (List.replicate 513 0) false).wf = false := by
  decide +kernel
theorem test_wf_smbus : (Instr.smbusBlockWrite [] true).wf = false ∧ (Instr.smbusBlockRead 65).wf = false := by decide +kernel
theorem test_wf_proof_end : (Instr.proofTestEnd 0 4096 0 [] []).wf = false ∧ (Instr.proofTestEnd 0 0 4096 [] []).wf = false := by
  decide +kernel
theorem test_wf_reply :
    (Instr.replyAtOrigin ⟨0, 0, 0, 0, 0, 0, 0, 0, 0, List.replicate 1025 0⟩).wf = false ∧
      (Instr.replyAtOrigin ⟨0, 3, 0, 0, 0, 0, 0, 0, 0, []⟩).wf = false := by decide +kernel
theorem test_wf_well_formed : (Instr.nop (pkt 0)).wf = true ∧ (Instr.echo (pkt 1 0 (List.replicate 1024 0))).wf = true := by decide +kernel

/-! ### Witnesses: the hypotheses of each statement, clause by clause, met by concrete states and operands -/

/-- A sound die-link packet of a type. -/
def dlp (type seq : BitVec 4) : DlPkt := ⟨type, seq, 1, 0, [], true⟩

/-- The reset state with one held packet in both directions. -/
def dlHeld : State := mk fun m => { m with dl := { m.dl with down := { held := [dlp 1 3] }, up := { held := [dlp 1 3] } } }

theorem witness_StepRunsFrontCommand : State.reset.pending = [] := by decide +kernel

theorem witness_DieLinkReceiverAcceptsInOrder :
    State.reset.m.dl.inService = true ∧ ({ dlp 1 0 with parityOk := false }).parityOk = false ∧ (dlp 0 0).type = 0#4 ∧
      9 ≤ (dlp 9 0).type.toNat ∧
      ((dlp 1 1).parityOk = true ∧ 1 ≤ (dlp 1 1).type.toNat ∧ (dlp 5 1).type.toNat ≤ 5 ∧
        (dlp 1 1).seq.toNat ≠ (State.reset.m.dl.dir .power).rxExp % 16 ∧
        (dlp 1 0).seq.toNat = (State.reset.m.dl.dir .power).rxExp % 16) := by decide +kernel

theorem witness_DieLinkSenderReplaysFromNak :
    dlHeld.m.dl.inService = true ∧ (∃ p ∈ (dlHeld.m.dl.dir .core).held, p.seq = 3#4) ∧ (dlHeld.m.dl.dir .core).waiting = [] ∧
      (dlHeld.m.dl.dir .core).replaySeq ≠ some 3 := by decide +kernel

theorem witness_HeartbeatCountsAndArms :
    (let s := mk fun m => { m with flt := { m.flt with hbOn := true } };
      s.m.flt.proof = none ∧ s.m.flt.hbOn = true ∧ s.m.fg FLT_STAT FLT_STAT_hb_stop = 0 ∧ s.m.fg FLT_STAT FLT_STAT_hoops_off = 0 ∧
        s.m.dl.inService = true ∧ s.m.dl.down.waiting = [] ∧ s.m.dl.down.held.length < 15) ∧
    (let s := mk (·.fs FLT_STAT FLT_STAT_hb_stop 1);
      s.m.flt.proof = none ∧ s.m.fg FLT_STAT FLT_STAT_hb_stop = 1) ∧
    (let s := mk fun m => { m with pdi := { m.pdi with lastCount := some 65535 } };
      s.m.pdi.lastCount = some 65535 ∧ (1#16).toNat ≠ (65535 + 1) % 65536 ∧ (0#16).toNat = (65535 + 1) % 65536 ∧
        s.m.fg PDI_PWR_STAT PDI_PWR_STAT_hb_lost = 0 ∧
        s.m.fg PDI_PWR_STAT PDI_PWR_STAT_hoops_off = (if (8#4).getLsbD 0 then 1 else 0)) := by decide +kernel

theorem witness_StopsDropEveryHoop :
    State.reset.m.pdi.armed = false ∧ State.reset.m.fg PDI_PWR_STAT PDI_PWR_STAT_safe_stop = 0 ∧
    (let s := mk fun m => { m with pdi := { m.pdi with armed := true } }.fs (PDI_HOOP_STAT 11) PDI_HOOP_STAT_state 2;
      s.m.pdi.armed = true ∧ s.m.fg PDI_PWR_STAT PDI_PWR_STAT_hb_lost = 0 ∧ s.m.swLive (.hoop 11) = true) := by decide +kernel

/-- Channel 0 is the master, channel 1 auxiliary. -/
def shaftOn : State := mk fun m => (m.fs SHF_CTRL SHF_CTRL_enable 1).fs SHF_CTRL SHF_CTRL_aux_mode 1

theorem witness_EncoderCountsQuadrature :
    (0 ≤ shaftOn.m.fg (encCfg 1) SHF_ENC0_CFG_filter ∧ shaftOn.m.fg (encCfg 0) SHF_ENC0_CFG_filter < 16 ∧ shaftOn.m.fg (encCfg 1) SHF_ENC0_CFG_filter < 16 ∧
      State.reset.m.fg (encCfg 0) SHF_ENC0_CFG_filter < 16) ∧
    (State.reset.m.isMaster 0 = false ∧ State.reset.m.isAux 0 = false) ∧
    (shaftOn.m.isMaster 0 = true ∧ shaftOn.m.isAux 1 = true ∧ (shaftOn.m.enc 0).a ≠ true ∧ (shaftOn.m.enc 0).b ≠ true) ∧
    (shaftOn.m.isMaster 1 = false ∧ shaftOn.m.fg SHF_CTRL SHF_CTRL_aux_mode = 1 ∧
      quadPhase true false = (quadPhase (shaftOn.m.enc 1).a (shaftOn.m.enc 1).b + 1) % 4) ∧
    (quadPhase true false = (quadPhase (shaftOn.m.enc 0).a (shaftOn.m.enc 0).b + 1) % 4 ∧
      shaftOn.m.badCam ((shaftOn.m.camsCrossed shaftOn.m.shf.pos (shaftOn.m.encPos 0 (shaftOn.m.encStep 0
        { shaftOn.m.enc 0 with a := true, b := false } false))).map (·.1)) = none) := by decide +kernel

/-- Both encoder channels with their index enabled, N = 16. -/
def shaftZ (e : Enc) : State :=
  mk fun m => (((((m.fs SHF_CTRL SHF_CTRL_enable 1).fs SHF_CTRL SHF_CTRL_aux_mode 1).fs (encCfg 0) SHF_ENC0_CFG_z_en 1).fs (encCfg 1)
    SHF_ENC0_CFG_z_en 1).fs (encCfg 1) SHF_ENC0_CFG_cpr_m1 15).setEnc 1 e

theorem witness_IndexAndOverdueRecord :
    (0 ≤ (shaftZ {}).m.fg (encCfg 1) SHF_ENC0_CFG_filter ∧ (shaftZ {}).m.fg (encCfg 0) SHF_ENC0_CFG_filter < 16 ∧ (shaftZ {}).m.fg (encCfg 1) SHF_ENC0_CFG_filter < 16) ∧
    (State.reset.m.fg (encCfg 0) SHF_ENC0_CFG_z_en = 0) ∧
    (let s := shaftZ {};
      (s.m.enc 1).z = false ∧ s.m.fg (encCfg 1) SHF_ENC0_CFG_z_en = 1 ∧ s.m.isMaster 1 = false ∧ s.m.isAux 1 = true ∧
        (s.m.enc 1).homed = false ∧ s.m.isMaster 0 = true ∧ s.m.fg (encCfg 0) SHF_ENC0_CFG_z_en = 1 ∧ (s.m.enc 0).homed = false) ∧
    (let s := shaftZ { homed := true, count := 14 };
      (s.m.enc 1).homed = true ∧ 2 ≤ (s.m.enc 1).count ∧ (s.m.enc 1).count + 2 ≤ s.m.fg (encCfg 1) SHF_ENC0_CFG_cpr_m1 + 1) ∧
    (let s := shaftZ { homed := true, count := 15 };
      s.m.fg (encCfg 1) SHF_ENC0_CFG_cpr_m1 + 1 ≤ (s.m.enc 1).count + 1) ∧
    (let s : State := { shaftZ {} with m := (shaftZ {}).m.setEnc 0 { homed := true, count := 2 } };
      s.m.isMaster 0 = true ∧ (s.m.enc 0).homed = true ∧ (s.m.enc 0).z = false ∧ 2 ≤ (s.m.enc 0).count ∧ (s.m.enc 0).count + 2 ≤ s.m.fg (encCfg 0) SHF_ENC0_CFG_cpr_m1 + 1) ∧
    (let s := mk fun m => { m.fs SHF_CTRL SHF_CTRL_enable 1 with shf := { m.shf with hist := [⟨100, 2⟩, ⟨90, 1⟩] } };
      s.m.shf.hist = [⟨100, 2⟩, ⟨90, 1⟩] ∧ s.m.shfOn = true ∧ 100 + 2 * (100 - 90) ≤ 120 ∧ s.m.shf.overdue = false ∧ 119 < 100 + 2 * (100 - 90)) := by
  decide +kernel

/-- A locked master with three records 1 ms apart, and cam 31 at angle 0x8000 with an action and a GPIO. -/
def camReady (act gpio : Nat) : State :=
  mk fun m => { (((((m.fs SHF_EST SHF_EST_window 1).fs SHF_CTRL SHF_CTRL_enable 1).fs SHF_STAT SHF_STAT_lock 1).fs (SHF_CAM_CFG 31) SHF_CAM_CFG_action act).fs
    (SHF_CAM_CFG 31) SHF_CAM_CFG_gpio gpio).fs (SHF_CAM_CFG 31) SHF_CAM_CFG_angle 0x8000 with
      shf := { m.shf with hist := [⟨2000000, 0x7000⟩, ⟨1000000, 0x3800⟩, ⟨0, 0⟩], pos := 0x7000 } }

theorem witness_CamChannelFiresOnce :
    State.reset.m.camDue 31 0 = false ∧
    ((camReady 7 0).m.camDue 31 3000000 = true ∧ (camReady 7 0).m.camReserved 31 = true ∧
      (camReady 1 24).m.camReserved 31 = true) ∧
    (∀ act ∈ [1, 2, 3, 4, 5, 6], (camReady act 23).m.camDue 31 3000000 = true ∧ (camReady act 23).m.camReserved 31 = false) ∧
    (spGet 0 State.reset.m.shf.camPulse 31 = 0) ∧
    (let s := mk fun m => { m with shf := { m.shf with camPulse := [(31, 48)] } };
      spGet 0 s.m.shf.camPulse 31 = 2 * 23 + b2n true + 1) := by decide +kernel

/-- The shaft unit fed by the records of node 31. -/
def recordsOn (next : Option Nat) : State :=
  mk fun m => { ((m.fs SHF_CTRL SHF_CTRL_enable 1).fs SHF_CTRL SHF_CTRL_source 2).fs SHF_CTRL SHF_CTRL_master_node 31 with
    shf := { m.shf with nextSeq := next } }

/-- A shaft record of sequence number 255. -/
def shRec : ShaftRec := ⟨5, 1, false, true, false, 255, 0⟩

/-- Two estimators that move apart, in plausibility mode. -/
def plausOn : State :=
  mk fun m => { ((m.fs SHF_EST SHF_EST_window 1).fs SHF_CTRL SHF_CTRL_enable 1).fs SHF_CTRL SHF_CTRL_aux_mode 2 with
    shf := { m.shf with hist := [⟨2000, 2000⟩, ⟨1000, 1000⟩, ⟨0, 0⟩], hist2 := [⟨2000, 80000⟩, ⟨1000, 40000⟩, ⟨0, 0⟩] } }

/-- Port 47 delegated and in a state of R123. -/
def delegated (st : Nat) : State := mk fun m => (m.fs (PRT_ROLE 47) PRT_ROLE_role 2).setPst 47 st

theorem witness_ShaftRecordsPlausibilityAndFrames :
    (State.reset.m.fg SHF_CTRL SHF_CTRL_source ≠ 2 ∧ (mk (·.fs (pwrStat 6) PWR_D_STAT_state 2)).m.domOn 6 = false) ∧
    ((recordsOn none).m.recUsed 31 = true ∧ (recordsOn none).m.badCam ((recordsOn none).m.recordCams 31 shRec) = none ∧
      (recordsOn none).m.shf.nextSeq = none ∧ (recordsOn (some 255)).m.shf.nextSeq = some shRec.seq.toNat ∧
      (recordsOn (some 0)).m.recUsed 31 = true ∧ (recordsOn (some 0)).m.badCam ((recordsOn (some 0)).m.recordCams 31 shRec) = none ∧
      (recordsOn (some 0)).m.shf.nextSeq = some 0 ∧ 0 ≠ shRec.seq.toNat) ∧
    (State.reset.m.fg SHF_CTRL SHF_CTRL_aux_mode ≠ 2) ∧
    (plausOn.m.shfOn = true ∧ plausOn.m.fg SHF_CTRL SHF_CTRL_aux_mode = 2 ∧ plausOn.m.fg SHF_CTRL SHF_CTRL_source < 2 ∧
      (plausOn.m.at_ 3000).plausDetail 3000 ≠ 0) ∧
    ((delegated 6).m.isDel 47 = true ∧ (delegated 6).m.pst 47 = pEnabled ∧ ((2000000 : Int) - ((delegated 6).m.port 47).phase).toNat % 1000000 = 0 ∧
      ((2000001 : Int) - ((delegated 6).m.port 47).phase).toNat % 1000000 ≠ 0 ∧ State.reset.m.isDel 47 = false) ∧
    ((∃ p : Fin 48, let s : State := { delegated 6 with m := (delegated 6).m.setPort 47 { (delegated 6).m.port 47 with phase := 1 } };
        s.m.isDel p = true ∧ s.m.pst p = pEnabled ∧ (s.m.port p).phase ≠ 0) ∧
      ∀ p < 48, (delegated 6).m.isDel p = true → (delegated 6).m.pst p = pEnabled → ((delegated 6).m.port p).phase = 0) := by
  decide +kernel

/-- A definition of a profile stream: step 64, lead 0.1 ms, preparation 1 us. -/
def define127 : Cmd := pkt 0x30 (par 127 0) (leBytes 4 (2 + 6 * 2 ^ 20) ++ leBytes 4 (1 + 10 * 65536) ++ leBytes 8 0)

/-- Stream 127 of group 0 with a kind and a state. -/
def strAt (kind st : Nat) : State :=
  mk fun m => ((m.fs (REN_S_CTRL 127) REN_S_CTRL_kind kind).fs (REN_S_CTRL 127) REN_S_CTRL_step_log2 6).fs (REN_S_STAT 127) REN_S_STAT_state st

/-- Stream 127 as a profile stream whose profile table 0 has two points in both banks, Rennet committed. -/
def profAt (st : Nat) : State :=
  { strAt 2 st with m := (((strAt 2 st).m.setUncom 3 false).putBytes (descAddr 0 0 + 6) [2]).putBytes (descAddr 0 1 + 6) [2] }

/-- Rennet enabled, playout not stopped. -/
def armed127 : State := { profAt 2 with m := (profAt 2).m.fs REN_CTRL REN_CTRL_enable 1 }

/-- Rennet's domain is entering RETENTION. -/
def renLeaving : State := mk (·.setMove 5 (some { entering := true, target := 1, cmd := none, chan := 0 }))

theorem witness_StreamCommandsFollowStates :
    (renLeaving.m.domOn 5 = true ∧ renLeaving.m.domLeaving 5 = true ∧ armed127.m.domOn 5 = true ∧ armed127.m.domLeaving 5 = false) ∧
    (State.reset.m.domOn 5 = true ∧ State.reset.m.serves define127 (define127.payload.length == 16) (defineOk define127) = true ∧
      State.reset.m.strState (define127.b 8) ≠ 3 ∧
      getF (BitVec.ofNat 32 (leAt define127.payload 0 4) &&& ctrlMask) REN_S_CTRL_kind ≠ 0) ∧
    ((strAt 2 3).m.strState (define127.b 8) = 3 ∧ (strAt 2 3).m.serves define127 true (defineOk define127) = true) ∧
    (let c := pkt 0x31 (par 127 0);
     State.reset.m.serves c (cmdBare c) (decide (c.b 8 < 128)) = true ∧ State.reset.m.strState (c.b 8) ≠ 1 ∧
       State.reset.m.strState (c.b 8) ≠ 4 ∧ ((strAt 0 1).m.strState 127 = 1 ∧ ((strAt 0 1).m.armCheck [] 127 [0, 1] false).1 ≠ 0) ∧
       ((profAt 1).m.strState 127 = 1 ∧ ((profAt 1).m.armCheck [] 127 [0, 1] false).1 = 0 ∧ (profAt 4).m.strState 127 = 4)) ∧
    (let c := pkt 0x32 (par 127 0 1);
     armed127.m.serves c (cmdBare c) (nameOk (c.b 8)) = true ∧ c.b 8 < 128 ∧ armed127.m.strState (c.b 8) = 2 ∧
       armed127.m.fg REN_STAT REN_STAT_stop = 0 ∧ armed127.m.fg REN_CTRL REN_CTRL_enable = 1 ∧
       armed127.m.startPassed (c.b 8) (c.p 12 4) = false ∧ (profAt 2).m.fg REN_CTRL REN_CTRL_enable = 0) ∧
    (let c := pkt 0x33 (par 127 1);
     (strAt 2 3).m.serves c (cmdBare c) (nameOk (c.b 8) && decide (c.b 9 < 2)) = true ∧ c.b 9 = 1 ∧ (strAt 2 3).m.strState (c.b 8) = 3 ∧
       (pkt 0x33 (par 127 0)).b 9 = 0 ∧ State.reset.m.strState (c.b 8) ≠ 3) ∧
    (let c := pkt 0xB1;
     State.reset.m.serves c (cmdBare c) true = true) := by decide +kernel

theorem witness_TablesAndGroupChanges :
    (let c := pkt 0x34 (par 15 0 7);
     State.reset.m.serves c (cmdBare c) (decide (c.b 8 < 16)) = true ∧
       (mk (·.fs (REN_GRP_STAT 15) REN_GRP_STAT_pending 1)).m.fg (REN_GRP_STAT (c.b 8)) REN_GRP_STAT_pending = 1 ∧
       State.reset.m.fg (REN_GRP_STAT (c.b 8)) REN_GRP_STAT_pending = 0 ∧
       (mk (·.setGrp 15 { copying := true })).m.isSettled (c.b 8) = false ∧ State.reset.m.isSettled (c.b 8) = true ∧
       State.reset.m.shadowOk [] (c.b 8) = (true, State.reset.m) ∧ State.reset.m.members (c.b 8) = []) ∧
    (let s := strAt 0 2;
     s.m.isSettled 0 = true ∧ s.m.members 0 = [127] ∧ s.m.shadowOk [] 0 = (false, s.m)) ∧
    (let s := profAt 3;
     s.m.isSettled 0 = true ∧ s.m.members 0 = [127] ∧ (s.m.shadowOk [] 0).1 = true ∧ s.m.strState 127 = 3 ∧ s.m.frozePast 7 127 = false) ∧
    (let c := pkt 0x41 (par 15 0xF0);
     State.reset.m.serves c (cmdBare c) (c.p 8 2 / 4096 == 0xF && decide (c.p 8 2 % 4096 < 16)) = true ∧ c.p 8 2 % 4096 = 15) ∧
    (let c := pkt 0x40 (par 127 0x10 124) [1, 2, 3, 4];
     c.p 8 2 = 0x1000 + 127 ∧
       State.reset.m.serves c (decide (4 ≤ c.payload.length ∧ c.payload.length ≤ 1024) && c.payload.length % 4 == 0) (tableOk (c.p 8 2)) = true ∧
       c.p 12 4 + c.payload.length ≤ 128 ∧ State.reset.m.owners 1 127 = [] ∧ (strAt 2 2).m.owners 1 127 = [0] ∧
       ({ strAt 2 2 with m := (strAt 2 2).m.setGrp 0 { copying := true } }).m.isSettled 0 = false) ∧
    (State.reset.m.grp 15).copying = false ∧ ((mk (·.setGrp 15 { copying := true })).m.grp 15).copying = true := by decide +kernel

/-- A commit point of stream 127 that an engine may take. -/
def work127 : CommitPt := ⟨127, 0, 9, 0, 5000000, 70000, 0, 3, 9⟩

/-- A time-bus word of stream 127 has reached Rennet; the stream is running and waits for a commit point, where it is given. -/
def busWord (cp : Option CommitPt) (reg : Option (Nat × Nat)) : State :=
  mk fun m => { (m.fs (REN_S_STAT 127) REN_S_STAT_state 3).setStr 127 { reg := reg } with shf := { m.shf with bus := [⟨127, 9, 0, cp⟩] } }

/-- A state at the chain time of deadline stamp 70,000. -/
def late (s : State) : State := { s with m := { s.m with ctime := 70000 * 64 } }

/-- Work waits, and engine 7 alone is enabled. -/
def engineFree : State :=
  mk fun m => { (m.fs REN_CTRL REN_CTRL_engine_en 0x80).fs (REN_S_CTRL 127) REN_S_CTRL_kind 1 with ren := { m.ren with queue := [work127] } }

/-- Engine 7 holds a commit point of one item of stream 127, and the DRAM its point array. -/
def producing (d : Sp Byte) : State := { profAt 3 with m := (profAt 3).m.setEng 7 { work := some { work127 with dest := 1 } }, dram := d }

theorem witness_RennetCommitPointsAndEngines :
    (State.reset.m.shf.bus = [] ∧ (mk (·.fs (pwrStat 5) PWR_D_STAT_state 2)).m.domOn 5 = false ∧
      (busWord none none).m.shf.bus = [⟨127, 9, 0, none⟩]) ∧
    (let s := busWord (some work127) (some (9, 0));
     s.m.domOn 5 = true ∧ s.m.shf.bus = [⟨127, 9, 0, some work127⟩] ∧ work127.stream = 127 ∧ (s.m.str 127).reg = some (work127.pick, work127.idx) ∧
       ((busWord (some work127) none).m.str 127).reg ≠ some (work127.pick, work127.idx)) ∧
    (let s := busWord none (some (9, 0));
     s.m.domOn 5 = true ∧ s.m.shf.bus = [⟨127, 9, 0, none⟩] ∧ s.m.strState 127 = 3 ∧ (s.m.str 127).reg = some (9, 0) ∧
       ((busWord none none).m.str 127).reg ≠ some (9, 0) ∧
       s.m.fg (REN_S_CTRL 127) REN_S_CTRL_unlock ≠ 1 ∧ (s.m.fs (REN_S_CTRL 127) REN_S_CTRL_unlock 1).fg (REN_S_CTRL 127) REN_S_CTRL_unlock = 1) ∧
    (nextWork (State.reset.m.ren.queue.filter (State.reset.m.at_ 0).startable) = none ∧
      (let m := engineFree.m.at_ 0;
       (upTo 8).find? (fun e => m.inService e && (m.eng e).work = none && !(m.eng e).katDue) = some 7 ∧
         nextWork (engineFree.m.ren.queue.filter m.startable) = some work127 ∧ dlPassed m.ctime work127.dl = false) ∧
      (let m := (late engineFree).m.at_ 0;
       (upTo 8).find? (fun e => m.inService e && (m.eng e).work = none && !(m.eng e).katDue) = some 7 ∧
         nextWork (engineFree.m.ren.queue.filter m.startable) = some work127 ∧ dlPassed m.ctime work127.dl = true) ∧
      engineFree.m.kind 127 = 1 ∧ (profAt 3).m.kind 127 ≠ 1) ∧
    ((State.reset.m.eng 7).work = none ∧ ((producing []).m.eng 7).work = some { work127 with dest := 1 } ∧
      readFailed .poisoned = true ∧ readFailed .corrected = false ∧ dlPassed ((late (producing [])).m.at_ 0).ctime work127.dl = true ∧
      dlPassed ((producing []).m.at_ 0).ctime work127.dl = false ∧
      (let m := engineFree.m.at_ 0;
       (m.laterReads [(0, 0x44), (1, 0x52), (2, 1), (3, 1), (4, 1), (6, 1)] work127)[0]?.isSome = true) ∧
      (((producing []).m.at_ 0).laterReads [] work127)[0]? = none ∧ (((producing []).m.at_ 0).itemsOf [] work127).1 = none ∧
      (let p := ((producing [(16, 1)]).m.at_ 0).itemsOf [(16, 1)] work127;
       (p.1.map (·.length) = some 1 ∧ (Mach.issue work127 false ((p.1.getD []).take 1) 0 p.2).1 = 1) ∧
         (Mach.issue work127 false ((p.1.getD []).take 1) 0 (p.2.setFeed 54 1 [⟨0, 1, true, true, 1, false, true, 0, 0, 0, false, 0, false, [9]⟩])).1 = 0)) ∧
    (let s := mk fun m => (m.fs REN_CTRL REN_CTRL_engine_en 0xFF).fs REN_CTRL REN_CTRL_kat_en 1;
     s.m.fg REN_CTRL REN_CTRL_kat_en = 1 ∧ s.m.inService 7 = true ∧ s.m.domOn 5 = true ∧ (s.m.eng 7).work = none ∧
       ((s.m.setEng 7 { work := some work127 }).eng 7).work ≠ none) := by decide +kernel


/-- Port 47 with a role, a state and its engine. -/
def portIn (role st : Nat) (x : Port := {}) : State :=
  mk fun m => ((m.fs (PRT_ROLE 47) PRT_ROLE_role role).fs (PRT_STAT 47) PRT_STAT_state st).setPort 47 x

/-- The VBUS switch of port 47 is ON. -/
def vbusOn : State := mk (·.fs (PDI_VBUS_STAT 47) PDI_HOOP_STAT_state 2)

theorem witness_PortPowerAndConnection :
    ((portIn 0 2).m.pst 47 ≠ 0 ∧ (portIn 0 2).m.pst 47 ≠ 1) ∧
    ((portIn 0 0 { presRun := 2 }).m.pst 47 = 0 ∧ ((portIn 0 0 { presRun := 2 }).m.port 47).presRun = 2) ∧
    ((portIn 0 1 { absRun := 2 }).m.pst 47 = 1 ∧ ((portIn 0 1 { absRun := 2 }).m.port 47).absRun = 2) ∧
    ((portIn 0 1 { presRun := 1 }).m.pst 47 ≤ 1 ∧ ((portIn 0 1 { presRun := 1 }).m.port 47).presRun < 2) ∧
    (let c := pkt 0x51 (par 47 1);
     let d := pkt 0x51 (par 47 0);
     c.b 8 = (47 : Fin 48) ∧ (portIn 2 3).m.domOn (8 + 47 / 8) = true ∧ (portIn 2 3).m.isHub 47 = false ∧
       (portIn 2 3).m.serves c (cmdBare c) (decide (c.b 8 < 48) && decide (c.b 9 < 2)) = true ∧ c.b 9 = 1 ∧ (portIn 2 3).m.role 47 ≠ 0 ∧
       State.reset.m.role 47 = 0 ∧ d.b 9 = 0) ∧
    (State.reset.m.swLive (.vbus 47) = false ∧ vbusOn.m.swLive (.vbus 47) = true ∧
      vbusOn.m.fg (PDI_VBUS_STAT 47) PDI_VBUS_STAT_limiting = 0) ∧
    ((portIn 2 3).m.pst 47 = 3 ∧ (portIn 2 4).m.isDel 47 = true ∧ (portIn 2 4).m.pst 47 = 4 ∧ (portIn 2 4).m.domOn 1 = true) ∧
    (let s := portIn 1 5;
     let up := (s.m.setPst 47 6).fs (PRT_STAT 47) PRT_STAT_speed (s.m.speedCode 47 .full);
     s.m.pst 47 = 5 ∧ up.isHub 47 = true) ∧
    (let s := portIn 2 5 { enum := some { sub := 0 } };
     let up := (s.m.setPst 47 6).fs (PRT_STAT 47) PRT_STAT_speed (s.m.speedCode 47 .full);
     s.m.pst 47 = 5 ∧ up.isHub 47 = false ∧ up.isDel 47 = true ∧ (up.port 47).enum = some { sub := 0 } ∧ ({ sub := 0 } : EnumRun).step = 1) ∧
    (connState ((portIn 1 3).m.pst 47) = false ∧ connState ((portIn 1 4).m.pst 47) = true ∧ (portIn 1 4).m.isDel 47 = false ∧
      connState ((portIn 2 10).m.pst 47) = true ∧ (portIn 2 10).m.isDel 47 = true ∧
      (((portIn 2 10).m.fs (PRT_CFG 47) PRT_CFG_detach_off 0).detachAll 47).fg (PRT_CFG 47) PRT_CFG_detach_off = 0) := by decide +kernel

/-- A role change to hub mode of a port that the port map names as logical port 1. -/
def rolePkt (new : Nat) : Cmd := pkt 0x50 (par 47 new)

theorem witness_PortResetSuspendErrors :
    (let c := pkt 0x52 (par 47 0);
     c.b 8 = (47 : Fin 48) ∧ (portIn 2 6).m.domOn (8 + 47 / 8) = true ∧ (portIn 2 6).m.serves c (cmdBare c) true = true ∧
       (portIn 2 6).m.canReset 47 = true ∧ (portIn 2 10).m.canReset 47 = true ∧ (portIn 2 5).m.canReset 47 = false) ∧
    ((portIn 2 7).m.domOn (portDom 47) = true ∧ (portIn 2 7).m.domMove (portDom 47) = none ∧ (portIn 2 7).m.pst 47 = 7 ∧ (portIn 2 8 { resume := 1 }).m.pst 47 = 8 ∧ ((portIn 2 8 { resume := 1 }).m.port 47).resume = 1 ∧
      (portIn 2 6).m.pst 47 ≠ 7 ∧ (portIn 2 6).m.pst 47 ≠ 8) ∧
    (∀ on ∈ [0, 1], let s : State := { portIn 2 7 with m := ((portIn 2 7).m.fs (pwrStat 13) PWR_D_STAT_state 1).fs (PWR_D_CFG 13) PWR_D_CFG_wake on };
     let w := s.m.domainWakeSource (portDom 47) 0;
     s.m.domOn (portDom 47) = false ∧ s.m.pst 47 = 7 ∧ (s.m.wakeOf (portDom 47) 1 = on) ∧ w.domOn (portDom 47) = false ∧ w.pst 47 = 7 ∧
       w.wakeOf (portDom 47) 1 = on) ∧
    ((portIn 2 8 { resume := 1 }).m.isDel 47 = true ∧ (portIn 1 8).m.pst 47 = 8 ∧ (portIn 1 8).m.isDel 47 = false) ∧
    ((portIn 1 6).m.pst 47 = 6 ∧ (portIn 1 6).m.isDel 47 = false ∧ (portIn 2 6).m.pst 47 = 6 ∧ (portIn 2 6).m.isDel 47 = true) ∧
    (let s : State := { portIn 2 6 with m := (portIn 2 6).m.fs (PRT_CFG 47) PRT_CFG_kat_en 1 };
     s.m.role 47 ≠ 0 ∧ s.m.fg (PRT_CFG 47) PRT_CFG_kat_en = 1 ∧ s.m.domOn (8 + 47 / 8) = true ∧ (s.m.port 47).katHold = false ∧ s.m.pst 47 ≠ 10) ∧
    ((rolePkt 2).b 8 = (47 : Fin 48) ∧ (portIn 0 0).m.domOn (8 + 47 / 8) = true ∧
      (portIn 0 0).m.serves (rolePkt 2) (cmdBare (rolePkt 2)) (decide ((rolePkt 2).b 8 < 48) && decide ((rolePkt 2).b 9 < 3)) = true ∧
      ({ State.reset with guard := 0x10 } : State).guard.getLsbD 4 = true ∧ State.reset.guard.getLsbD 4 = false ∧
      (portIn 0 0).m.roleRefusal 47 ((rolePkt 2).b 9) = none ∧ (portIn 0 0).m.role 47 = 0 ∧ (rolePkt 2).b 9 ≠ 0 ∧
      (portIn 0 0).m.roleRefusal 47 ((rolePkt 1).b 9) = some 0x13 ∧
      (portIn 2 6).m.roleRefusal 47 ((rolePkt 0).b 9) = none ∧ (portIn 2 6).m.role 47 ≠ 0 ∧ (rolePkt 0).b 9 ≠ (portIn 2 6).m.role 47) ∧
    ((State.reset.m.port 47).roleChange = none ∧
      ((portIn 2 6 { roleChange := some (0, some (rolePkt 0)) }).m.port 47).roleChange = some (0, some (rolePkt 0))) := by decide +kernel

/-- Port 47 enumerates, and its control transfer is on the wire. -/
def enumerating (e : EnumRun) (retries : Nat) : State :=
  let s := portIn 2 6 { enum := some e, ctl := [{ sub := e.sub, addr := 0, setup := [], what := .enum e.sub, started := true }] }
  { s with m := s.m.fs (PRT_CFG 47) PRT_CFG_enum_retries retries }

/-- The state once the transfer has left the engine, with a STALL's halt. -/
def enumHalted (s : State) : Mach :=
  let x := s.m.port 47
  let m := (s.m.setPort 47 { x with ctl := [] }).inc (PRT_XERR 47) PRT_XERR_count 3
  match m.ep0Pipe 47 7 with
  | some i => if m.pipeSt i = 1 then m.pipeHalt 47 i else m
  | none => m

theorem witness_EnumerationStepsInOrder :
    ((State.reset.m.port 47).ctl.find? (fun c => c.sub == 7 && c.started) = none ∧ (State.reset.m.port 47).enum = none) ∧
    (∀ k ∈ [2, 3, 4, 9], let e : EnumRun := { sub := 7, step := k, tries := 1 };
      let s := enumerating e 1;
      ((s.m.port 47).ctl.find? (fun c => c.sub == 7 && c.started)).map (·.what) = some (.enum e.sub) ∧ (s.m.port 47).enum = some e ∧ e.tries < 2 ∧
        ((enumHalted s).port 47).enum = some e) ∧
    (∀ r ∈ [1, 2], let e : EnumRun := { sub := 7, step := 4, tries := 2, attempt := 1 };
      let s := enumerating e r;
      2 ≤ e.tries ∧ (decide (e.attempt < s.m.fg (PRT_CFG 47) PRT_CFG_enum_retries) = (r == 2)) ∧
        (decide (e.attempt < (enumHalted s).fg (PRT_CFG 47) PRT_CFG_enum_retries) = (r == 2)) ∧ ((enumHalted s).port 47).enum = some e) ∧
    8 ≤ (List.replicate 8 (0 : Byte)).length ∧ 18 ≤ (List.replicate 18 (0 : Byte)).length := by decide +kernel

theorem witness_SlotCopyMakesShadowActive :
    State.reset.m.fg (PRT_SLOT_CTRL 47) PRT_SLOT_CTRL_pending = 0 ∧
    (let s := mk (·.fs (PRT_SLOT_CTRL 47) PRT_SLOT_CTRL_pending 1);
     3000000 % 1000000 = 0 ∧ s.m.fg (PRT_SLOT_CTRL 47) PRT_SLOT_CTRL_pending = 1 ∧ (s.m.port 47).enum = none) := by decide +kernel

/-- An item for port 47, sub-address 0, at 5 ms with deadline stamp 70,000. -/
def item47 : List Byte := leBytes 2 (47 * 32) ++ leBytes 6 0 ++ leBytes 8 5000000 ++ leBytes 4 70000 ++ leBytes 2 1 ++ leBytes 6 0 ++ [0]

/-- A ready module on port 47 with the open playout pipe 511. -/
def playing47 : State :=
  { portIn 2 6 with m := ((((portIn 2 6).m.fs (PRT_DEV 47 0) PRT_DEV_state 2).fs (pcW0 511) pcPort 47).fs (pcW0 511) pcState 1).fs (pcW0 511) pcPlay 1 }

theorem witness_PlayoutArrivalsAndDeadlines :
    (let full : State := { playing47 with m := playing47.m.setPort 47 { items := List.replicate 8 { bytes := item47, eff := 0, pipe := 511 } } };
     (full.m.at_ 9).itemsFull 47 = true ∧ (playing47.m.at_ 9).itemsFull 47 = false ∧ (playing47.m.at_ 9).domOn (portDom 47) = true ∧
       ((playing47.m.fs (pwrStat 13) PWR_D_STAT_state 1).at_ 9).domOn (portDom 47) = false) ∧
    (itemWf item47 = true ∧ itemHandle item47 / 2048 = (playing47.m.at_ 9).node ∧ itemHandle item47 / 32 % 64 = 47) ∧
    (¬ itemHandle (leBytes 2 0) / 32 % 64 = 47) ∧ ((State.reset.m.at_ 9).isDel 47 = false) ∧
    ((playing47.m.at_ 9).isDel 47 = true ∧ (playing47.m.fs FLT_STAT FLT_STAT_stop_playout 1).fg FLT_STAT FLT_STAT_stop_playout = 1 ∧
      (playing47.m.at_ 9).fg FLT_STAT FLT_STAT_stop_playout = 0 ∧ ((portIn 2 7).m.at_ 9).pst 47 = 7 ∧ ((portIn 2 8).m.at_ 9).pst 47 = 8) ∧
    ((playing47.m.at_ 9).pst 47 = 6 ∧ (playing47.m.at_ 9).devSt 47 0 = 2 ∧ (playing47.m.at_ 9).playPipe 47 0 = some 511 ∧
      (playing47.m.at_ 9).pipeSt 511 = 1 ∧ dlPassed (playing47.m.at_ 9).ctime ((playing47.m.at_ 9).effective 47 0 item47) = false) ∧
    (511 ∈ playing47.m.portPipes 47 ∧ playing47.m.fg (pcW0 511) pcAddr = 0 ∧ (∀ i ∈ playing47.m.portPipes 47, playing47.m.fg (pcW0 i) pcAddr ≠ 127)) ∧
    (((State.reset.m.at_ 9).upsetItems 47 []).issuing 47 = false ∧ ((playing47.m.at_ 9).upsetItems 47 [511]).issuing 47 = true ∧ 2000000 % (if playing47.m.portHs 47 = true then 125000 else 1000000) = 0) := by
  decide +kernel

theorem witness_TransactionEndsOnPorts :
    ((portIn 1 6).m.isHub 47 = true) ∧ ((portIn 2 6).m.isHub 47 = false ∧
      (((portIn 2 6).m.at_ 9).port 47).txs.find? (fun y => y.pipe == 511) = none ∧
      (((portIn 2 6).m.at_ 9).port 47).quar.contains (((portIn 2 6).m.at_ 9).fg (pcW0 511) pcAddr) = false) ∧
    (let s := portIn 2 6 { splits := [{ pipe := 511, cs := 2 }] };
     s.m.isHub 47 = false ∧ ((s.m.at_ 9).port 47).txs.find? (fun y => y.pipe == 511) = some { pipe := 511, cs := 2 } ∧ 1 < ({ pipe := 511, cs := 2 } : UsbTx).cs) ∧
    (let s : State := { playing47 with m := playing47.m.setPort 47 { tx := some { pipe := 511, item := some item47 } } };
     let m := s.m.at_ 9;
     (m.port 47).txs.find? (fun y => y.pipe == 511) = some { pipe := 511, item := some item47 } ∧
       (m.setPort 47 { m.port 47 with tx := none, splits := [] }).pipeSt 511 ≠ 3) := by decide +kernel

theorem witness_RegisterRowsActOnPorts :
    (∀ s ∈ [portIn 2 6, portIn 2 7, portIn 2 10, portIn 0 0], canReach s port0 (PRT_CTRL 47) true = true ∧ canReach s port0 (PRT_SLOT_CTRL 47) true = true) ∧
    ((portIn 2 6).m.canReset 47 = true ∧ (portIn 0 0).m.canReset 47 = false ∧ (portIn 2 6).m.isDel 47 = true ∧ (portIn 2 6).m.pst 47 = 6 ∧
      (portIn 2 7).m.pst 47 = 7 ∧ (portIn 0 0).m.isDel 47 = false ∧ (portIn 0 0).m.pst 47 ≠ 6 ∧ (portIn 0 0).m.pst 47 ≠ 7) := by decide +kernel

theorem witness_RegisterRowsActOnEngines :
    (canReach State.reset port0 REN_CTRL true = true ∧ canReach State.reset port0 (REN_GRP_CTRL 15) true = true ∧ canReach State.reset port0 (WTP_T_CFG 3) true = true ∧
      canReach State.reset port0 DMC_SCRUB true = true ∧ canReach State.reset port0 DPY_CTRL true = true ∧ canReach State.reset port0 HUB_CTRL true = true ∧
      canReach State.reset port0 (PDI_HOOP_CTRL 11) true = true ∧ canReach State.reset port0 CHN_CTRL true = true ∧ canReach State.reset port0 JNL_WDOG true = true) ∧
    (State.reset.m.fg (REN_GRP_STAT 15) REN_GRP_STAT_pending = 0 ∧ State.reset.m.isSettled 15 = true ∧
      (let s := mk (·.fs (REN_GRP_STAT 15) REN_GRP_STAT_pending 1);
       s.m.fg (REN_GRP_STAT 15) REN_GRP_STAT_pending = 1 ∧ (s.m.grp 15).changed = []) ∧
      (mk (·.setGrp 15 { copying := true })).m.isSettled 15 = false) ∧
    (State.reset.m.fg (WTP_T_CFG 3) WTP_T_CFG_enable = 0 ∧ State.reset.m.fg DPY_STAT DPY_STAT_flash_busy = 0 ∧
      (State.reset.m.rg DPY_CTRL).getLsbD 2 = false) ∧
    ((State.reset.m.connectWrite ((1#32 : Word).getLsbD 0)).1 = 0 ∧
      (let s := mk fun m => (m.fs (HUB_PMAP 47) HUB_PMAP_valid 1);
       (1#32 : Word).getLsbD 0 = true ∧ s.m.fg HUB_CTRL HUB_CTRL_connect ≠ 1 ∧ s.m.mapOk = false)) ∧
    (let asked := fun m : Mach => m.dlPass .core 0x1 1 (regReqData (PDI_HOOP_CTRL 11) (some 2));
      State.reset.m.dl.quiet = true ∧ ((asked State.reset.m).swOnReq (.hoop 11)).1 = 0x13 ∧
        ((asked (mk (·.fs (PDI_HOOP_CFG 11) PDI_HOOP_CFG_permit 1)).m).swOnReq (.hoop 11)).1 = 0 ∧ dlHeld.m.dl.quiet = false ∧
        canReach dlHeld port0 (PDI_HOOP_CTRL 11) true = true) := by decide +kernel

theorem witness_FaultRegistersFollowTheirRules :
    (canReach State.reset port0 FLT_ACK true = true ∧ canReach State.reset port0 FLT_HANDLED true = true ∧ canReach State.reset port0 FLT_CTRL true = true ∧
      canReach State.reset port0 FLT_INJ true = true) ∧
    (let s := mk (·.fs FLT_FIRST FLT_FIRST_valid 1);
     s.m.fg FLT_FIRST FLT_FIRST_valid = 1 ∧ s.m.rg FLT_FIRST = 0x80000000#32 ∧ s.m.rg FLT_FIRST ≠ 0) ∧
    (State.reset.m.fg FLT_FIRST FLT_FIRST_valid = 0 ∧ State.reset.m.fg FLT_PEND FLT_PEND_running = 0 ∧ State.reset.m.classAPersists = false ∧
      State.reset.m.fg FLT_STAT FLT_STAT_hb_stop = 0) ∧
    ((mk (·.fs FLT_PEND FLT_PEND_running 1)).m.fg FLT_PEND FLT_PEND_running ≠ 0 ∧
      (mk (·.fs PDI_PWR_STAT PDI_PWR_STAT_safe_stop 1)).m.classAPersists = true ∧ (mk (·.fs FLT_STAT FLT_STAT_hb_stop 1)).m.fg FLT_STAT FLT_STAT_hb_stop ≠ 0) ∧
    (State.reset.m.fg FLT_STAT FLT_STAT_factory = 0 ∧ (mk (·.fs FLT_STAT FLT_STAT_factory 1)).m.fg FLT_STAT FLT_STAT_factory = 1) := by decide +kernel

/-- A DRAM request of one byte at the last byte of a block, as an operation. -/
def dreq (op : Nat) (rq : Nat := 0) : DramReq :=
  { requester := rq, perm := rq, cls := 1, op := op, ack := true, tag := 3, addr := 255, len := 1, noDl := true, data := [5] }

/-- DRAM initialised, region 0 open to every requester. -/
def dramOpen : State := mk fun m => (((((m.fs DMC_STAT DMC_STAT_init_done 1).fs (DMC_RGN_ACC 0) DMC_RGN_ACC_en 1).fs (DMC_RGN_ACC 0) DMC_RGN_ACC_rd 255).fs
  (DMC_RGN_ACC 0) DMC_RGN_ACC_wr 255))

/-- The machine takes D4 to RETENTION for a warm-retain reset. -/
def retaining : State := mk fun m => { m with boot := { m.boot with retaining := true } }

theorem witness_ResetRegisterResets :
    (canReach State.reset port0 JNL_RESET true = true ∧ (0xC2#8 ≠ 0xC3#8) ∧ State.reset.m.boot.retaining = false ∧
      canReach retaining port0 JNL_RESET true = true ∧ retaining.m.boot.retaining = true) ∧
    (((State.reset.m.answer port0 0 0).retainStops).retainWaits = false ∧
      (((dramOpen.m.setSlot 3 (some { req := dreq 2, grant := 1 })).answer port0 0 0).retainStops).retainWaits = true) := by decide +kernel

/-- A register command: address, byte enables, value. -/
def rpkt (op : BitVec 8) (a be v : Nat) (payload : List Byte := []) : Cmd := pkt op (BitVec.ofNat 64 (a + 2 ^ 24 * be + 2 ^ 32 * v)) payload

theorem witness_RegisterCommandsPassTheChecks :
    (let c := rpkt 0x10 SHF_PLAUS 0 0;
     State.reset.m.serves c (cmdBare c) true = true ∧ State.reset.m.accessGate 0 false (c.p 8 3) none = none ∧
       isPdi (c.p 8 3) = false ∧ (State.reset.m.readWord 0 0 (c.p 8 3)).1 = 0 ∧ ((State.reset.m.accessGate 0 false (SHF_PLAUS + 1) none).isSome = true)) ∧
    (let c := rpkt 0x11 SHF_PLAUS 15 1;
     State.reset.m.serves c (cmdBare c) true = true ∧ State.reset.m.accessGate 0 false (c.p 8 3) (some (c.b 11 % 16)) = none ∧
       State.reset.m.siteAt (c.p 8 3) = some .plain ∧ (regRow (c.p 8 3)).bind (·.guard) = none ∧
       State.reset.m.blockRule false 1 .plain = none ∧ (State.reset.m.writeEffect (c.p 8 3) 1 15 .plain).1 = 0 ∧ c.p 8 3 ≠ JNL_RESET) ∧
    (let c := rpkt 0x11 0xFFFFFC 15 1;
     State.reset.m.siteAt (c.p 8 3) = none ∧ State.reset.m.accessGate 0 false (c.p 8 3) (some (c.b 11 % 16)) = none) ∧
    (let c := rpkt 0x11 (REN_GRP_CTRL 15) 15 2;
     let s := mk (·.setGrp 15 { copying := true });
     isPdi (c.p 8 3) = false ∧ s.m.siteAt (c.p 8 3) = some (.grpCtrl 15) ∧ (regRow (c.p 8 3)).bind (·.guard) = none ∧ s.m.blockRule false 2 (.grpCtrl 15) = some 0x13) ∧
    (let c := rpkt 0x13 DMC_CFG 0 1 (leBytes 4 0xFFFFFFFE);
     State.reset.m.serves c (decide (c.payload.length = 4)) true = true ∧ State.reset.m.accessGate 0 false (c.p 8 3) (some 15) = none ∧
       (regRow (c.p 8 3)).bind (·.guard) = some 3 ∧ State.reset.guard.getLsbD 3 = false ∧ ({ State.reset with guard := 8 } : State).guard.getLsbD 3 = true ∧
       State.reset.m.joined = false ∧ leNat c.payload = (~~~(BitVec.ofNat 32 (c.p 12 4)) : Word).toNat ∧
       leNat (leBytes 4 0) ≠ (~~~(BitVec.ofNat 32 (c.p 12 4)) : Word).toNat ∧ c.p 8 3 ≠ GLB_GUARD ∧
       State.reset.m.siteAt (c.p 8 3) = some .dramMode ∧ State.reset.m.blockRule false 1 .dramMode = none ∧
       (State.reset.m.writeEffect (c.p 8 3) 1 15 .dramMode).1 = 0) ∧
    (let c := rpkt 0x12 SHF_PLAUS 0 1 (leBytes 4 1);
     State.reset.m.serves c (decide (c.payload.length = 4)) true = true ∧ (State.reset.m.readWord 0 0 (c.p 8 3)).1 = 0 ∧
       (State.reset.m.readWord 0 0 (c.p 8 3)).2.2.siteAt (c.p 8 3) = some .plain) ∧
    (let c := rpkt 0x14 SHF_PLAUS 0 1024;
     State.reset.m.serves c (cmdBare c && decide (4 ≤ c.p 12 2 ∧ c.p 12 2 ≤ 1024 ∧ c.p 12 2 % 4 = 0)) true = true ∧ siteOf (c.p 8 3) = some .plain ∧
       State.reset.m.pdiWaits 0 false (c.p 8 3) none = false) := by decide +kernel

theorem witness_RegisterAccessesAreAnswered :
    (canReach State.reset port0 SHF_PLAUS true = true ∧ State.reset.m.siteAt SHF_PLAUS = some .plain ∧ (regRow SHF_PLAUS).bind (·.guard) = none ∧
      State.reset.m.blockRule (port0.direct || port0.ch.val == 2) 1 .plain = none ∧ (State.reset.m.writeEffect SHF_PLAUS 1 15 .plain).1 = 0 ∧
      isPdi SHF_PLAUS = false ∧ SHF_PLAUS ≠ JNL_RESET ∧ SHF_PLAUS ≠ GLB_GUARD) ∧
    (pairLow SHF_CTIME_LO = true ∧ canReach State.reset port0 SHF_CTIME_LO false = true) ∧
    (canReach State.reset port0 (QUE_Q_DATA 55) false = true ∧ State.reset.m.fg (QUE_Q_CFG 55) QUE_Q_CFG_mode = 0 ∧
      (mk (·.fs (QUE_Q_CFG 47) QUE_Q_CFG_mode 1)).m.fg (QUE_Q_CFG 47) QUE_Q_CFG_mode = 1 ∧
      (State.reset.m.q 47).part = false ∧ ((mk (·.setQ 47 { part := true })).m.q 47).part = true) ∧
    (State.reset.m.cmd.keyed = none ∧ (mk fun m => { m with cmd := { m.cmd with keyed := some (8, 1) } }).m.cmd.keyed = some (8, 1)) := by decide +kernel

theorem witness_PlainCommandsAnswer :
    (State.reset.m.domOn 1 = true ∧ State.reset.m.domOn 3 = true ∧ State.reset.m.serves (pkt 0) (cmdBare (pkt 0)) true = true ∧ State.reset.m.domOn 6 = true) ∧
    ((∀ i < 64, tallyBase i ≠ (rpkt 0x62 4 0 0).p 8 3) ∧
      (upTo 64).find? (fun i => tallyBase i == (rpkt 0x62 0x6F000 0 0).p 8 3) = some 63 ∧ State.reset.m.blockOn (tallyBase 63) = true) ∧
    (let s := mk (·.fs FLT_FIRST FLT_FIRST_valid 1);
     s.m.fg FLT_FIRST FLT_FIRST_valid = 1 ∧ s.m.rg FLT_FIRST = BitVec.ofNat 32 ((rpkt 0x71 0 0 0x80000000).p 12 4)) ∧
    (let c := pkt 0x01 0 (List.replicate 1024 7);
     State.reset.m.serves c (decide (c.payload.length ≤ 1024)) true = true) ∧
    (let c := pkt 0x53 (par 16 32);
     State.reset.m.serves c (cmdBare c && decide (1 ≤ c.b 9 ∧ c.b 9 ≤ 32 ∧ (c.b 8 < 48 → c.b 8 + c.b 9 ≤ 48))) (decide (c.b 8 < 48)) = true ∧
       ((upTo (c.b 9)).map (c.b 8 + ·)).all (fun p => State.reset.m.domOn (8 + p / 8)) = true ∧
       ((upTo (c.b 9)).map (c.b 8 + ·)).all (fun p => (mk (·.fs (pwrStat 13) PWR_D_STAT_state 2)).m.domOn (8 + p / 8)) = false) ∧
    (let c := pkt 0x60 (par 3 0);
     State.reset.m.serves c (cmdBare c) (decide (c.b 8 < 32)) = true ∧ c.b 8 < 4 ∧ c.chan ≠ 2#4) ∧
    (let c := pkt 0x60 (par 31 0);
     4 ≤ c.b 8 ∧ (State.reset.m.acquire (c.b 8) c).2.1 = 0 ∧ State.reset.m.lockHeld (c.b 8) = false ∧
       (mk (·.fs (LCK_LOCK 31) LCK_LOCK_state 1)).m.lockHeld (c.b 8) = true ∧
       (mk (·.fs (LCK_LOCK 31) LCK_LOCK_state 1)).m.lockOwner (c.b 8) = (c.origin.val, c.chan.toNat)) ∧
    State.reset.m.coreDead = false := by decide +kernel

/-- A one-cell packet of class 1 from input 47 to output 56. -/
def cell47 : CellIn := ⟨56, 1, true, true, 1, false, true, 0, 0, 0, false, 0, false, [9]⟩

/-- The cell at the head of its virtual output queue, matched, with credit. -/
def cellMatched (last : Bool) : State := mk fun m =>
  let m := (m.setVoq 47 56 1 [cellFor 47 1 false { cell47 with last := last } 56, cellFor 47 2 false cell47 56]).setCredit 56 2 1
  { m with xbr := { m.xbr with matched := [(47, 56, 1)] } }

theorem witness_CrossbarMovesCells :
    (State.reset.m.feed 47 1 = [] ∧ (mk (·.fs (pwrStat 3) PWR_D_STAT_state 2)).m.domOn 3 = false ∧ State.reset.m.domOn 3 = true) ∧
    (let m := mk fun m => m.setVoq 0 1 3 (List.replicate 32 { dst := 1, src := 0, cls := 3, first := true, last := true, valid := 1 });
     m.m.cellPlace 0 3 = none ∧ m.m.feed 0 3 = [] ∧ m.m.cellFits 0 { cell47 with cls := 3 } = true) ∧
    (cell47.first = true ∧ State.reset.m.cellFits 47 cell47 = true ∧ State.reset.m.cellPlace 47 cell47.cls = some false ∧ cell47.mcast = false ∧ cell47.dst.toNat < 57 ∧
      57 ≤ ({ cell47 with dst := 57 } : CellIn).dst.toNat ∧ State.reset.m.xbr.discard.contains (voqKey 47 cell47.dst.toNat cell47.cls) = false) ∧
    (State.reset.m.xbr.matched.contains (47, 56, 1) = false ∧ State.reset.m.cellTime.xbr.matched.contains (47, 56, 1) = false) ∧
    (∀ last ∈ [true, false], let s := cellMatched last;
      let m : Mach := { s.m with xbr := { s.m.xbr with matched := [] } };
      s.m.xbr.matched.contains (47, 56, 1) = true ∧ (s.m.request 47 56 1).map (fun h => (h.first, h.last, h.poison)) = some (true, last, false) ∧
        ((m.setVoq 47 56 1 ((m.voq 47 56 1).drop 1)).setCredit 56 2 0).lockOf 56 1 = none) ∧
    (let l : XLock := { inp := 1, group := 0, epoch := 0 };
     State.reset.m.lockOf 56 3 = none ∧ (mk (·.setLock 56 3 (some l))).m.lockOf 56 3 = some l ∧ (56 : Fin 57).val ≠ 53) ∧
    (let full := portIn 2 6 { items := List.replicate 8 { bytes := [], eff := 0, pipe := 511 } };
     48 ≤ (56 : Fin 57).val ∧ State.reset.m.itemsFull 47 = false ∧ full.m.itemsFull 47 = true) := by decide +kernel

/-- A word that ends a packet. -/
def lastW : QWord := ⟨7, true, 4, 0⟩

/-- A packet at tap 3's point. -/
def tapPk : TapPkt := ⟨54, 47, 1, 0, false, false, 0, true, 0, 0, 0, false, [1]⟩

/-- Tap 3 enabled in mode 1 on class 1 of input 54, every packet. -/
def tapOn (seen rate : Nat) : State := mk fun m =>
  { (((((m.fs (WTP_T_CFG 3) WTP_T_CFG_enable 1).fs (WTP_T_CFG 3) WTP_T_CFG_mode 1).fs (WTP_T_CFG 3) WTP_T_CFG_class_mask 2).fs (WTP_T_CFG 3)
    WTP_T_CFG_port 54).fs (WTP_T_RATE 3) WTP_T_RATE_n_m1 rate) with tap := [(3, { seen := seen })] }

theorem witness_QueuesAndTaps :
    ((mk fun m => { m with que := [(0, { words := List.replicate 512 lastW })] }).m.q 0).words.length = queCap 0 ∧
    ((State.reset.m.q 55).words.length < queCap 55 ∧ (State.reset.m.q 55).words = []) ∧
    (let s := mk fun m => { m.fs (QUE_Q_CFG 55) QUE_Q_CFG_stale 1 with que := [(55, { words := [lastW] })] };
     (s.m.q 55).words ≠ [] ∧ s.m.fg (QUE_Q_CFG 55) QUE_Q_CFG_stale ≠ 0) ∧
    (takePacket (State.reset.m.q 47).words = none) ∧
    (∀ node ∈ [0, 31], let s := mk fun m => { (m.fs (QUE_Q_CFG 47) QUE_Q_CFG_mode 1).fs (QUE_Q_CFG 47) QUE_Q_CFG_fwd_node node with
        que := [(47, { words := [lastW] })] };
      let s : State := { s with m := (s.m.fs (CHN_ROUTE 31) CHN_ROUTE_valid 1).fs (CHN_ROUTE 31) CHN_ROUTE_port 3 };
      s.m.fg (QUE_Q_CFG 47) QUE_Q_CFG_mode = 1 ∧ (s.m.q 47).part = false ∧ takePacket (s.m.q 47).words = some ([lastW], []) ∧
        (∀ w ∈ [lastW], w.parityOk = true) ∧ s.m.fg (QUE_Q_CFG 47) QUE_Q_CFG_fwd_node = node ∧ s.m.node = 0 ∧ s.m.qMayBegin 51 = true ∧
        s.m.routePort 31 = some 3 ∧ s.m.feed 47 0 = []) ∧
    ((mk (·.setQ 51 { owed := [16384] })).m.qMayBegin 51 = false) ∧
    (State.reset.m.tapSees 3 tapPk = false) ∧
    (∀ n ∈ [0, 1], (tapOn n 1).m.tapSees 3 tapPk = true ∧ (tapOn n 1).m.fg (WTP_T_CFG 3) WTP_T_CFG_mode = 1 ∧
      (n % ((tapOn n 1).m.fg (WTP_T_RATE 3) WTP_T_RATE_n_m1 + 1) = 0) = (n = 0)) ∧
    (let full := (tapOn 0 1).m.setTap 3 { buf := List.replicate 16 cell47 };
      (cellsOf { dst := 56, cls := 3 } (sampleRec tapPk 3 1 false) none).length ≤ 16 ∧
        16 < (full.tapOf 3).buf.length + (cellsOf { dst := 56, cls := 3 } (sampleRec tapPk 3 1 false) none).length) := by decide +kernel

theorem witness_DieLinkEventsRaiseFaults :
    (State.reset.m.coreDead = false ∧ State.reset.m.dl.inService = true) ∧
    (mk fun m => { m with dl := { m.dl with inService := false } }).m.dl.inService = false := by decide +kernel
/-- A request waits at the front. -/
def dramFront (base : State) (r : DramReq) : State := { base with m := { base.m with dmc := { base.m.dmc with front := [r] } } }

/-- A request packet of one byte from the chain, as an operation with ack; tag 3, address 255, context 2^31. -/
def dramPk (op : Nat) (data : List Byte) : DramPk :=
  ⟨55, 1, true, 0, reqHeader op true 3 255 1 (2 ^ 31), data, none, true⟩

/-- DRAM on, as `dramOpen`, with other DRAM fields. -/
def dramWith (f : Dmc → Dmc) : State := { dramOpen with m := { dramOpen.m with dmc := f dramOpen.m.dmc } }

/-- An aborted MEM_WR whose first request has tag 3. -/
def killed3 : Cmd := { pkt 0x21 with tag := 3 }

theorem witness_DramRequestsAreCheckedAndGranted :
    ((mk (·.fs (pwrStat 4) PWR_D_STAT_state 2)).m.domOn 4 = false ∧ State.reset.m.domOn 4 = true ∧
      State.reset.m.reqCheck (reqOf (dramPk 2 [5])) = some .notInit ∧ State.reset.m.reqCheck (reqOf (dramPk 3 [])) = some .badRequest ∧
      dramOpen.m.reqCheck (reqOf (dramPk 2 [5])) = none ∧ (reqOf (dramPk 2 [5])).isWrite = true ∧
      dramOpen.m.reqCheck (reqOf (dramPk 1 [])) = none ∧ (reqOf (dramPk 1 [])).isWrite = false) ∧
    (let s := dramFront dramOpen (dreq 2);
     let m := s.m.at_ 0;
     (State.reset.m.at_ 0).choose = none ∧ m.freeSlots = [0, 1, 2, 3] ∧ m.choose = some (dreq 2) ∧ m.domOn 4 = true ∧ m.dmc.stopGrants = false ∧
       m.killedBy (dreq 2) = none ∧ m.mayAccess (dreq 2) = true ∧
       (m.fs (DMC_RGN_ACC 0) DMC_RGN_ACC_en 0).mayAccess (dreq 2) = false) ∧
    (let r := { dreq 2 with ctx := cmdCtx killed3 };
     let s := dramFront (mk fun m => { m with cmd := { m.cmd with killed := [killed3] } }) r;
     (s.m.at_ 0).choose = some r ∧ (s.m.at_ 0).killedBy r = some killed3 ∧ (s.m.at_ 0).freeSlots = [0, 1, 2, 3]) ∧
    ((State.reset.m.at_ 0).startPick [] [] = none ∧
      ((mk (·.setSlot 3 (some ⟨dreq 2, 1, 0, false, false⟩))).m.at_ 0).startPick [] [] = some (3, ⟨dreq 2, 1, 0, false, false⟩)) := by decide +kernel

theorem witness_DramWriteStoresItsBytesOnly :
    (State.reset.m.at_ 0).slot 3 = none ∧
    (let x : DSlot := ⟨dreq 2, 1, 0, false, false⟩;
     ((mk (·.setSlot 3 (some x))).m.at_ 0).slot 3 = some x ∧ x.started = false) ∧
    (∀ op ∈ [1, 2], let x : DSlot := ⟨dreq op, 2, 0, true, false⟩;
      let m := (mk fun m => (m.setSlot 3 (some x)).setSlot 0 (some ⟨dreq 2 1, 1, 0, true, false⟩)).m.at_ 0;
      m.slot 3 = some x ∧ x.started = true ∧ m.dmc.alert = false ∧ m.rankTaken (m.rankOf x.req.addr) = false ∧ x.req.requester ≠ 8 ∧
        (x.req.isWrite = (op == 2)) ∧ x.req.data[0]? = some 5 ∧
        m.held.all (fun e => !(decide (e.2.grant < x.grant) && e.2.req.requester == x.req.requester && e.2.req.cls == x.req.cls)) = true) := by
  decide +kernel

/-- A read of patrol scrub in slot 2. -/
def scrubSlot (started : Bool) : DSlot := ⟨{ dreq 1 8 with cls := 4, ack := false }, 1, 0, started, false⟩

theorem witness_DramUpkeep :
    (State.reset.m.fg DMC_STAT DMC_STAT_selfref ≠ 1 ∧ (mk (·.fs DMC_STAT DMC_STAT_selfref 1)).m.fg DMC_STAT DMC_STAT_selfref = 1 ∧
      State.reset.m.rankCount ≤ 1 ∧ 0 < State.reset.m.rankCount ∧ State.reset.m.domOn 4 = true ∧
      State.reset.m.dmc.taken.contains 1 = false ∧ (dramWith ({ · with taken := [1] })).m.dmc.taken.contains 1 = true) ∧
    (State.reset.m.fg DPY_STAT DPY_STAT_trained ≠ 1 ∧
      (let s := mk fun m => { ((m.fs DPY_CTRL DPY_CTRL_retrain_en 1).fs DPY_STAT DPY_STAT_trained 1).fs DMC_CFG DMC_CFG_gen 1 with
          dmc := { m.dmc with taken := [1] } };
       s.m.domOn 4 = true ∧ s.m.fg DPY_CTRL DPY_CTRL_retrain_en = 1 ∧ s.m.fg DPY_STAT DPY_STAT_trained = 1 ∧
         s.m.fg DMC_STAT DMC_STAT_selfref = 0 ∧ s.m.dmc.taken.contains 1 = true ∧ s.m.dmc.rfmOn.contains 1 = false ∧ s.m.dmc.alert = false ∧
         s.m.ddr5 = true)) ∧
    (let s := mk (·.fs DMC_TEMP DMC_TEMP_src 1);
     s.m.domOn 4 = true ∧ s.m.ddr5 = false ∧ s.m.dmc.tooHot = false ∧ s.m.estimate 0 [⟨95, false, false⟩] = 95 ∧
       s.m.estimate 0 [⟨95, false, false⟩, ⟨96, false, false⟩] = 96) ∧
    (let s := mk (·.fs DMC_CFG DMC_CFG_wcrc 1);
     (s.m.fs DMC_CFG DMC_CFG_gen 1).alertUsed = false ∧ s.m.alertUsed = true ∧ s.m.dmc.alertBurst ≠ some 0 ∧ s.m.dmc.alert = false ∧
       (dramWith ({ · with alert := true })).m.dmc.alert = true) ∧
    (State.reset.m.dmc.debugHeld = none ∧ (dramWith ({ · with debugHeld := some 0 })).m.dmc.debugHeld = some 0) ∧
    (let s := mk fun m => (m.fs DMC_STAT DMC_STAT_init_done 1).fs DMC_SCRUB DMC_SCRUB_enable 1;
     let m := s.m.at_ 0;
     m.held.find? (fun e => e.2.req.requester == 8) = none ∧ m.domOn 4 = true ∧ m.initDone = true ∧ m.fg DMC_SCRUB DMC_SCRUB_enable = 1 ∧
       m.fg DMC_STAT DMC_STAT_selfref = 0 ∧ m.dmc.front.any (fun r => r.requester == 8) = false) ∧
    (∀ b ∈ [true, false], let m := (mk (·.setSlot 2 (some (scrubSlot b)))).m.at_ 0;
      m.held.find? (fun e => e.2.req.requester == 8) = some (2, scrubSlot b) ∧ m.mayComplete (scrubSlot b) = b) ∧
    (State.reset.m.slot 3 = none ∧
      (let s := mk (·.setSlot 3 (some ⟨dreq 1, 1, 0, true, false⟩));
       s.m.slot 3 = some ⟨dreq 1, 1, 0, true, false⟩ ∧ s.m.dmc.debugHeld = none ∧ s.m.dmc.taken = [] ∧ (dreq 1).isWrite = false ∧ (dreq 1).requester ≠ 9)) ∧
    (State.reset.m.dmc.initing = false ∧ (dramWith ({ · with initing := true })).m.dmc.initing = true) := by decide +kernel

/-- Training runs an attempt of a sub-step. -/
def trainAt (step attempt : Nat) : State := mk fun m => { m with dpy := { m.dpy with run := some { step := step, attempt := attempt } } }

/-- An attempt of a sub-step ends. -/
def trainRes (ok : Bool) : TrainRes := ⟨ok, [], 0, 0, [], 0⟩

theorem witness_TrainingAndFlash :
    (State.reset.m.dpy.run = none ∧ State.reset.m.dpy.flashOps = []) ∧
    (∀ a ∈ [1, 2, 3], ∀ ok ∈ [true, false],
      let r : TrainRun := { step := 2, attempt := a };
      (trainAt 2 a).m.dpy.run = some r ∧ (((trainAt 2 a).m.bootTime 0).attempt r (trainRes ok)).criterion r (trainRes ok) = ok) ∧
    (∀ f ∈ [FlashOp.entry 23 [1], .invalidate, .markClear],
      (mk fun m => { m with dpy := { m.dpy with flashOps := [f] } }).m.dpy.flashOps = [f]) := by
  decide +kernel

/-- The hub attached to the bus, in a state of the hub and of the command function. -/
def onBus (hub cmf : Nat) : State := mk fun m => ((m.fs HUB_STAT HUB_STAT_pullup 1).fs HUB_STAT HUB_STAT_state hub).fs CMF_STAT CMF_STAT_state cmf

theorem witness_HubConnectionAndStandardRequests :
    ((mk (·.fs (pwrStat 2) PWR_D_STAT_state 2)).m.domOn 2 = false ∧ State.reset.m.domOn 2 = true ∧
      (mk (·.fs HUB_STAT HUB_STAT_vbus_det 1)).m.fg HUB_STAT HUB_STAT_vbus_det = 1) ∧
    (∀ n ∈ [2, 3, 4], (onBus n 0).m.attached = true ∧ (onBus n 0).m.hubSt = n) ∧ (∀ n ∈ [0, 1, 2], (onBus 2 n).m.attached = true ∧ (onBus 2 n).m.cmfSt = n) ∧
    State.reset.m.attached = false := by decide +kernel

/-- Logical port 2 is port 47, in hub mode and in a state. -/
def hubPort (st : Nat) : State := mk fun m =>
  ((((((m.fs HUB_STAT HUB_STAT_pullup 1).fs HUB_STAT HUB_STAT_state 4).fs (HUB_PMAP 0) HUB_PMAP_valid 1).fs (HUB_PMAP 0) HUB_PMAP_port 47).fs
    (PRT_ROLE 47) PRT_ROLE_role 1).fs (PRT_STAT 47) PRT_STAT_state st).fs CMF_STAT CMF_STAT_state 3

theorem witness_HubPortRequests :
    ((hubPort 6).m.attached = true ∧ (hubPort 6).m.lcount < 3 ∧ 2 ≤ (hubPort 6).m.lcount ∧ (hubPort 6).m.physOf 2 = some 47) ∧
    ((hubPort 6).m.isHub 47 = true ∧ ((hubPort 6).m.port 47).katHold = false ∧ (hubPort 6).m.pst 47 = 6) ∧
    (let on := (hubPort 2).m.setPort 47 { (hubPort 2).m.port 47 with powerReq := true };
     on.isHub 47 = true ∧ 1 < on.pst 47 ∧ (hubPort 2).m.domOn (portDom 47) = true ∧ (hubPort 2).m.canReset 47 = false) ∧
    ((hubPort 4).m.isHub 47 = true ∧ (hubPort 4).m.pst 47 = 4 ∧ (hubPort 6).m.domOn (portDom 47) = true) ∧
    (let s : State := { hubPort 6 with m := (hubPort 6).m.fs (PRT_ROLE 47) PRT_ROLE_role 2 };
     (s.m.setPort 47 { s.m.port 47 with powerReq := true }).isHub 47 = false ∧ s.m.physOf 2 = some 47) ∧
    ((hubPort 7).m.isHub 47 = true ∧ (hubPort 7).m.allIdle = true ∧ (hubPort 6).m.allIdle = false) := by decide +kernel

/-- A transaction of logical port 2, device 1, in its translator. -/
def tt2 (ep : Nat) (periodic : Bool := false) : TtTx := { port := 2, dev := 1, ep := ep, isIn := true, periodic := periodic, bytes := 8 }

/-- A start-split of it. -/
def split2 (periodic : Bool) : SplitTok := ⟨2, 1, 1, true, periodic, 8, []⟩

/-- The upstream port at high speed. -/
def hubHigh : State := { hubPort 6 with m := (hubPort 6).m.fs HUB_STAT HUB_STAT_speed 3 }

theorem witness_HubTranslatorsRepeatAndSuspend :
    ((hubPort 6).m.attached = true ∧ (hubPort 6).m.ttNamed 2 = none ∧ (hubPort 6).m.ttNamed 1 = some 0 ∧ (hubPort 6).m.physOf 2 = some 47) ∧
    (hubHigh.m.upHigh = true ∧ (hubPort 6).m.upHigh = false ∧ hubHigh.m.physOf 2 = some 47 ∧ hubHigh.m.ttOf 2 = 0 ∧ hubHigh.m.hub.susp = false) ∧
    (∀ l ∈ [[], [tt2 2], [tt2 2, tt2 3], List.replicate 15 (tt2 2 true), List.replicate 16 (tt2 2 true)],
      let s : State := { hubHigh with m := hubHigh.m.setTt 0 l };
      ∀ per ∈ [true, false],
        let x := split2 per;
        let kept := (s.m.tt (s.m.ttOf x.port)).filter (fun y => !(y.isOf x && (y.refused || y.res.isSome)));
        kept = l ∧ x.port.val = 2 ∧ (kept.filter (fun y => y.periodic == per && !y.refused)).length = (l.filter (fun y => y.periodic == per)).length) ∧
    (8 + ((List.replicate 15 (tt2 2 true)).map (·.bytes)).sum ≤ 1536) ∧
    (let s : State := { hubHigh with m := hubHigh.m.setTt 0 [{ tt2 1 with res := some .ack }] };
     (s.m.tt 0).find? (·.isOf (split2 false)) = some { tt2 1 with res := some .ack } ∧ (hubHigh.m.tt 0).find? (·.isOf (split2 false)) = none) ∧
    (let s : State := { hubPort 7 with m := { (hubPort 7).m with hub := { (hubPort 7).m.hub with susp := true, rwake := true } } };
     s.m.attached = true ∧ s.m.hub.susp = true ∧ s.m.hub.driving = false ∧ s.m.wakeThere 1 = true ∧ s.m.wakeEnabled 1 = true ∧
       (hubPort 6).m.hub.susp = false ∧ (hubPort 6).m.hubSt ≠ 6 ∧
       (onBus 6 3).m.hubSt = 6 ∧ (onBus 6 3).m.hub.susp = false ∧ (hubPort 6).m.cmfSt ≠ 4) ∧
    ((hubPort 6).m.hubIdle = false ∧ (hubPort 7).m.hubIdle = true ∧ (hubPort 7).m.hub.susp = false ∧ (hubPort 7).m.hubSt ≠ 6 ∧ (0#4 : BitVec 4) ≠ 1#4) := by
  decide +kernel

/-- A whole NOP packet's bytes for channel 0, with a payload length in its header. -/
def nopBytes (len flags : Nat) : List Byte := [1, 0, 0, BitVec.ofNat 8 flags] ++ leBytes 2 0xFFF ++ leBytes 2 len ++ leBytes 12 0

/-- A command outstanding on channel 1 of node 0. -/
def outst1 : Outst := ⟨1, 0, 0, 0, false, [(0, 0)]⟩

/-- A reply of node 0 to tag 0 on a channel. -/
def reply0 (chan : BitVec 4) (st : BitVec 8) : ReplyPkt := ⟨0, chan, 0, 0, 0, 0, 0, st, 0, []⟩

theorem witness_EndpointsCarryCommandsAndReplies :
    (let m := (onBus 4 2).m.at_ 9;
     (onBus 4 2).m.attached = true ∧ (onBus 4 2).m.cmfSt = 2 ∧ m.cmfSt = 2 ∧ m.fg CMF_STAT CMF_STAT_out_halted = 0 ∧ m.cmd.part0 = [] ∧
       m.cmd.ended = false ∧ m.atLimit 0 false = false ∧ m.inputRoom 0 m.bulkMax = true ∧
       (m.fs CMF_STAT CMF_STAT_out_halted 1).fg CMF_STAT CMF_STAT_out_halted = 1 ∧
       ({ m with cmd := { m.cmd with out := List.replicate 64 ⟨0, 0, 0, 0, false, [(0, 0)]⟩ } } : Mach).atLimit 0 false = true) ∧
    (let m := (onBus 4 2).m.hostAck 0;
     20 ≤ (nopBytes 0 0).length ∧ (nopBytes 0 0).length ≤ 1044 ∧ headerOk (nopBytes 0 0) = true ∧ packetLen (nopBytes 0 0) = (nopBytes 0 0).length ∧
       headerOk (nopBytes 1024 0) = true ∧ packetLen (nopBytes 1024 0) ≠ (nopBytes 1024 0).length ∧
       m.atLimit 0 (m.ownCmd 0 (nopBytes 0 0)).urgent = false ∧ m.inputRoom 0 20 = true ∧ (m.ownCmd 0 (nopBytes 0 16)).urgent = true) ∧
    (takePacket ((onBus 4 2).m.setQ 48 { words := [lastW] } |>.q 48).words = some ([lastW], []) ∧ [lastW].any (fun w => !w.parityOk) = false) ∧
    ((onBus 4 2).m.cmf.notif = none ∧
      (mk fun m => { m with cmf := { m.cmf with notif := some (1, 0, 0, 0) } }).m.cmf.notif = some (1, 0, 0, 0)) ∧
    ((2#8 : BitVec 8).toNat ∉ [1, 0x81, 0x82, 3, 0x83]) ∧ State.reset.m.domOn 2 = true ∧
    (State.reset.m.repliesTo (reply0 0 0) = none ∧
      (let s := mk fun m => { m with cmd := { m.cmd with out := [outst1] } };
       s.m.repliesTo (reply0 1 1) = some outst1 ∧ s.m.repliesTo (reply0 1 0) = some outst1 ∧
         s.m.coreDead = false ∧ s.m.cmd.held.any (fun e => e.1 == outst1.chan) = false ∧ s.m.replyRoom outst1.chan (replyPktBytes (reply0 1 0)).length = true ∧ s.m.node = 0)) ∧
    (State.reset.m.findRun (pkt 0x20) = none ∧
      (longOne (pkt 0x20) && State.reset.m.cmd.acc.any (·.same (pkt 0x20))) = false ∧
      (let s := mk fun m => { m with cmd := { m.cmd with acc := [pkt 0xA1] } };
       s.m.findRun (pkt 0xA1) = none ∧ (longOne (pkt 0xA1) && s.m.cmd.acc.any (·.same (pkt 0xA1))) = true) ∧
      (mk fun m => { m with cmd := { m.cmd with run := [{ cmd := pkt 0x20 }] } }).m.findRun (pkt 0x20) = some { cmd := pkt 0x20 }) := by decide +kernel

/-- A memory command: 40-bit address, then the length in bytes 13 and 14. -/
def mpkt (op : BitVec 8) (a n : Nat) (payload : List Byte := []) : Cmd := pkt op (BitVec.ofNat 64 (a + 2 ^ 40 * n)) payload

/-- A command of a length in execution. -/
def memRun (n : Nat) : State := mk fun m => { m with cmd := { m.cmd with run := [{ cmd := mpkt 0x20 0 n }] } }

/-- MEM_FILL of the 64 bytes at address 64. -/
def fill64 : Cmd := mpkt 0x22 64 0 (leBytes 8 64 ++ leBytes 4 0)

/-- A bound stream endpoint with a window, two stream buffers. -/
def streamOn (e : Nat) (x : Strm) : State := { onBus 4 2 with m := (((onBus 4 2).m.fs HUB_CARVE HUB_CARVE_stream_bufs 2).wr (CMF_STREAM e) 0x80000000#32).setStrm e x }

theorem witness_MemoryCommandsAndStreamsUseTheDram :
    (let c := mpkt 0x20 0 1024;
     State.reset.m.serves c (cmdBare c && decide (1 ≤ c.p 13 2 ∧ c.p 13 2 ≤ 1024)) true = true) ∧
    (let c := mpkt 0x21 0 0 (List.replicate 1024 1);
     State.reset.m.serves c (decide (1 ≤ c.payload.length ∧ c.payload.length ≤ 1024)) true = true) ∧
    (let c := mpkt 0x22 64 0 (leBytes 8 64 ++ leBytes 4 0);
     State.reset.m.domOn 4 = true ∧ State.reset.m.initDone = false ∧ dramOpen.m.domOn 4 = true ∧ dramOpen.m.initDone = true ∧
       dramOpen.m.serves c (decide (c.payload.length = 12 ∧ leAt c.payload 0 8 ≠ 0 ∧ leAt c.payload 0 8 % 64 = 0)) (decide (c.p 8 5 % 64 = 0)) = true ∧
       State.reset.m.serves c (decide (c.payload.length = 12 ∧ leAt c.payload 0 8 ≠ 0 ∧ leAt c.payload 0 8 % 64 = 0)) (decide (c.p 8 5 % 64 = 0)) = true) ∧
    (let c := mpkt 0x23 0 0 (leBytes 8 (2 ^ 40));
     dramOpen.m.serves c (decide (c.payload.length = 8 ∧ 1 ≤ leAt c.payload 0 8 ∧ leAt c.payload 0 8 ≤ 2 ^ 40)) true = true) ∧
    (let c := mpkt 0x24 0 1;
     State.reset.m.domOn 2 = true ∧
       State.reset.m.serves c (cmdBare c && (bitN (c.b 8) 7 || decide (c.p 13 3 ≠ 0))) (bitN (c.b 8) 7 || decide (c.b 9 < 32)) = true ∧
       c.chan = 0#4 ∧ c.arrival = 0 ∧ c.target.toNat % 4096 = 0xFFF ∧ bitN (c.b 8) 7 = false ∧ bitN ((mpkt 0x24 0x81 0).b 8) 7 = true ∧
       ({ c with arrival := 1 } : Cmd).arrival ≠ 0) ∧
    ((memRun 1024).m.findRun (mpkt 0x20 0 1024) = some { cmd := mpkt 0x20 0 1024 } ∧ memStatus .hung ≠ 0 ∧ memStatus .ok = 0 ∧
      memPart { cmd := mpkt 0x20 0 1024 } < memTotal (mpkt 0x20 0 1024) ∧ memTotal (mpkt 0x20 0 1) ≤ memPart { cmd := mpkt 0x20 0 1 }) ∧
    (State.reset.m.dmc.engine = [] ∧ (dramWith ({ · with engRun := some ⟨fill64, 0, 0⟩ })).m.dmc.engRun.isSome = true ∧
      (let s := dramWith ({ · with engine := [(fill64, 0)] });
       let r : EngRun := { cmd := fill64, next := fill64.p 8 5 / 64 * 64 };
       s.m.dmc.engine = [(fill64, 0)] ∧ s.m.dramUp = true ∧ s.m.dmc.engRun = none ∧
         s.m.held.any (fun e => decide (e.2.grant ≤ 0) || e.2.req.requester == 9) = false ∧ r.next < r.stop ∧
         s.m.accessCheck r.next 64 = none ∧ (s.m.fs DMC_STAT DMC_STAT_init_done 0).accessCheck r.next 64 = some .notInit ∧
         (s.m.setSlot 3 (some ⟨dreq 2, 0, 0, true, false⟩)).held.any (fun e => decide (e.2.grant ≤ 0) || e.2.req.requester == 9) = true)) ∧
    (let s := streamOn 0 { len := 65536 };
     (onBus 4 2).m.bound 0 = false ∧ s.m.attached = true ∧ s.m.cmfSt = 2 ∧ s.m.bound 0 = true ∧ s.m.cmf.out3.stall = false ∧ s.m.cmf.out3.pos < s.m.cmf.out3.len ∧
       s.m.cmf.out3.pos + 512 ≤ s.m.cmf.out3.len ∧ s.m.strmMay = true ∧ (s.m.fs HUB_CARVE HUB_CARVE_stream_bufs 0).strmMay = false ∧
       (streamOn 0 { len := 65536, pos := 65536 }).m.cmf.out3.len ≤ (streamOn 0 { len := 65536, pos := 65536 }).m.cmf.out3.pos) ∧
    (let s := streamOn 1 { len := 65536, ready := List.replicate 512 1 };
     (onBus 4 2).m.bound 1 = false ∧ s.m.bound 1 = true ∧ s.m.cmf.in83.stall = false ∧ s.m.cmf.in83.ended = false ∧ s.m.strmNext ≤ s.m.cmf.in83.ready.length ∧
       (streamOn 1 { len := 65536, ended := true }).m.cmf.in83.ended = true ∧ (streamOn 1 { stall := true }).m.cmf.in83.stall = true ∧
       hubHigh.m.upHigh = true) := by decide +kernel

/-- ABORT of tag 9, generation 0. -/
def abort9 : Cmd := { pkt 0xB0 (par 9 0) with tag := 1 }

theorem witness_ChannelOneAndAbort :
    (64 < (List.replicate 65 (0 : Byte)).length) ∧
    (let s := mk fun m => { m with dl := { m.dl with inService := false }, cmd := { m.cmd with rind := List.replicate 1984 0 } };
     s.m.boot.stop = false ∧ s.m.smbLink = false ∧ s.m.cmd.rind.length + (List.replicate 64 (0 : Byte)).length ≤ 2048 ∧
       2048 < ({ s.m with cmd := { s.m.cmd with rind := List.replicate 1985 0 } } : Mach).cmd.rind.length + (List.replicate 64 (0 : Byte)).length) ∧
    (State.reset.m.boot.stop = false ∧ State.reset.m.smbLink = true ∧ State.reset.m.cmd.rind = [] ∧ State.reset.m.cmd.part1 = [] ∧
      State.reset.m.atLimit 1 false = false ∧
      (mk fun m => { m with cmd := { m.cmd with out := List.replicate 64 outst1 } }).m.atLimit 1 false = true ∧
      4 ≤ (nopBytes 0 16).length ∧ bitN (leAt (nopBytes 0 16) 3 1) 4 = true ∧ bitN (leAt (nopBytes 0 0) 3 1) 4 = false) ∧
    (State.reset.m.cmd.smbRead = [] ∧ takePacket (State.reset.m.q 49).words = none ∧
      64 ≤ (mk fun m => { m with cmd := { m.cmd with smbRead := List.replicate 64 0 } }).m.cmd.smbRead.length) ∧
    (State.reset.m.coreDead = false ∧ State.reset.m.serves abort9 (cmdBare abort9) true = true) ∧
    (let d : Cmd := { pkt 0x01 with tag := 9 };
     (mk fun m => { m with cmd := { m.cmd with acc := [d] } }).m.cmd.acc.find? (abortsIt abort9) = some d ∧
       State.reset.m.cmd.acc.find? (abortsIt abort9) = none ∧
       (mk fun m => { m with cmd := { m.cmd with run := [{ cmd := d }] } }).m.cmd.run.find? (fun r => abortsIt abort9 r.cmd && !r.committed) = some { cmd := d } ∧
       State.reset.m.cmd.run.find? (fun r => abortsIt abort9 r.cmd && !r.committed) = none) := by decide +kernel

/-- The collector runs. -/
def collector : State := mk fun m => { m with flt := { m.flt with on := true } }

theorem witness_FaultSourcesLatchAndEscalate :
    (faultClass 0 = 0 ∧ faultClass 0x25 = 0xC ∧ faultClass 0x10 = 0xA ∧ faultClass 0x11 = 0xB ∧ faultClass 0x74 = 0xB) ∧
    (State.reset.m.flt.on = false ∧ collector.m.flt.on = true) ∧
    (let m := collector.m.latchFault 0x74 9;
     bitN (m.fg FLT_PEND FLT_PEND_running) 7 = false ∧ m.fg (FLT_GRP_CFG 7) FLT_GRP_CFG_grace ≠ 0 ∧
       (m.fs (FLT_GRP_CFG 7) FLT_GRP_CFG_grace 0).fg (FLT_GRP_CFG 7) FLT_GRP_CFG_grace = 0 ∧
       bitN ((m.fs FLT_PEND FLT_PEND_running 128).fg FLT_PEND FLT_PEND_running) 7 = true) ∧
    (State.reset.m.fg FLT_FIRST FLT_FIRST_valid = 0 ∧ (mk (·.fs FLT_FIRST FLT_FIRST_valid 1)).m.fg FLT_FIRST FLT_FIRST_valid = 1) ∧
    (let s := mk fun m => { m.fs FLT_HB_CFG FLT_HB_CFG_alive_en 1 with flt := { m.flt with hbOn := true } };
     s.m.flt.hbOn = true ∧ s.m.fg FLT_HB_CFG FLT_HB_CFG_alive_en = 1 ∧ s.m.fg FLT_STAT FLT_STAT_alive_frozen = 0 ∧ s.m.fg FLT_STAT FLT_STAT_hb_stop = 0 ∧
       s.m.fg FLT_STAT FLT_STAT_factory = 0 ∧ s.m.flt.proof = none ∧ State.reset.m.flt.hbOn = false) ∧
    State.reset.m.flt.strapFactory = false := by decide +kernel

/-- The token is the one clause that rests on a value no state holds: where `Config.tokenOk` accepts, the rest can be met. -/
theorem witness_FactoryTokenState :
    (let s := mk fun m => { m with flt := { m.flt with strapFactory := true }, boot := { m.boot with cause := rsCold } };
     s.m.flt.strapFactory = true ∧ s.m.boot.cause = rsCold ∧ s.m.coreDead = false) := by decide +kernel

/-- Every hoop ON with power-good. -/
def hoopsReady : State := mk fun m => forEach (upTo 12) (fun k m => (m.fs (PDI_HOOP_STAT k) PDI_HOOP_STAT_state 2).fs (PDI_HOOP_STAT k) PDI_HOOP_STAT_pgood 1) m

/-- A proof test runs. -/
def proving (test : Nat) : State := mk fun m => { m with flt := { m.flt with proof := some { test := test, cmd := some (pkt 0x72) } } }

theorem witness_TallyProofTestsAndDiscovery :
    (State.reset.m.coreDead = false ∧ (∀ i < 64, (State.reset.m.tallyChecked i && State.reset.m.tallyRef i != State.reset.m.rg (TLY_REF i) && !State.reset.m.tlySeen.contains i) = false)) ∧
    ((mk (·.setUncom 63 true)).m.uncommitted 63 = true ∧ (mk (·.setUncom 63 false)).m.uncommitted 63 = false) ∧
    (∀ k ∈ [1, 6], let c := pkt 0x72 (par k 0);
      State.reset.m.domOn 1 = true ∧ State.reset.m.domOn 3 = true ∧
        State.reset.m.serves c (cmdBare c) (decide (1 ≤ c.b 8 ∧ c.b 8 ≤ 6)) = true) ∧
    (let s := mk (·.fs FLT_PROOF_CFG FLT_PROOF_CFG_hoops 0xFFF);
     let refused := fun (m : Mach) => (upTo 128).any (fun n => m.strState n == stRunning) || m.fg FLT_PEND FLT_PEND_escalated != 0 || m.fg FLT_STAT FLT_STAT_factory == 1;
     (proving 1).m.flt.proof.isSome = true ∧ s.m.flt.proof = none ∧ refused s.m = false ∧ refused (s.m.fs FLT_PEND FLT_PEND_escalated 1) = true ∧
       ((upTo 12).filter (bitN (s.m.fg FLT_PROOF_CFG FLT_PROOF_CFG_hoops))).filter (fun k => !s.m.hoopReady k) ≠ [] ∧
       ((upTo 12).filter (bitN (s.m.fg FLT_PROOF_CFG FLT_PROOF_CFG_hoops))).filter (fun k => !hoopsReady.m.hoopReady k) = []) ∧
    (∀ t ∈ [1, 2, 3, 4, 5, 6], (proving t).m.flt.proof = some { test := t, cmd := some (pkt 0x72) }) ∧
    (proofMay 2 3 = true ∧ proofMay 3 5 = true ∧ proofMay 1 0 = true) ∧
    (([] : List Nat).length < ((mk fun m => ((m.fs GLB_NODE GLB_NODE_joined 1).fs (CHN_ROUTE 31) CHN_ROUTE_valid 1)).m.systemNodes.filter (fun e => e.1 != 0)).length ∧
      (State.reset.m.systemNodes.filter (fun e => e.1 != State.reset.m.node)).length ≤ 0) ∧
    (let c := pkt 0xC0;
     State.reset.m.serves c (cmdBare c) true = true ∧ State.reset.m.node = 0 ∧ State.reset.m.domOn 7 = true ∧
       (mk (·.fs (pwrStat 7) PWR_D_STAT_state 1)).m.domOn 7 = false ∧ State.reset.m.chn.disc = none ∧
       (mk (·.fs GLB_NODE GLB_NODE_node 1)).m.node ≠ 0 ∧
       (mk fun m => { m with chn := { m.chn with disc := some { phase := 1, cmd := none } } }).m.chn.disc.isSome = true) := by decide +kernel

/-- Domain d has a transition in progress. -/
def domMoving (d : Nat) (x : DomMove) : State := mk (·.setMove d (some x))

/-- An entry into RETENTION and an exit to ON. -/
def entry : DomMove := { entering := true, target := 1, cmd := none, chan := 0 }
def exit : DomMove := { entering := false, target := 0, cmd := none, chan := 0 }

/-- Core off, asked for on channel 1. -/
def coreOff1 : Cmd := { pkt 0x80 (par 0 2) with chan := 1, arrival := 1 }

/-- D0 enters OFF for a core off. -/
def coreLeaving : State := mk fun m => { m.setMove 0 (some { entry with target := 2 }) with pwr := { m.pwr with coreOff := some coreOff1, move := [(0, some { entry with target := 2 })] } }

theorem witness_DomainsEnterLeaveAndIdle :
    (let c := pkt 0x80 (par 13 1);
     let s := State.reset;
     domOfCode (c.b 8) = some 13 ∧ s.m.serves c (cmdBare c) ((domOfCode (c.b 8)).isSome && decide (c.b 9 ≤ 2)) = true ∧
       (domMoving 13 entry).m.domMove 13 = some entry ∧ s.m.domMove 13 = none ∧ s.m.pwr.coreOff = none ∧
       s.m.domState 13 ≠ c.b 9 ∧ s.m.domState 13 ≠ 2 ∧ s.m.domWanted 13 = false ∧ s.m.refuser 13 1 0 (s.m.wakeOf 13 0 != 0) true = none ∧
       (mk fun m => { m with pwr := { m.pwr with turnOn := [([13], none)] } }).m.domWanted 13 = true) ∧
    (let c := pkt 0x80 (par 4 1);
     let s := mk fun m => (m.fs (REN_S_STAT 127) REN_S_STAT_state 3);
     s.m.domState 4 ≠ c.b 9 ∧ s.m.domWanted 4 = false ∧ (s.m.refuser 4 1 0 false true).isSome = true) ∧
    (State.reset.m.domState 13 = 0 ∧
      (let s := mk (·.fs (pwrStat 13) PWR_D_STAT_state 1);
       s.m.domState 13 ≠ 0 ∧ (s.m.domNeeds 13).any (fun e => (s.m.domMove e).isSome) = false)) ∧
    (domOfCode (coreOff1.b 8) = some 0 ∧
       State.reset.m.serves coreOff1 (cmdBare coreOff1) ((domOfCode (coreOff1.b 8)).isSome && decide (coreOff1.b 9 ≤ 2)) = true ∧
       State.reset.m.domState 0 ≠ 2 ∧ State.reset.m.coreMoving = false ∧ State.reset.m.coreWanted = false ∧ coreOff1.arrival.val = 1) ∧
    (domOfCode ((pkt 0x81 (par 0x83 0)).b 8) = some 18) ∧
    (∀ d ∈ [4, 18], (domMoving d entry).m.domMove d = some entry ∧ (domMoving d entry).m.dmc.slots = []) ∧
    (coreLeaving.m.domMove 0 = some { entry with target := 2 } ∧ coreLeaving.m.pwr.coreOff = some coreOff1 ∧ coreLeaving.m.dieBusy = false) ∧
    ((domMoving 13 exit).m.domMove 13 = some exit ∧ (domMoving 13 exit).m.domState 13 ≠ 2 ∧
      (let s := mk fun m => { (m.setMove 1 (some exit)).fs (pwrStat 1) PWR_D_STAT_state 2 with boot := { m.boot with invalid := [0] } };
       s.m.domMove 1 = some exit ∧ s.m.domState 1 = 2 ∧ s.m.exitFails 1 = true) ∧
      (domMoving 4 exit).m.domMove 4 = some exit ∧ exit.begun = false) ∧
    (let s := mk (·.fs (PWR_D_CFG 2) PWR_D_CFG_wake 127);
     s.m.wakeOf 2 (2 ^ 2) ≠ 0 ∧ State.reset.m.wakeOf 18 (2 ^ 7) = 0 ∧ (s.m.fs (pwrStat 2) PWR_D_STAT_state 1).domOn 2 = false ∧ s.m.domMove 2 = none ∧
       s.m.domOn 2 = true ∧ s.m.pwr.turnOn.any (·.1.contains 2) = false) ∧
    (let s := mk fun m => (m.setIsl 7 3 1).fs (PWR_D_CFG 7) PWR_D_CFG_sleep_idle 1;
     s.m.domOn 7 = true ∧ s.m.isl 7 3 = 1 ∧ s.m.isl 7 2 = 0 ∧ s.m.fg (PWR_D_CFG 7) PWR_D_CFG_sleep_idle ≠ 0 ∧ s.m.sleepBarred 7 = false ∧
       State.reset.m.isl 7 3 = 0 ∧ (s.m.fs (pwrStat 7) PWR_D_STAT_state 1).domOn 7 = false) ∧
    (let s := mk (·.fs PWR_CORE_WAKE PWR_CORE_WAKE_smbus 1);
     getF (mk (·.wr PWR_CORE_WAKE 0)).m.wakeWord PWR_CORE_WAKE_waken = 0 ∧ getF s.m.wakeWord PWR_CORE_WAKE_smbus ≠ 0 ∧ s.m.pwr.off = false ∧
       (let o := mk fun m => { m with pwr := { m.pwr with off := true, wake := 0xFFFFFFFF#32 } };
        o.m.pwr.off = true ∧ getF o.m.wakeWord PWR_CORE_WAKE_smbus ≠ 0)) := by decide +kernel

theorem witness_SwitchesTripRecoverAndLatch :
    (let s := fun n => mk (·.fs (PDI_HOOP_STAT 11) PDI_HOOP_STAT_state n);
     (s 1).m.swState (.hoop 11) = swInrush ∧ (s 2).m.swState (.hoop 11) = swOn ∧ (s 2).m.fg (PDI_HOOP_STAT 11) PDI_HOOP_STAT_limiting = 0 ∧
       (s 2).m.swLive (.hoop 11) = true ∧ (s 0).m.swLive (.hoop 11) = false ∧ (s 0).m.swState (.hoop 11) ≠ swInrush ∧
       ((s 2).m.sw (.hoop 11)).window = false ∧ (((s 2).m.setSw (.hoop 11) { window := true }).sw (.hoop 11)).window = true ∧
       (let t : State := { s 2 with m := (s 2).m.setSw (.hoop 11) { timing := true } };
        t.m.swLive (.hoop 11) = true ∧ (t.m.sw (.hoop 11)).timing = true) ∧ ((s 0).m.sw (.hoop 11)).timing = false) ∧
    (State.reset.m.supplyBad 8 false = false ∧ State.reset.m.supplyBad 8 true = false ∧
      (∀ n ∈ [0, 7, 8], (mk fun m => { m with pdi := { m.pdi with badSupply := [2 * n] } }).m.supplyBad n false = true)) ∧
    (∀ w ∈ [Switch.hoop 11, .vbus 47], let s := mk fun m => (m.fs (swStat w) PDI_HOOP_STAT_state 3).setSw w { holdoff := true };
      s.m.swState w = swHoldoff ∧ (s.m.sw w).holdoff = true ∧ State.reset.m.swState w ≠ swHoldoff) ∧
    (State.reset.m.fg PDI_PWR_STAT PDI_PWR_STAT_safe_stop = 0 ∧
      (mk (·.fs PDI_PWR_STAT PDI_PWR_STAT_safe_stop 1)).m.fg PDI_PWR_STAT PDI_PWR_STAT_safe_stop = 1) := by decide +kernel

/-- Chain port 3 in a state of R456, with its port engine. -/
def chainAt (st : Nat) (x : ChPort := {}) : State := mk fun m => (m.fs (CHN_P_STAT 3) CHN_P_STAT_state st).setChp 3 x

/-- A sound flit of a kind, with sequence number 255. -/
def flit (kind : BitVec 2) (code : Byte) : Flit := ⟨kind, 0, true, 1, 255, 0, 7, 0, true, code :: List.replicate 55 0⟩

/-- One flit held for acknowledgement. -/
def txf : TxFlit := ⟨0, true, 1, 9, []⟩

theorem witness_ChainLinksCarryFlits :
    ((chainAt 2).m.domOn 7 = true ∧ (chainAt 2).m.fg (CHN_P_STAT 3) CHN_P_STAT_state = 2 ∧ State.reset.m.fg (CHN_P_STAT 3) CHN_P_STAT_state ≠ 2) ∧
    ((chainAt 2).m.linkUp 3 = false ∧ (chainAt 3).m.linkUp 3 = true) ∧
    (let s : State := { chainAt 0 { quiet := true } with m := (chainAt 0 { quiet := true }).m.fs CHN_CTRL CHN_CTRL_port_en 8 };
     (s.m.chp 3).quiet = true ∧ s.m.domOn 7 = true ∧ s.m.chnEnabled 3 = true ∧ ((chainAt 0).m.chp 3).quiet = false) ∧
    ({ flit 1 0 with crcOk := false }.crcOk = false ∧ (flit 1 0).crcOk = true ∧ flitKnown (flit 3 0) = false ∧
      (flitKnown (flit 0 0) = true ∧ flitSequenced (flit 0 0) = false) ∧
      (flitKnown (flit 1 0) = true ∧ flitSequenced (flit 1 0) = true ∧
        (flit 1 0).seq.toNat ≠ ((((chainAt 3).m.at_ 9).flitFields 3 (flit 1 0)).chp 3).rxExp ∧
        (flit 1 0).seq.toNat = ((((chainAt 3 { rxExp := 255 }).m.at_ 9).flitFields 3 (flit 1 0)).chp 3).rxExp) ∧
      flitKnown (flit 2 5) = true ∧ flitSequenced (flit 2 5) = true) ∧
    (((chainAt 3).m.chp 3).held.dropWhile (fun f => f.seq != (9#8 : BitVec 8).toNat) = [] ∧ (9#8 : BitVec 8).toNat ≠ ((chainAt 3).m.chp 3).txSeq ∧
      ((chainAt 3 { held := [txf] }).m.chp 3).held.dropWhile (fun f => f.seq != (9#8 : BitVec 8).toNat) ≠ [] ∧
      ((chainAt 3 { held := [txf] }).m.chp 3).replaySeq ≠ some 9 ∧
      ((chainAt 3 { held := [txf], replaySeq := some 9, replays := 4 }).m.chp 3).replaySeq = some 9 ∧
      4 ≤ ((chainAt 3 { held := [txf], replaySeq := some 9, replays := 4 }).m.chp 3).replays) ∧
    (((chainAt 3).m.chp 3).rx = [] ∧
      (∀ bs ∈ [[0x40#8, 0, 0, 0, 0, 0, 0, 0, 0, 0, 0, 0, 0, 0, 0, 0], [0x01#8, 0xE0, 0, 0, 0, 0, 0, 0, 0, 0, 0, 0, 0, 0, 0, 0]],
        ((chainAt 3 { rx := [(0, 1, bs)] }).m.chp 3).rx = [(0, 1, bs)]) ∧
      ((routeHdr [0x40#8]).linkLocal = true ∧ forReports (routeHdr [0x40#8]) = false) ∧
      State.reset.m.qMayBegin 51 = true ∧ State.reset.m.feed 52 1 = [] ∧
      (let s := mk (·.setFeed 52 1 [cell47]);
       s.m.feed 52 1 ≠ [] ∧ (mk (·.setQ 51 { owed := [16384] })).m.qMayBegin 51 = false) ∧
      (let h := routeHdr [0x01#8, 0xE0#8];
       h.linkLocal = false ∧ forReports h = false ∧ State.reset.m.fg (CHN_ROUTE h.src) CHN_ROUTE_join ≠ h.join)) := by decide +kernel

/-- A hub of node 1 with its parent on port 3. -/
def child (f : Mach → Mach) : State :=
  mk fun m => f ((((m.fs (CHN_P_STAT 3) CHN_P_STAT_state 3).fs CHN_STAT CHN_STAT_parent_port 3).fs CHN_STAT CHN_STAT_has_parent 1).fs GLB_NODE GLB_NODE_node 1)

theorem witness_ChainTimeAndAlerts :
    (State.reset.m.node = 0 ∧ State.reset.m.parentLink = none) ∧
    (let s := child id;
     s.m.parentLink = some 3 ∧ s.m.node ≠ 0 ∧ (s.m.at_ 9).chn.fresh = true ∧ (s.m.at_ 9).parentLink = some 3) ∧
    (let s := child fun m => { m with chn := { m.chn with fresh := false, lastSync := some 10000 } };
     let m := s.m.at_ 20000;
     let d : Nat → Int := fun ts => (8 * ts + m.fg (CHN_P_STAT 3) CHN_P_STAT_delay : Nat) - (8 * 20000 : Nat);
     m.chn.fresh = false ∧ m.chn.newParent = false ∧ d 19999 ≤ 0 ∧ 0 < d 20500 ∧ m.chn.lastSync = some 10000 ∧ 4000 < (d 20501).natAbs ∧ (d 20500).natAbs ≤ 4000) ∧
    (let s := child fun m => { m with chn := { m.chn with fresh := false, newParent := true } };
     (s.m.at_ 9).chn.newParent = true) ∧
    ((chainAt 3).m.linkUp 3 = true ∧ (chainAt 2).m.linkUp 3 = false ∧ ((chainAt 3).m.chp 3).t1 = none ∧ ((chainAt 3 { t1 := some 5 }).m.chp 3).t1 = some 5) ∧
    ((State.reset.m.at_ 9).chn.lastSync = none ∧
      (let s := child fun m => { m.fs GLB_NODE GLB_NODE_joined 1 with chn := { m.chn with lastSync := some 0 } };
       let m := s.m.at_ 10000001;
       m.chn.lastSync = some 0 ∧ 0 + 10000000 < 10000001 ∧ m.node ≠ 0 ∧ m.joined = true ∧ m.domOn 6 = true ∧ 10000000 ≤ 0 + 10000000)) ∧
    ((0x74#8 : BitVec 8).toNat ≠ 6) ∧
    (State.reset.m.flt.proof = none ∧ (proving 5).m.flt.proof = some { test := 5, cmd := some (pkt 0x72) } ∧ 31 ∉ ([] : List Nat)) := by decide +kernel

/-- A discovery in a phase on node 0. -/
def discovering (d : Disc) : State := mk fun m => { m with chn := { m.chn with disc := some d } }

/-- Node 1 has taken a probe from port 3, which is up. -/
def probed1 (pend : Option TopoMsg) : State := child fun m => { m with chn := { m.chn with probed := some (5, 1, 3), pend := pend } }

/-- A topology. -/
def topo : TopoMsg := ⟨[⟨0, 1, 0, 3⟩, ⟨1, 0, 0, 4⟩], some 3, [], 7, 2, 1, false⟩

/-- A report of a hub without links. -/
def rep (serial : BitVec 64) (node : Fin 32) : NodeRep := ⟨serial, node, List.replicate 4 ⟨false, 0, 0, 0⟩⟩

theorem witness_DiscoveryMessagesInstallTopologies :
    ((chainAt 2).m.linkUp 3 = false ∧ (chainAt 3).m.linkUp 3 = true ∧ (chainAt 3).m.node = 0) ∧
    ((child id).m.node ≠ 0 ∧ (child id).m.chn.probed = none ∧ (probed1 none).m.linkUp 3 = true ∧ (probed1 none).m.chn.probed = some (5, 1, 3)) ∧
    (let d : Disc := { phase := 3, cmd := none };
     (discovering d).m.node = 0 ∧ (discovering d).m.chn.disc = some d ∧ d.reports.find? (fun e => e.node == (rep 1 1).node) = none) ∧
    (let d : Disc := { phase := 3, cmd := none, reports := [rep 1 1] };
     d.reports.find? (fun e => e.node == (rep 2 1).node) = some (rep 1 1) ∧ (rep 1 1).serial ≠ (rep 2 1).serial) ∧
    (∀ done ∈ [true, false], let r0 : NodeRep := ⟨9, 0, [⟨true, 1, 0, 0⟩, ⟨false, 0, 0, 0⟩, ⟨false, 0, 0, 0⟩, ⟨false, 0, 0, 0⟩]⟩;
      let r1 : NodeRep := ⟨8, 1, [⟨true, 0, 0, 0⟩, ⟨!done, 2, 0, 0⟩, ⟨false, 0, 0, 0⟩, ⟨false, 0, 0, 0⟩]⟩;
      let r2 : NodeRep := ⟨7, 2, [⟨true, 1, 1, 0⟩, ⟨false, 0, 0, 0⟩, ⟨false, 0, 0, 0⟩, ⟨false, 0, 0, 0⟩]⟩;
      let d : Disc := { phase := 5, cmd := none, reports := [r0, r1, r2] };
      (discovering d).m.chn.disc = some d ∧ (topoNodes d.reports).all (fun n => n == 0 || [1].contains n) = done) ∧
    ((probed1 (some topo)).m.chn.pend = some topo ∧ (probed1 none).m.chn.pend = none) ∧
    (∀ k ∈ [1, 3, 5], (discovering { phase := k, cmd := none }).m.chn.disc = some { phase := k, cmd := none }) ∧
    (State.reset.m.chn.disc = none ∧ State.reset.m.joined = false) ∧
    (let s := child fun m => m.fs GLB_NODE GLB_NODE_joined 1;
     s.m.node ≠ 0 ∧ s.m.joined = true ∧ s.m.routePort 0 = none) := by decide +kernel

/-- The boot stands at a step. -/
def booting (k : Nat) : State := mk fun m => { m with boot := { m.boot with step := some k } }

/-- A boot step that passed or failed. -/
def bres (pass : Bool) : BootRes := ⟨pass, 0, 5, 25⟩

theorem witness_ResetsBootAndFirmware :
    (let s := fun once => mk fun m => { m.fs JNL_WDOG JNL_WDOG_enable 1 with boot := { m.boot with step := some 3, wdogOnce := once } };
     State.reset.m.wdogRuns = false ∧ (s false).m.wdogRuns = true ∧ (s false).m.boot.wdogOnce = false ∧ (s true).m.wdogRuns = true ∧ (s true).m.boot.wdogOnce = true) ∧
    ((mk fun m => { m with boot := { m.boot with step := none } }).m.boot.step = none ∧ (booting 0).m.boot.step = some 0 ∧
      (bres true).pass = true ∧ (booting 0).m.pdi.badSupply = [] ∧
      (let s : State := { booting 0 with m := { (booting 0).m with pdi := { (booting 0).m.pdi with badSupply := [4] } } };
       s.m.boot.step = some 0 ∧ s.m.pdi.badSupply ≠ []) ∧
      (booting 1).m.boot.step = some 1 ∧ (booting 7).m.boot.step = some 7 ∧ (booting 11).m.boot.step = some 11 ∧
      ((booting 11).m.bootTime 5).fg HUB_STAT HUB_STAT_vbus_det = 0 ∧
      (((booting 11).m.fs HUB_STAT HUB_STAT_vbus_det 1).bootTime 5).fg HUB_STAT HUB_STAT_vbus_det = 1) ∧
    (let c := pkt 0x90 (BitVec.ofNat 64 (1 + 42 * 2 ^ 48));
     State.reset.m.domOn 1 = true ∧ State.reset.m.serves c (cmdBare c && decide (c.p 14 2 ≤ 42)) (decide (c.b 8 ≤ 1)) = true) ∧
    (let c := pkt 0xA0 (par 1 0 (2 ^ 22 - 4)) [1, 2, 3, 4];
     State.reset.m.serves c (decide (4 ≤ c.payload.length ∧ c.payload.length ≤ 1024 ∧ c.p 12 4 + c.payload.length ≤ 2 ^ 22)) (decide (c.b 8 ≤ 1)) = true ∧
       State.reset.m.boot.slot ≠ some (fwSlot c) ∧ (mk fun m => { m with boot := { m.boot with slot := some 1 } }).m.boot.slot = some (fwSlot c) ∧
       State.reset.m.boot.fw = [] ∧ (mk fun m => { m with boot := { m.boot with fw := [c] } }).m.boot.fw = [c]) ∧
    (let c := pkt 0xA1 (par 1 0);
     State.reset.m.serves c (cmdBare c) (decide (c.b 8 ≤ 1)) = true ∧ State.reset.m.authSlot (c.b 8) ≠ 0 ∧
       retaining.m.boot.retaining = true ∧ State.reset.m.boot.retaining = false) := by decide +kernel

theorem witness_LockBitsLastUntilAChipReset :
    (∃ t, step State.reset = .next t) ∧ canReach State.reset port0 GLB_GUARD true = true := ⟨⟨_, rfl⟩, by decide +kernel⟩

theorem witness_DramKeepsItsCanonicalForm : Memory.wf State.reset = true ∧ ∃ t, step State.reset = .next t := ⟨by decide +kernel, _, rfl⟩

theorem witness_OnlyDramRowsWriteTheDram :
    writesDram .heartbeatLost = false ∧ (∃ t, exec .heartbeatLost State.reset = .next t) ∧
      (∃ t, step { State.reset with pending := [.keyedStoreTimeout] } = .next t) := ⟨by decide +kernel, ⟨_, rfl⟩, ⟨_, rfl⟩⟩

theorem witness_EveryCommandAnswersUnlessReserved : writesRegister .tallySweep = false ∧ firesCams .tallySweep = false := by decide +kernel

theorem witness_BadCrcIsAnsweredBeforeAnythingElse :
    (∀ i ∈ [Instr.nop { pkt 0 with crcOk := false }, .streamDefine { pkt 0x30 with crcOk := false }],
      (i.cmd).isSome = true ∧ State.reset.m.coreDead = false ∧ State.reset.m.cmd.gone = [] ∧ i.cmd.all (fun c => !c.crcOk) = true ∧
        (blockDomain i).all (fun d => State.reset.m.domOn d && !State.reset.m.domLeaving d) = true) ∧
    (blockDomain (.streamDefine (pkt 0x30)) = some 5 ∧ (mk (·.fs (pwrStat 5) PWR_D_STAT_state 2)).m.domOn 5 = false) := by decide +kernel

/-- A REG_REQ that crosses to the power die and a REG_RSP on its way back. -/
def pdiAsked (r : PdiReq) : State := mk fun m => { m with dl := { m.dl with reqs := [r] } }

theorem witness_PdiAccessesCrossTheDieLink :
    (let c := rpkt 0x10 (PDI_HOOP_CFG 11) 0 0;
     State.reset.m.serves c (cmdBare c) true = true ∧ State.reset.m.accessGate c.arrival.val false (c.p 8 3) none = none ∧ isPdi (c.p 8 3) = true ∧
       State.reset.m.dl.quiet = true ∧ dlHeld.m.dl.quiet = false ∧ dlHeld.m.dl.inService = true) ∧
    (let c := rpkt 0x11 (PDI_HOOP_CFG 11) 15 1;
     State.reset.m.serves c (cmdBare c) true = true ∧ State.reset.m.accessGate c.arrival.val false (c.p 8 3) (some 15) = none ∧ isPdi (c.p 8 3) = true) ∧
    (let x : PdiAct := { addr := PDI_HOOP_CFG 11 };
     let ask : PdiReq := { who := .cmd (pkt 0x10), reqs := [x], writes := false };
     let ans : PdiReq := { who := .cmd (pkt 0x10), reqs := [], done := [(0, 25)], writes := false };
     (∀ s ∈ [pdiAsked ask, pdiAsked ans], s.m.dl.inService = true ∧ s.m.coreDead = false ∧
        ∀ e ∈ [DieEnd.core, .power], (s.m.dl.dir e.other).rxExp = 0 ∧ (s.m.dl.dir e.other).dup = 0) ∧
     (pdiAsked ask).m.dl.reqs.find? (fun r => !r.reqs.isEmpty) = some ask ∧
     (pdiAsked ans).m.dl.reqs.find? (fun r => !r.done.isEmpty) = some ans ∧ ans.done = [(0, 25)] ∧ ans.reqs = [] ∧
       rmwWrite ans.who (ans.got ++ [(0, 25)]) = none ∧ (mk fun m => { m with pwr := { m.pwr with off := true } }).m.coreDead = true) := by decide +kernel

/-! ### Single steps: the expected values are worked out by hand from the rules named -/

/-- The arguments of the last thing put out, from a position on. -/
def lastArgs (t : State) (k : Nat) : List Nat := ((t.m.out.getLast?).map (fun o => o.args.drop k)).getD []

/-- R8, R9: sequence numbers count modulo 16. -/
theorem test_dielink_sequence_wraps :
    gives (exec (.dielinkPacketRx .power (dlp 1 15)) (mk fun m => { m with dl := { m.dl with down := { rxExp := 15 } } }))
      (fun t => t.m.dl.down.rxExp == 0) = true := by decide +kernel

/-- R12, R548: the count of HEARTBEAT packets wraps after 65,535. -/
theorem test_heartbeat_count_wraps :
    gives (exec .heartbeatSend (mk fun m => { m with flt := { m.flt with hbOn := true, hbCount := 65535 } }))
      (fun t => t.m.flt.hbCount == 0) = true := by decide +kernel

/-- R28: with N = 16 a backward step from count 0 gives 15. -/
theorem test_encoder_counts_back :
    gives (exec (.encoderEdge 1 false true 255 0) (shaftZ {})) (fun t => (t.m.enc 1).count == 15) = true := by decide +kernel

/-- R28: a change of both levels at once is an error and not a count. -/
theorem test_encoder_double_change :
    gives (exec (.encoderEdge 1 true true 255 0) (shaftZ {}))
      (fun t => (t.m.enc 1).count == 0 && t.m.fg SHF_ENC_ERR SHF_ENC_ERR_enc1_err == 1 && t.m.fg SHF_STAT SHF_STAT_enc_ev == 1) = true := by decide +kernel

/-- R40, R41: action 4 drives its GPIO high and ends low; reserved action 7 stops. -/
theorem test_cam_pulse :
    gives (exec (.camFirePredicted 31 3000000) (camReady 4 23)) (fun t => (t.m.rg GLB_GPIO_OUT).toNat == 2 ^ 23 && t.m.fg (SHF_CAM_CNT 31) SHF_CAM_CNT_fired == 1)
      = true ∧ stops (exec (.camFirePredicted 31 3000000) (camReady 7 0)) (.reservedEncoding (SHF_CAM_CFG 31)) = true := by decide +kernel

/-- R45: at 2.049 s the frame number is 2,049 mod 2,048 = 1. -/
theorem test_sof_frame_number :
    gives (exec (.sofLaunch 47 2049000000) (delegated 6)) (fun t => lastArgs t 0 == [47, 5, 1]) = true := by decide +kernel

/-- R66: STREAM_DEFINE shows DEFINED and answers 1. -/
theorem test_stream_define :
    gives (exec (.streamDefine define127) State.reset) (fun t => t.m.strState 127 == 1 && (lastArgs t 6).take 2 == [0, 1]) = true := by decide +kernel

/-- R67, R393: kind 0 in both banks fails check 7. -/
theorem test_stream_arm_check :
    gives (exec (.streamArm (pkt 0x31 (par 127 0))) (strAt 0 1)) (fun t => (lastArgs t 6).take 2 == [0x13, 7] && t.m.strState 127 == 1) = true := by
  decide +kernel

/-- R125: the third present sample in a row holds power. -/
theorem test_presence :
    gives (exec (.presenceSample 47 true false) (portIn 2 0 { presRun := 2 })) (fun t => t.m.pst 47 == 1 && t.m.fg (PRT_STAT 47) PRT_STAT_present == 1) = true := by
  decide +kernel

/-- R164, R5: role 0b11 is reserved; the model stops. -/
theorem test_reserved_role :
    stops (exec (.regWrKeyed (rpkt 0x13 (PRT_ROLE 47) 0 3 (leBytes 4 0xFFFFFFFC))) State.reset) (.reservedEncoding (PRT_ROLE 47)) = true := by decide +kernel

/-- R157: a delegated port in ENABLED is suspended. -/
theorem test_suspend : gives (exec (.prtSuspend port0 47) (portIn 2 6)) (fun t => t.m.pst 47 == 7) = true := by decide +kernel

/-- R145, R146: the shadow entry becomes the active one. -/
theorem test_slot_copy :
    gives (exec (.slotCopy 47 3000000) (mk fun m => (m.fs (PRT_SLOT_CTRL 47) PRT_SLOT_CTRL_pending 1).wr (slotShadow 47 31) 0xFF#32))
      (fun t => t.m.rg (slotActive 47 31) == 0xFF#32) = true := by decide +kernel

/-- R393: NOP answers OK, ECHO its payload. -/
theorem test_nop_echo :
    gives (exec (.nop (pkt 0)) State.reset) (fun t => (lastArgs t 6).take 1 == [0]) = true ∧
      gives (exec (.echo (pkt 1 0 [1, 2, 3])) State.reset) (fun t => (t.m.out.getLast?).map (·.bytes) == some [1, 2, 3]) = true := by decide +kernel

/-- R390: a wrong CRC is BAD_CRC, a payload where none is allowed BAD_LENGTH. -/
theorem test_command_checks :
    gives (exec (.nop { pkt 0 with crcOk := false }) State.reset) (fun t => (lastArgs t 6).take 1 == [0x04]) = true ∧
      gives (exec (.nop (pkt 0 0 [1])) State.reset) (fun t => (lastArgs t 6).take 1 == [0x03]) = true := by decide +kernel

/-- R412: the chip ID by REG_RD, bytes 12-15. -/
theorem test_read_chip_id :
    gives (exec (.regRd (rpkt 0x10 GLB_CHIPID 0 0)) State.reset) (fun t => lastArgs t 6 == [0, 0x484000A1 * 2 ^ 24]) = true := by decide +kernel

/-- R420, R421: a plain write of a guarded register is KEY_MISMATCH; with its complement it is stored. -/
theorem test_keyed_write :
    gives (exec (.regWr (rpkt 0x11 DMC_CFG 15 1)) State.reset)
      (fun t => (lastArgs t 6).take 1 == [0x09] && t.m.fg GLB_KEYERR GLB_KEYERR_key == 1) = true ∧
    gives (exec (.regWrKeyed (rpkt 0x13 DMC_CFG 0 1 (leBytes 4 0xFFFFFFFE))) State.reset) (fun t => (lastArgs t 6).take 1 == [0]) = true := by decide +kernel

/-- R423: a lock bit is set by writing 1, and a locked group's registers are LOCKED. -/
theorem test_guard :
    gives (exec (.regWrite port0 (BitVec.ofNat 24 GLB_GUARD) 8 15) State.reset) (fun t => t.guard == 8) = true ∧
      gives (exec (.regWr (rpkt 0x11 DMC_CFG 15 1)) { State.reset with guard := 8 }) (fun t => (lastArgs t 6).take 1 == [0x08]) = true := by decide +kernel

/-- R411: an address that is not a multiple of 4, and a byte write of a word register. -/
theorem test_access_checks :
    gives (exec (.regRd (rpkt 0x10 (SHF_PLAUS + 1) 0 0)) State.reset) (fun t => t.m.fg GLB_ACCERR GLB_ACCERR_align == 1) = true ∧
      gives (exec (.regWr (rpkt 0x11 SHF_PLAUS 1 1)) State.reset) (fun t => t.m.fg GLB_ACCERR GLB_ACCERR_width == 1) = true := by decide +kernel

/-- R426, R427: a lock broken by the reset is acquired with LOCK_BROKEN; another's lock is BUSY. -/
theorem test_lock_acquire :
    gives (exec (.lockAcquire (pkt 0x60 (par 31 0))) State.reset) (fun t => t.m.lockHeld 31 && t.m.fg (LCK_LOCK 31) LCK_LOCK_broken == 0) = true ∧
      gives (exec (.lockAcquire { pkt 0x60 (par 31 0) with chan := 1 }) (mk (·.fs (LCK_LOCK 31) LCK_LOCK_state 1)))
        (fun t => (lastArgs t 6).take 1 == [0x0A]) = true := by decide +kernel

/-- R193, R202: a one-cell packet leaves its queue with one credit. -/
theorem test_cell_delivery :
    gives (exec (.xbarCellDeliver 47 56 1 true true true) (cellMatched true)) (fun t => (t.m.voq 47 56 1).length == 1 && t.m.credit 56 2 == 0) = true := by
  decide +kernel

/-- R215: a full queue takes no word. -/
theorem test_full_queue :
    gives (exec (.queueWordWrite 0 1 true 0 0) (mk fun m => { m with que := [(0, { words := List.replicate 512 lastW })] }))
      (fun t => (t.m.q 0).words.length == 512) = true := by decide +kernel

/-- R243, R250: a write of one byte to address 255, and writing 0 back unlists it. -/
theorem test_dram_write :
    gives (exec (.dramRequestComplete 3 [] [] 0) { mk (·.setSlot 3 (some ⟨dreq 2, 1, 0, true, false⟩)) with dram := [(254, 9)] })
      (fun t => t.dram == [(254, 9), (255, 5)]) = true ∧
    gives (exec (.dramRequestComplete 3 [] [] 0) { mk (·.setSlot 3 (some ⟨{ dreq 2 with data := [0] }, 1, 0, true, false⟩)) with dram := [(254, 9), (255, 5)] })
      (fun t => t.dram == [(254, 9)]) = true := by decide +kernel

/-- R265: above 85 °C hot refresh, above 95 °C the fault. -/
theorem test_temperature :
    gives (exec (.tempEstimate 0 [⟨95, false, false⟩, ⟨96, false, false⟩]) (mk (·.fs DMC_TEMP DMC_TEMP_src 1))) (fun t => t.m.dmc.hotNext && t.m.fg DMC_STAT DMC_STAT_temp_ev == 1) = true := by
  decide +kernel

/-- R338: GetPortStatus of logical port 0 is STALL (kind 3). -/
theorem test_port_zero_stalls :
    gives (exec (.getPortStatus 0) (hubPort 6)) (fun t => lastArgs t 0 == [3, 0]) = true := by decide +kernel

/-- R351: SET_ADDRESS 5 observed while port 47 owns address 0: port 47 owns address 5. -/
theorem test_set_address_observed :
    gives (exec (.setAddressObserved 5) { hubPort 6 with m := ((hubPort 6).m.fs HUB_STAT HUB_STAT_speed 3).wr (steerAddr 0) (steerWord 47) })
      (fun t => t.m.steered 5 == some 47) = true := by decide +kernel

/-- R362, R364: GET_CMF_INFO begins with the chip ID. -/
theorem test_cmf_info :
    gives (exec .getCmfInfo (onBus 4 2)) (fun t => ((t.m.out.getLast?).map (fun o => o.bytes.take 4)) == some (leBytes 4 0x484000A1)) = true := by decide +kernel

/-- R405: a Block Write with a bad PEC is not acknowledged. -/
theorem test_smbus_bad_pec : gives (exec (.smbusBlockWrite [1] false) State.reset) (fun t => lastArgs t 0 == [1]) = true := by decide +kernel

/-- R537, R545: source 0x74, detail 9: valid, group 7, class B, 0x74, 9. -/
theorem test_first_fault :
    gives (exec (.faultRaise 0x74 9) collector) (fun t => t.m.rg FLT_FIRST == 0xFB740009#32) = true := by decide +kernel

/-- R490, R496, R497: a fault timer's end trips the hoop with cause 1; the holdoff's end latches it. -/
theorem test_hoop_trips :
    gives (exec (.faultTimerExpiry (.hoop 11)) (mk fun m => (m.fs (PDI_HOOP_STAT 11) PDI_HOOP_STAT_state 2).setSw (.hoop 11) { timing := true }))
      (fun t => t.m.swState (.hoop 11) == 3 && t.m.fg (PDI_HOOP_STAT 11) PDI_HOOP_STAT_cause == 1) = true ∧
    gives (exec (.holdoffEnd (.hoop 11)) (mk fun m => (m.fs (PDI_HOOP_STAT 11) PDI_HOOP_STAT_state 3).setSw (.hoop 11) { holdoff := true }))
      (fun t => t.m.swState (.hoop 11) == 4) = true := by decide +kernel

/-- R515: 759 mV sets the assist, 760 and 770 mV keep it, 771 mV clears it. -/
theorem test_vcore_assist :
    gives (exec (.vcoreAssistChange 759) State.reset) (fun t => t.m.fg PWR_VCORE PWR_VCORE_assist == 1) = true ∧
    gives (exec (.vcoreAssistChange 770) (mk (·.fs PWR_VCORE PWR_VCORE_assist 1))) (fun t => t.m.fg PWR_VCORE PWR_VCORE_assist == 1) = true ∧
    gives (exec (.vcoreAssistChange 771) (mk (·.fs PWR_VCORE PWR_VCORE_assist 1))) (fun t => t.m.fg PWR_VCORE PWR_VCORE_assist == 0) = true := by decide +kernel

/-- R458, R459: flit sequence numbers count modulo 256. -/
theorem test_flit_sequence_wraps :
    gives (exec (.flitRx 3 (flit 1 0) 9) (chainAt 3 { rxExp := 255 })) (fun t => (t.m.chp 3).rxExp == 0) = true := by decide +kernel

/-- R470: request at 100 ns, arrival at 140, answer at 150, back at 180: delay (80 - 10) / 2 = 35 ns, 280 units of 0.125 ns. -/
theorem test_link_delay :
    gives (exec (.delayRespRx 3 280 300 360) (chainAt 3 { t1 := some 200 })) (fun t => t.m.fg (CHN_P_STAT 3) CHN_P_STAT_delay == 280) = true := by decide +kernel

/-- R576: RESET_N low for less than 1 us. -/
theorem test_short_reset : gives (exec (.coldReset 0 799) collector) (fun t => t.m.flt.on) = true := by decide +kernel

/-- R75: the check value of CRC-32C, over the ASCII digits 1 to 9. -/
theorem test_crc32c : crc32c ((upTo 9).map (fun i => BitVec.ofNat 8 (0x31 + i))) = 0xE3069283#32 := by decide +kernel

/-- An empty queue leaves everything but chain time; a queue gives its front command. -/
theorem test_step :
    gives (step State.reset) (fun t => t == State.reset) = true ∧
      gives (step { State.reset with pending := [.nop (pkt 0), .tallySweep] }) (fun t => t.pending == [.tallySweep] && t.m.out.length == 1) = true := by
  decide +kernel

end Sys2Proof.Tests
end

section
/-! Every command answers a next state or stops at a reserved encoding (O51): the rows are divided by what they may do to the
state, and what `Laws/Exec` says of each kind names its outcomes. -/

namespace Sys2Proof.Machine

/-- The command answers a next state. -/
def Answers (o : Host.Outcome State Fault Refusal) : Prop := ∃ t, o = .next t

/-- The command answers a next state, or stops at a field that holds a reserved encoding. -/
def AnswersOrReserved (o : Host.Outcome State Fault Refusal) : Prop := Answers o ∨ ∃ a, o = .fault (.reservedEncoding a)

theorem Quiet.answers {s : State} {o : Host.Outcome State Fault Refusal} (h : Quiet s o) : Answers o := by
  obtain ⟨m, h⟩ := h
  exact ⟨_, h⟩

theorem Resets.answers {s : State} {o : Host.Outcome State Fault Refusal} (h : Resets s o) : Answers o := by
  obtain hq | ⟨t, ht, -⟩ := h
  · exact hq.answers
  · exact ⟨t, ht⟩

theorem WriteEnds.answersOrReserved {s : State} {o : Host.Outcome State Fault Refusal} (h : WriteEnds s o) : AnswersOrReserved o := by
  obtain hf | ⟨m, g, hm⟩ | ⟨t, ht, -⟩ := h
  · exact .inr hf
  · exact .inl ⟨_, hm⟩
  · exact .inl ⟨t, ht⟩

theorem AnswersOrReserved.not_refused {o : Host.Outcome State Fault Refusal} (h : AnswersOrReserved o) (r : Refusal) : o ≠ .refused r := by
  obtain ⟨t, rfl⟩ | ⟨a, rfl⟩ := h <;> exact nofun

theorem AnswersOrReserved.reserved_of_fault {o : Host.Outcome State Fault Refusal} (h : AnswersOrReserved o) {f : Fault} (hf : o = .fault f) :
    ∃ a, f = .reservedEncoding a := by
  obtain ⟨t, rfl⟩ | ⟨a, rfl⟩ := h
  · cases hf
  · cases hf; exact ⟨a, rfl⟩

/-- Only the rows that write a register or fire cams can stop: a row that writes the DRAM, one that resets the chip and one
that changes the machine part alone each answer. -/
theorem exec_answers (c : Instr) (s : State) (hw : writesRegister c = false) (hf : firesCams c = false) : Answers (exec c s) := by
  cases hd : writesDram c with
  | true =>
    obtain ⟨m, d, h, -⟩ := exec_dram c s hd
    exact ⟨_, h⟩
  | false =>
    cases hr : resetsChip c with
    | true => exact (exec_resets c s hr).answers
    | false => exact (exec_quiet c s hw hf hd hr).answers

theorem exec_answersOrReserved (c : Instr) (s : State) : AnswersOrReserved (exec c s) := by
  cases hw : writesRegister c with
  | true => exact (exec_writes c s hw).answersOrReserved
  | false =>
    cases hf : firesCams c with
    | true =>
      obtain ⟨n, hn⟩ | hq := exec_cams c s hf
      · exact .inr ⟨_, hn⟩
      · exact .inl hq.answers
    | false => exact .inl (exec_answers c s hw hf)

/-- Settles O51: the register writes and the cam rows end as `exec_writes` and `exec_cams` say, and every other row answers. -/
theorem everyCommandAnswersUnlessReserved : Obligations.EveryCommandAnswersUnlessReserved := fun c s =>
  ⟨(exec_answersOrReserved c s).not_refused, fun _ => (exec_answersOrReserved c s).reserved_of_fault, exec_answers c s⟩

end Sys2Proof.Machine
end
section
/-! Laws that the statements of the architecture share: answers that differ in the machine part alone, and what an event that sets
leaves of its status register (R417). -/

namespace Sys2Proof.Machine
open Reg

/-- Answers that differ in the machine part alone agree where it does. -/
theorem next_congr {s : State} {m n : Mach} (h : m = n) :
    (.next { s with m := m } : Host.Outcome State Fault Refusal) = .next { s with m := n } := by rw [h]

/-- An event that sets leaves the fields below `seq` as they are, but for its own. -/
theorem Mach.fg_ev_other (m : Mach) (a : Nat) {f g : Fd} (hf : f.lo + f.n ≤ 32) (hg : g.lo + g.n ≤ 24)
    (hd : g.lo + g.n ≤ f.lo ∨ f.lo + f.n ≤ g.lo) : (m.ev a f).fg a g = m.fg a g := by
  rw [Mach.fg_eq, Mach.rg_ev, ← Mach.fg_eq, Mach.fg_fs_other _ _ _ _ _ hf hd,
    Mach.fg_fs_other _ _ _ _ _ (by decide) (Or.inl hg)]

end Sys2Proof.Machine
end

section
/-! The stops that drop every hoop (O5): a lost heartbeat (R12) and SAFE_STOP_N (R496, R552). -/

namespace Sys2Proof.Machine
open Reg

/-- A stop's flag is set and its event reported in PDI_PWR_STAT (R503). -/
def Mach.flagStop (m : Mach) (flag event : Fd) : Mach := (m.fs PDI_PWR_STAT flag 1).ev PDI_PWR_STAT event

theorem Mach.flagStop_rg_ne (m : Mach) (flag event : Fd) {a : Nat} (h : a ≠ PDI_PWR_STAT) :
    (m.flagStop flag event).rg a = m.rg a := by
  rw [Mach.flagStop, Mach.rg_ev_ne _ _ h, Mach.rg_fs, if_neg h]

theorem Mach.flagStop_reads (m : Mach) {flag event : Fd} (hf : flag.n = 1) (he : event.n = 1) (hlt : event.lo < flag.lo)
    (hlo : flag.lo < 24) : (m.flagStop flag event).fg PDI_PWR_STAT flag = 1 ∧ (m.flagStop flag event).fg PDI_PWR_STAT event = 1 := by
  refine ⟨?_, Mach.fg_ev_same _ _ _ he (by omega)⟩
  rw [Mach.flagStop, Mach.fg_ev_other _ _ (by omega) (by omega) (by omega), Mach.fg_fs_same _ _ _ _ (by omega), hf]
  rfl

theorem swStat_ne_pwrStat (w : Switch) : swStat w ≠ PDI_PWR_STAT := by
  cases w <;> simp only [swStat, PDI_VBUS_STAT, PDI_HOOP_STAT, PDI_PWR_STAT] <;> omega

theorem swCnt_ne_pwrStat (w : Switch) : swCnt w ≠ PDI_PWR_STAT := by
  cases w <;> simp only [swCnt, PDI_VBUS_CNT, PDI_HOOP_CNT, PDI_PWR_STAT] <;> omega

/-- A switch that trips does not conduct afterwards, whether it did before or not. -/
theorem Mach.tripSw_not_live (m : Mach) (w : Switch) (cause : Nat) : (m.tripSw w cause).swLive w = false := by
  cases h : m.swLive w with
  | false => rw [Mach.tripSw, h]; exact h
  | true => simp [Mach.swLive, Mach.swState_eq, (Mach.tripSw_state m w cause h).1, swHoldoff, swInrush, swOn]

/-- From `m` to `n` every hoop has stopped: none conducts, those that did are in HOLDOFF with the cause and without power-good,
and no register but PDI_PWR_STAT and the hoops' own has changed. -/
def HoopsStopped (m n : Mach) (cause : Nat) : Prop :=
  (∀ k : Fin 12, n.swLive (.hoop k) = false ∧ (m.swLive (.hoop k) = true →
    n.fg (PDI_HOOP_STAT k) PDI_HOOP_STAT_state = 3 ∧ n.fg (PDI_HOOP_STAT k) PDI_HOOP_STAT_cause = cause ∧
    n.fg (PDI_HOOP_STAT k) PDI_HOOP_STAT_pgood = 0)) ∧
  (∀ a, a ≠ PDI_PWR_STAT → (∀ k : Fin 12, a ≠ PDI_HOOP_STAT k ∧ a ≠ PDI_HOOP_CNT k) → n.rg a = m.rg a)

/-- The trip of every hoop stops them, also after a step `m` to `n` that has written PDI_PWR_STAT alone. -/
theorem Mach.tripHoops_stops {m n : Mach} {cause : Nat} (hc : cause < 16) (h : ∀ a, a ≠ PDI_PWR_STAT → n.rg a = m.rg a) :
    HoopsStopped m (n.tripHoops cause) cause := by
  refine ⟨fun k => ⟨?_, fun hk => ?_⟩, fun a ha hs => ?_⟩
  · rw [Mach.swLive_congr (Mach.tripHoops_rg_stat n cause k), Mach.tripSw_not_live]
  · have hn : n.swLive (.hoop k) = true := (Mach.swLive_congr (h _ (swStat_ne_pwrStat _))).trans hk
    obtain ⟨hstate, hcause, hgood, -, -⟩ := Mach.tripSw_state n (.hoop k) cause hn
    have e := Mach.tripHoops_rg_stat n cause k
    rw [Mach.fg_eq, ← e, ← Mach.fg_eq] at hstate hcause hgood
    exact ⟨hstate, hcause.trans (Nat.mod_eq_of_lt hc), hgood⟩
  · rw [Mach.tripHoops_rg_other n cause a hs, h a ha]

/-- The trip of every hoop writes no register of another kind; PDI_PWR_STAT is one. -/
theorem Mach.tripHoops_pwrStat (m : Mach) (cause : Nat) (f : Fd) :
    (m.tripHoops cause).fg PDI_PWR_STAT f = m.fg PDI_PWR_STAT f := by
  rw [Mach.fg_eq, Mach.tripHoops_rg_other _ _ _ fun k => ⟨(swStat_ne_pwrStat _).symm, (swCnt_ne_pwrStat _).symm⟩, Mach.fg_eq]

theorem Mach.heartbeatMissed_unarmed {m : Mach} (h : m.pdi.armed = false) : m.heartbeatMissed = m := by
  simp [Mach.heartbeatMissed, h]

/-- An armed monitor that finds its first loss: flag and event, the trip of every hoop, and an EVENT that writes no register. -/
theorem Mach.heartbeatMissed_rg {m : Mach} (ha : m.pdi.armed = true) (hl : m.fg PDI_PWR_STAT PDI_PWR_STAT_hb_lost = 0) (a : Nat) :
    m.heartbeatMissed.rg a = ((m.flagStop PDI_PWR_STAT_hb_lost PDI_PWR_STAT_hb_ev).tripHoops cHeartbeat).rg a := by
  simp only [Mach.heartbeatMissed, ha, hl, Mach.flagStop]
  split
  · contradiction
  · split <;> simp only [Mach.pdEvent_rg]

theorem Mach.safeStopAssert_eq {m : Mach} (h : m.fg PDI_PWR_STAT PDI_PWR_STAT_safe_stop = 0) :
    m.safeStopAssert = ((m.flagStop PDI_PWR_STAT_safe_stop PDI_PWR_STAT_safe_stop_ev).pdEvent .safeStop).tripHoops cSafeStop := by
  simp [Mach.safeStopAssert, h, Mach.flagStop]

/-- What has stopped the hoops is seen in the registers alone. -/
theorem HoopsStopped.congr {m n n' : Mach} {cause : Nat} (h : HoopsStopped m n cause) (e : ∀ a, n'.rg a = n.rg a) :
    HoopsStopped m n' cause := by
  obtain ⟨hk, ha⟩ := h
  refine ⟨fun k => ?_, fun a h1 h2 => (e a).trans (ha a h1 h2)⟩
  rw [Mach.swLive_congr (e _)]
  simpa only [Mach.fg_eq, e] using hk k

/-- Settles O5: both stops write their flag and event, which leaves every hoop's register as it was, and then trip all hoops. -/
theorem stopsDropEveryHoop : Obligations.StopsDropEveryHoop := by
  refine ⟨fun s h => ?_, fun s ha hl => ?_, fun s hs => ?_⟩
  · exact next_congr (Mach.heartbeatMissed_unarmed h)
  · have hrg := Mach.heartbeatMissed_rg ha hl
    obtain ⟨hflag, hev⟩ := s.m.flagStop_reads (flag := PDI_PWR_STAT_hb_lost) (event := PDI_PWR_STAT_hb_ev)
      rfl rfl (by decide) (by decide)
    obtain ⟨hhoops, hrest⟩ := (Mach.tripHoops_stops (cause := cHeartbeat) (by decide)
      fun a => s.m.flagStop_rg_ne PDI_PWR_STAT_hb_lost PDI_PWR_STAT_hb_ev).congr hrg
    refine ⟨_, rfl, ?_, ?_, hhoops, hrest, rfl, rfl, rfl⟩
    · rw [Mach.fg_eq, hrg, ← Mach.fg_eq, Mach.tripHoops_pwrStat, hflag]
    · rw [Mach.fg_eq, hrg, ← Mach.fg_eq, Mach.tripHoops_pwrStat, hev]
  · obtain ⟨hflag, hev⟩ := s.m.flagStop_reads (flag := PDI_PWR_STAT_safe_stop)
      (event := PDI_PWR_STAT_safe_stop_ev) rfl rfl (by decide) (by decide)
    have hstep : exec .safeStopAssert s = .next { s with m := s.m.safeStopAssert } := rfl
    rw [hstep, Mach.safeStopAssert_eq hs]
    obtain ⟨hhoops, hrest⟩ := Mach.tripHoops_stops (m := s.m) (cause := cSafeStop) (by decide)
      fun a h => (Mach.pdEvent_rg _ .safeStop a).trans (s.m.flagStop_rg_ne PDI_PWR_STAT_safe_stop PDI_PWR_STAT_safe_stop_ev h)
    refine ⟨_, rfl, ?_, ?_, hhoops, hrest, rfl, rfl, rfl⟩
    · rw [Mach.tripHoops_pwrStat, Mach.fg_eq, Mach.pdEvent_rg, ← Mach.fg_eq, hflag]
    · rw [Mach.tripHoops_pwrStat, Mach.fg_eq, Mach.pdEvent_rg, ← Mach.fg_eq, hev]

end Sys2Proof.Machine
end

section
/-! The receiver of the die link (O2): what a packet that arrives in service does, by its kind (R9). -/

namespace Sys2Proof.Machine

/-- A packet that the receiver discards and answers with NAK (R9): a parity error or a reserved type. -/
def DlBad (pk : DlPkt) : Prop := pk.parityOk = false ∨ pk.type = 0#4 ∨ 9 ≤ pk.type.toNat

/-- A sound packet of the types 0x1-0x5, which the receiver passes on (R8). -/
def DlCarries (pk : DlPkt) : Prop := pk.parityOk = true ∧ 1 ≤ pk.type.toNat ∧ pk.type.toNat ≤ 5

/-- The receiver has taken the packet it expects: acknowledged, passed on, and the next one expected. -/
def Mach.dlAccept (m : Mach) (e : DieEnd) (pk : DlPkt) : Mach :=
  { m with
    dl := m.dl.setDir e.other { m.dl.dir e.other with
      rxExp := ((m.dl.dir e.other).rxExp + 1) % 16, dup := (m.dl.dir e.other).dup - 1 }
    out := m.out ++ [⟨.dieLink, [e.num, 6, pk.seq.toNat, 1, 0], []⟩,
      ⟨.dieDeliver, [e.num, pk.type.toNat], pk.data.flatMap (fun w => leBytes 2 w.toNat)⟩] }

theorem dlBad_iff (pk : DlPkt) : DlBad pk ↔ (!pk.parityOk || !dlKnown pk.type.toNat) = true := by
  have hz : pk.type = 0#4 ↔ pk.type.toNat = 0 := by rw [BitVec.toNat_eq]; rfl
  rw [DlBad, hz]
  simp only [dlKnown, Bool.or_eq_true, Bool.not_eq_true', decide_eq_false_iff_not]
  exact or_congr Iff.rfl (by omega)

theorem DlCarries.not_bad {pk : DlPkt} (h : DlCarries pk) : (!pk.parityOk || !dlKnown pk.type.toNat) = false := by
  obtain ⟨hp, h1, h5⟩ := h
  have : dlKnown pk.type.toNat = true := by simp only [dlKnown, decide_eq_true_eq]; omega
  simp [hp, this]

theorem DlCarries.type_ne {pk : DlPkt} (h : DlCarries pk) {t : BitVec 4} (ht : 5 < t.toNat) : (pk.type == t) = false := by
  rw [beq_eq_false_iff_ne]
  rintro rfl
  have := h.2.2
  omega

theorem seqNe_iff (a : BitVec 4) (k : Nat) : (a != BitVec.ofNat 4 k) = true ↔ a.toNat ≠ k % 16 := by
  rw [bne_iff_ne, ne_eq, BitVec.toNat_eq, BitVec.toNat_ofNat]

theorem Mach.dlPacket_bad {m : Mach} {e : DieEnd} {pk : DlPkt} (act : Mach → Mach) (hs : m.dl.inService = true) (h : DlBad pk) :
    m.dlPacket e pk act = m.emit .dieLink [e.num, 7, (m.dl.dir e.other).rxExp % 16, 1, 0] [] := by
  have hb := (dlBad_iff pk).mp h
  simp only [Mach.dlPacket, hs, hb, Mach.dlEmit, BitVec.toNat_ofNat, List.flatMap_nil]
  rfl

/-- What is left of the receiver's rules for a packet that it may pass on: the sequence number decides. -/
theorem Mach.dlPacket_carries {m : Mach} {e : DieEnd} {pk : DlPkt} (act : Mach → Mach) (hs : m.dl.inService = true) (h : DlCarries pk) :
    m.dlPacket e pk act = if pk.seq.toNat ≠ (m.dl.dir e.other).rxExp % 16 then m
      else if (m.dl.dir e.other).dup = 0 then act (m.dlAccept e pk) else m.dlAccept e pk := by
  have h6 := h.type_ne (t := 0x6#4) (by decide)
  have h7 := h.type_ne (t := 0x7#4) (by decide)
  have h8 := h.type_ne (t := 0x8#4) (by decide)
  have hacc : (({ m with dl := m.dl.setDir e.other { m.dl.dir e.other with
      rxExp := ((m.dl.dir e.other).rxExp + 1) % 16, dup := (m.dl.dir e.other).dup - 1 } } : Mach).dlEmit e ⟨0x6#4, pk.seq, 1, 0, [], true⟩).emit
      .dieDeliver [e.num, pk.type.toNat] (pk.data.flatMap (fun w => leBytes 2 w.toNat)) = m.dlAccept e pk := by
    simp only [Mach.dlEmit, Mach.emit_eq, Mach.dlAccept, List.append_assoc, List.flatMap_nil]
    rfl
  simp only [Mach.dlPacket, hs, h.not_bad, h6, h7, h8, Bool.not_true, Bool.false_eq_true, if_false, seqNe_iff, hacc]

theorem Mach.dlPacket_outOfOrder {m : Mach} {e : DieEnd} {pk : DlPkt} (act : Mach → Mach) (hs : m.dl.inService = true)
    (h : DlCarries pk) (hq : pk.seq.toNat ≠ (m.dl.dir e.other).rxExp % 16) : m.dlPacket e pk act = m := by
  rw [Mach.dlPacket_carries act hs h, if_pos hq]

theorem Mach.dlPacket_expected {m : Mach} {e : DieEnd} {pk : DlPkt} (act : Mach → Mach) (hs : m.dl.inService = true)
    (h : DlCarries pk) (hq : pk.seq.toNat = (m.dl.dir e.other).rxExp % 16) :
    m.dlPacket e pk act = if (m.dl.dir e.other).dup = 0 then act (m.dlAccept e pk) else m.dlAccept e pk := by
  rw [Mach.dlPacket_carries act hs h, if_neg (not_not.mpr hq)]

/-- HEARTBEAT and EVENT packets act by rows of their own. -/
theorem Mach.dlAct_ahead (guard : Nat) (e : DieEnd) {pk : DlPkt} (m : Mach) (h : pk.type = 3#4 ∨ pk.type = 4#4) :
    Mach.dlAct guard e pk m = m := by
  obtain h | h := h <;> cases e <;> simp only [Mach.dlAct, h] <;> rfl

theorem exec_dielinkPacketRx (e : DieEnd) (pk : DlPkt) (s : State) :
    exec (.dielinkPacketRx e pk) s = .next { s with m := s.m.dlPacket e pk (Mach.dlAct s.guard.toNat e pk) } := rfl

/-- Settles O2: the receiver's three answers, by what the packet is and by its sequence number. -/
theorem dieLinkReceiverAcceptsInOrder : Obligations.DieLinkReceiverAcceptsInOrder := by
  intro e pk s hs
  rw [exec_dielinkPacketRx]
  refine ⟨fun hb => by rw [Mach.dlPacket_bad _ hs hb], fun hp h1 h5 => ⟨fun hq => ?_, fun hq => ?_⟩⟩
  · rw [Mach.dlPacket_outOfOrder _ hs ⟨hp, h1, h5⟩ hq]
  · rw [Mach.dlPacket_expected _ hs ⟨hp, h1, h5⟩ hq]
    refine ⟨rfl, fun ht => ?_⟩
    rw [Mach.dlAct_ahead _ _ _ ht, ite_self]
    rfl

end Sys2Proof.Machine
end

section
/-! The sender of the die link (O3): its two directions, what packets put on the wire change, and the answers to ACK and NAK (R9). -/

namespace Sys2Proof.Machine

@[simp] theorem DieLink.dir_setDir_same (d : DieLink) (e : DieEnd) (x : DlDir) : (d.setDir e x).dir e = x := by
  cases e <;> rfl

@[simp] theorem DieLink.setDir_inService (d : DieLink) (e : DieEnd) (x : DlDir) : (d.setDir e x).inService = d.inService := by
  cases e <;> rfl

/-- A packet as it stands on the wire. -/
def wireOut (e : DieEnd) (p : DlPkt) : Out :=
  ⟨.dieLink, [e.num, p.type.toNat, p.seq.toNat, p.len.toNat, p.spec.toNat], p.data.flatMap (fun w => leBytes 2 w.toNat)⟩

theorem Mach.dlEmit_eq (m : Mach) (e : DieEnd) (p : DlPkt) : m.dlEmit e p = { m with out := m.out ++ [wireOut e p] } := rfl

/-- Packets sent one after another stand on the wire in order, and nothing else changes. -/
theorem Mach.forEach_dlEmit (l : List DlPkt) (e : DieEnd) (m : Mach) :
    forEach l (fun p m => m.dlEmit e p) m = { m with out := m.out ++ l.map (wireOut e) } := by
  induction l generalizing m with
  | nil => simp [forEach]
  | cons p l ih =>
    have : forEach (p :: l) (fun p m => m.dlEmit e p) m = forEach l (fun p m => m.dlEmit e p) (m.dlEmit e p) := rfl
    rw [this, ih, Mach.dlEmit_eq]
    simp

/-- With nothing behind the window no packet starts. -/
theorem Mach.dlPump_idle (n : Nat) {e : DieEnd} {m : Mach} (h : (m.dl.dir e).waiting = []) : m.dlPump n e = m := by
  cases n <;> simp [Mach.dlPump, h]

theorem heldAny_of_mem {l : List DlPkt} {seq : BitVec 4} (h : ∃ p ∈ l, p.seq = seq) : l.any (fun p => p.seq == seq) = true := by
  simpa using h

theorem Mach.dlAck_held {m : Mach} {e : DieEnd} {seq : BitVec 4} (hs : m.dl.inService = true)
    (hh : ∃ p ∈ (m.dl.dir e).held, p.seq = seq) (hw : (m.dl.dir e).waiting = []) :
    m.dlAck e seq = { m with dl := m.dl.setDir e { m.dl.dir e with
      held := ((m.dl.dir e).held.dropWhile (fun p => p.seq != seq)).drop 1, replays := 0, replaySeq := none } } := by
  have hack : (m.dl.dir e).ackUpTo seq = { m.dl.dir e with
      held := ((m.dl.dir e).held.dropWhile (fun p => p.seq != seq)).drop 1, replays := 0, replaySeq := none } := by
    rw [DlDir.ackUpTo, if_pos (heldAny_of_mem hh)]
  rw [Mach.dlAck, hs, hack]
  exact Mach.dlPump_idle 16 (by rw [DieLink.dir_setDir_same]; exact hw)

/-- A NAK that names a held packet whose replay did not come just before: the packets before it are through, the others are
sent again. -/
theorem Mach.dlNak_held {m : Mach} {e : DieEnd} {seq : BitVec 4} (hs : m.dl.inService = true)
    (hh : ∃ p ∈ (m.dl.dir e).held, p.seq = seq) (hr : (m.dl.dir e).replaySeq ≠ some seq.toNat) :
    m.dlNak e seq = { m with
      dl := m.dl.setDir e { m.dl.dir e with
        held := (m.dl.dir e).held.dropWhile (fun p => p.seq != seq), replays := 1, replaySeq := some seq.toNat }
      out := m.out ++ ((m.dl.dir e).held.dropWhile (fun p => p.seq != seq)).map (wireOut e) } := by
  have hne : ((m.dl.dir e).replaySeq == some seq.toNat) = false := beq_eq_false_iff_ne.mpr hr
  simp only [Mach.dlNak, hs, heldAny_of_mem hh, hne, Mach.forEach_dlEmit]
  rfl

/-- Settles O3: an ACK and a NAK of a held packet, as `Mach.dlAck_held` and `Mach.dlNak_held` say. -/
theorem dieLinkSenderReplaysFromNak : Obligations.DieLinkSenderReplaysFromNak := by
  intro e seq s hs hh
  refine ⟨fun hw => ?_, fun hr => ?_⟩
  · exact next_congr (Mach.dlAck_held hs hh hw)
  · have hstep : exec (.dielinkNakRx e seq) s = .next { s with m := s.m.dlNak e seq } := rfl
    rw [hstep, Mach.dlNak_held hs hh hr]
    refine ⟨_, rfl, ?_, ?_, ?_, rfl, rfl, rfl, rfl, rfl⟩ <;> simp only [DieLink.dir_setDir_same]

end Sys2Proof.Machine
end

section
/-! The heartbeat between the dies (O4): a packet over a link with room, the collector's turn (R12) and the monitor (R548, R551). -/

namespace Sys2Proof.Machine
open Reg

@[simp] theorem DieLink.setDir_setDir (d : DieLink) (e : DieEnd) (x y : DlDir) : (d.setDir e x).setDir e y = d.setDir e y := by
  cases e <;> rfl

theorem dlInsert_nil (p : DlPkt) : dlInsert p [] = [p] := by
  cases h : p.ahead <;> simp [dlInsert, h]

/-- The packet of a send, with the sequence number it takes as it starts. -/
def sentPkt (seq type spec : Nat) (data : List (BitVec 16)) : DlPkt :=
  ⟨BitVec.ofNat 4 type, BitVec.ofNat 4 seq, BitVec.ofNat 4 (1 + data.length), BitVec.ofNat 4 spec, data, true⟩

/-- A link in service with nothing waiting and room in the window starts a packet at once (R9). -/
theorem Mach.dlSend_room {m : Mach} {e : DieEnd} (type spec : Nat) (data : List (BitVec 16)) (hs : m.dl.inService = true)
    (hw : (m.dl.dir e).waiting = []) (hh : (m.dl.dir e).held.length < 15) :
    let p := sentPkt (m.dl.dir e).txSeq type spec data
    m.dlSend e type spec data = { m with
      dl := m.dl.setDir e { m.dl.dir e with
        waiting := [], held := (m.dl.dir e).held ++ [p], txSeq := ((m.dl.dir e).txSeq + 1) % 16 }
      out := m.out ++ [wireOut e p] } := by
  have hroom : ¬ 15 ≤ (m.dl.dir e).held.length := by omega
  simp only [Mach.dlSend, hw, dlInsert_nil]
  rw [Mach.dlPump]
  simp only [DieLink.dir_setDir_same, DieLink.setDir_inService, DieLink.setDir_setDir, hs, hroom, Bool.not_true, decide_false,
    Bool.or_self, Bool.false_eq_true, if_false]
  rw [Mach.dlPump_idle _ (by simp only [Mach.dlEmit_eq, DieLink.dir_setDir_same]), Mach.dlEmit_eq]
  rfl

theorem Mach.heartbeatTurn_noTest {m : Mach} (h : m.flt.proof = none) : m.heartbeatTurn = m.sendHeartbeat := by
  rw [Mach.heartbeatTurn, h]

theorem Mach.hbWithheld_noTest {m : Mach} (h : m.flt.proof = none) : m.hbWithheld = (m.fg FLT_STAT FLT_STAT_hb_stop == 1) := by
  rw [Mach.hbWithheld, h, Bool.or_false]

theorem Mach.sendHeartbeat_withheld {m : Mach} (h : m.hbWithheld = true) : m.sendHeartbeat = m := by
  simp [Mach.sendHeartbeat, h]

/-- A collector that withholds nothing and does not hold HOOPS_OFF sends its count and counts on. -/
theorem Mach.sendHeartbeat_eq {m : Mach} (ho : m.flt.hbOn = true) (hh : m.hbWithheld = false)
    (hoff : m.fg FLT_STAT FLT_STAT_hoops_off = 0) :
    let n := m.dlSend .core 0x3 (8 * m.fg FLT_HB_CFG FLT_HB_CFG_mon_en) [BitVec.ofNat 16 m.flt.hbCount]
    m.sendHeartbeat = { n with flt := { n.flt with hbCount := (n.flt.hbCount + 1) % 65536 } } := by
  have hkeep : ∀ (x : Nat) (l : List (BitVec 16)), (m.dlSend .core 0x3 x l).fg FLT_STAT FLT_STAT_hoops_off = 0 := fun x l => by
    rw [Mach.fg_eq, Mach.dlSend_rg, ← Mach.fg_eq, hoff]
  simp only [Mach.sendHeartbeat, ho, hh, hoff, Mach.fg_mk, hkeep, Nat.zero_add]
  rfl

/-- A HEARTBEAT on the wire (R12, R551): type 3, two transfers, mon_en in bit 3, the count as data. -/
theorem wireOut_heartbeat (seq on count : Nat) (h : on < 2) :
    wireOut .core (sentPkt seq 0x3 (8 * on) [BitVec.ofNat 16 count]) = ⟨.dieLink, [0, 3, seq % 16, 2, 8 * on], leBytes 2 (count % 65536)⟩ := by
  have : 8 * on % 16 = 8 * on := Nat.mod_eq_of_lt (by omega)
  simp [wireOut, sentPkt, DieEnd.num, this]

/-- A packet that is not intact only becomes the previous one. -/
theorem Mach.heartbeatIn_notIntact {m : Mach} {c count : Nat} (spec : BitVec 4) (hc : m.pdi.lastCount = some c)
    (h : count ≠ (c + 1) % 65536) : m.heartbeatIn count spec = { m with pdi := { m.pdi with lastCount := some count } } := by
  simp [Mach.heartbeatIn, hc, h]

theorem Mach.hoopsOffIn_held {m : Mach} (h : m.fg PDI_PWR_STAT PDI_PWR_STAT_hoops_off = 1) : m.hoopsOffIn = m := by
  simp [Mach.hoopsOffIn, h]

theorem Mach.hoopsOffOut_free {m : Mach} (h : m.fg PDI_PWR_STAT PDI_PWR_STAT_hoops_off = 0) : m.hoopsOffOut = m := by
  simp [Mach.hoopsOffOut, h]

/-- An intact packet without a loss to end and without a change of HOOPS_OFF sets the arming alone. -/
theorem Mach.heartbeatIn_intact {m : Mach} {c count : Nat} {spec : BitVec 4} (hc : m.pdi.lastCount = some c)
    (h : count = (c + 1) % 65536) (hl : m.fg PDI_PWR_STAT PDI_PWR_STAT_hb_lost = 0)
    (ho : m.fg PDI_PWR_STAT PDI_PWR_STAT_hoops_off = if spec.getLsbD 0 then 1 else 0) :
    m.heartbeatIn count spec = { m with pdi := { m.pdi with lastCount := some count, armed := spec.getLsbD 3 } } := by
  simp only [Mach.heartbeatIn, hc, ← h, beq_self_eq_true, Bool.not_true, Bool.false_eq_true, if_false, Mach.fg_mk, hl,
    Nat.reduceBEq]
  split
  · exact Mach.hoopsOffIn_held (by simp_all)
  · exact Mach.hoopsOffOut_free (by simp_all)

/-- Settles O4: the collector's turn over a link with room, its stop, and the monitor's two cases. -/
theorem heartbeatCountsAndArms : Obligations.HeartbeatCountsAndArms := by
  refine ⟨fun s hp ho hstop hoff hs hw hh => ?_, fun s hp hstop => ?_, fun count spec s c hc => ⟨fun h => ?_, fun h hl ho => ?_⟩⟩
  · have hturn : exec .heartbeatSend s = .next { s with m := s.m.sendHeartbeat } :=
      next_congr (Mach.heartbeatTurn_noTest hp)
    have hheld : s.m.hbWithheld = false := by rw [Mach.hbWithheld_noTest hp, hstop]; rfl
    have hmon : s.m.fg FLT_HB_CFG FLT_HB_CFG_mon_en < 2 := getF_lt _ _
    rw [hturn, Mach.sendHeartbeat_eq ho hheld hoff, Mach.dlSend_room (e := .core) _ _ _ hs hw hh]
    refine ⟨_, rfl, rfl, ?_, rfl, rfl, rfl, rfl, rfl, rfl⟩
    exact congrArg (fun o => s.m.out ++ [o]) (wireOut_heartbeat _ _ _ hmon)
  · have hheld : s.m.hbWithheld = true := by rw [Mach.hbWithheld_noTest hp, hstop]; rfl
    exact next_congr
      ((Mach.heartbeatTurn_noTest hp).trans (Mach.sendHeartbeat_withheld hheld))
  · exact next_congr (Mach.heartbeatIn_notIntact spec hc h)
  · exact next_congr (Mach.heartbeatIn_intact hc h hl ho)

end Sys2Proof.Machine
end

section
/-! Events of the power die at the core die, and the end of a resync (O28; R8, R10, R537). -/

namespace Sys2Proof.Machine

/-- The event has been taken from the list of those on their way (R8). -/
def Mach.takeEvent (m : Mach) (ev : PdEvent) : Mach := { m with dl := { m.dl with events := m.dl.events.erase ev } }

theorem Mach.dlEvent_hoopTrip (m : Mach) (k : Fin 12) (c : BitVec 4) :
    m.dlEvent (.trip (.hoop k) c) = (m.takeEvent (.trip (.hoop k) c)).raise fHoopTrip (k.val + 16 * c.toNat) := rfl

theorem Mach.dlEvent_vbusTrip (m : Mach) (p : Fin 48) (c : BitVec 4) :
    m.dlEvent (.trip (.vbus p) c) = (m.takeEvent (.trip (.vbus p) c)).raise fVbusTrip (p.val + 256 * c.toNat) := rfl

theorem Mach.dlEvent_safeStop (m : Mach) : m.dlEvent .safeStop = (m.takeEvent .safeStop).raise fSafeStop 0 := rfl

theorem Mach.dlEvent_heartbeatLost (m : Mach) :
    m.dlEvent .heartbeatLost = (m.takeEvent .heartbeatLost).raise fHeartbeatLost 0 := rfl

theorem Mach.dlEvent_supply (m : Mach) (n : Fin 16) (high : Bool) :
    m.dlEvent (.supply n high) = (m.takeEvent (.supply n high)).raise (if high then fSupplyOv else fSupplyUv) n.val := rfl

/-- An event that ends something raises no source. -/
theorem Mach.dlEvent_recovery (m : Mach) {ev : PdEvent}
    (h : ev = .safeStopRelease ∨ (∃ n, ev = .supplyRecovered n) ∨ (∃ w, ev = .holdoffEnd w) ∨ ∃ w, ev = .wake w) :
    m.dlEvent ev = m.takeEvent ev := by
  obtain rfl | ⟨n, rfl⟩ | ⟨w, rfl⟩ | ⟨w, rfl⟩ := h <;> rfl

/-- A reset of the link leaves nobody to answer for a write once it has been answered BUSY (R10). -/
def Mach.disownWrites (m : Mach) : Mach :=
  { m with dl := { m.dl with reqs := m.dl.reqs.map (fun r => if r.writes = true then { r with who := .gone } else r) } }

theorem Mach.linkResynced_idle {m : Mach} (h : m.coreDead = true ∨ m.dl.inService = true) : m.linkResynced = m := by
  rw [Mach.linkResynced, if_pos (by simpa only [Bool.or_eq_true] using h)]

theorem Mach.linkResynced_eq {m : Mach} (hc : m.coreDead = false) (hs : m.dl.inService = false) :
    m.linkResynced = (forEach (m.dl.reqs.filter (·.writes)) (fun r m => m.pdiBusy r.who) m.disownWrites.dlInService).rindPump := by
  rw [Mach.linkResynced, if_neg (by simp [hc, hs])]
  rfl

/-- Settles O28: each kind of event by what it raises, and the end of a resync with the link up, the core die dead, or neither. -/
theorem dieLinkEventsRaiseFaults : Obligations.DieLinkEventsRaiseFaults := by
  refine ⟨fun s => ⟨fun k c => next_congr (s.m.dlEvent_hoopTrip k c), fun p c => next_congr (s.m.dlEvent_vbusTrip p c),
    next_congr s.m.dlEvent_safeStop, next_congr s.m.dlEvent_heartbeatLost, next_congr (s.m.dlEvent_recovery (.inl rfl)),
    fun n high => next_congr (s.m.dlEvent_supply n high)⟩, fun s => ⟨fun h => ?_, fun hc hs => ?_⟩⟩
  · exact next_congr (Mach.linkResynced_idle h)
  · exact next_congr (Mach.linkResynced_eq hc hs)

end Sys2Proof.Machine
end

section
/-! Accesses to PDI_ over the die link (O53): within one step where the link carries nothing, packet by packet where it does
(R8, R11, R411). -/

namespace Sys2Proof.Machine

@[simp] theorem DieLink.setDir_reqs (d : DieLink) (e : DieEnd) (x : DlDir) : (d.setDir e x).reqs = d.reqs := by
  cases e <;> rfl

theorem State.serve_of_serves {s : State} {c : Cmd} {l p : Bool} (f : State → Host.Outcome State Fault Refusal)
    (h : s.m.serves c l p = true) : s.serve c l p f = f s := by
  rw [State.serve, if_pos h]

theorem exec_regWr (c : Cmd) (s : State) :
    exec (.regWr c) s = s.serve c (cmdBare c) true fun s => s.regWriteCmd c none (BitVec.ofNat 32 (c.p 12 4)) (c.b 11 % 16) := rfl

/-! ### Over a quiet link -/

theorem Mach.overLink_quiet {m : Mach} {a : Nat} (hp : isPdi a = true) (hq : m.dl.quiet = true) (v : Option Word)
    (f : Mach → Nat × Word × Mach) :
    let r := f (m.dlPass .core 0x1 (b2n v.isSome) (regReqData a v))
    m.overLink a v f = (r.1, r.2.1, r.2.2.dlPass .power 0x2 0 (regRspData r.1 r.2.1)) := by
  simp only [Mach.overLink, hp, hq, Bool.and_self, if_true]

theorem Mach.regRead_quiet {m : Mach} {ch a : Nat} {d : Bool} (guard : Nat) (hg : m.accessGate ch d a none = none)
    (hp : isPdi a = true) (hq : m.dl.quiet = true) :
    let r := (m.dlPass .core 0x1 0 (regReqData a none)).readWord guard ch a
    m.regRead guard ch d a = (r.1, r.2.1, r.2.2.dlPass .power 0x2 0 (regRspData r.1 r.2.1)) := by
  simp only [Mach.regRead, hg, Mach.overLink_quiet hp hq]
  rfl

theorem Mach.regWrite_quiet {m : Mach} {ch a be : Nat} {d : Bool} (guard : Nat) (keyed : Option Bool) (v : Word)
    (hg : m.accessGate ch d a (some be) = none) (hp : isPdi a = true) (hq : m.dl.quiet = true) :
    let r := (m.dlPass .core 0x1 1 (regReqData a (some v))).writeWord guard (d || ch == 2) keyed a v be
    m.regWrite guard ch d keyed a v be = (r.1, r.2.dlPass .power 0x2 0 (regRspData r.1 0)) := by
  simp only [Mach.regWrite, hg, Mach.overLink_quiet hp hq]
  rfl

/-! ### Over a link that carries something -/

theorem Mach.pdiWaits_busy {m : Mach} {ch a : Nat} {d : Bool} {w : Option Nat} (hp : isPdi a = true) (hs : m.dl.inService = true)
    (hq : m.dl.quiet = false) (hg : m.accessGate ch d a w = none) : m.pdiWaits ch d a w = true := by
  simp [Mach.pdiWaits, hp, hs, hq, hg]

/-! ### The register commands -/

theorem Mach.regRd_quiet {m : Mach} {c : Cmd} (guard : Nat) (hv : m.serves c (cmdBare c) true = true)
    (hg : m.accessGate c.arrival.val false (c.p 8 3) none = none) (hp : isPdi (c.p 8 3) = true) (hq : m.dl.quiet = true) :
    let r := (m.dlPass .core 0x1 0 (regReqData (c.p 8 3) none)).readWord guard c.arrival.val (c.p 8 3)
    m.regRd guard c = (r.2.2.dlPass .power 0x2 0 (regRspData r.1 r.2.1)).reply c r.1 (f12 r.2.1.toNat) := by
  rw [Mach.regRd, Mach.serve_of_serves _ hv]
  simp only [Mach.pdiWaits_quiet hq, Mach.regRead_quiet guard hg hp hq]
  rfl

theorem Mach.regRd_busy {m : Mach} {c : Cmd} (guard : Nat) (hv : m.serves c (cmdBare c) true = true)
    (hg : m.accessGate c.arrival.val false (c.p 8 3) none = none) (hp : isPdi (c.p 8 3) = true) (hs : m.dl.inService = true)
    (hq : m.dl.quiet = false) : m.regRd guard c = m.pdiCmd c [{ addr := c.p 8 3 }] := by
  rw [Mach.regRd, Mach.serve_of_serves _ hv, if_pos (Mach.pdiWaits_busy hp hs hq hg)]

theorem State.regWriteCmd_quiet {s : State} {c : Cmd} {be : Nat} (keyed : Option Bool) (v : Word)
    (hg : s.m.accessGate c.arrival.val false (c.p 8 3) (some be) = none) (hp : isPdi (c.p 8 3) = true) (hq : s.m.dl.quiet = true) :
    let r := (s.m.dlPass .core 0x1 1 (regReqData (c.p 8 3) (some v))).writeWord s.guard.toNat (c.arrival.val == 2) keyed (c.p 8 3) v be
    s.regWriteCmd c keyed v be = s.regEnd (c.p 8 3) v (r.1, r.2.dlPass .power 0x2 0 (regRspData r.1 0)) (fun m => m.reply c r.1) := by
  simp only [State.regWriteCmd, Mach.pdiWaits_quiet hq, Mach.regWrite_quiet s.guard.toNat keyed v hg hp hq, Bool.false_or]
  rfl

theorem State.regWriteCmd_busy {s : State} {c : Cmd} {be : Nat} (keyed : Option Bool) (v : Word)
    (hg : s.m.accessGate c.arrival.val false (c.p 8 3) (some be) = none) (hp : isPdi (c.p 8 3) = true) (hs : s.m.dl.inService = true)
    (hq : s.m.dl.quiet = false) :
    s.regWriteCmd c keyed v be = .next { s with m := s.m.pdiCmd c [{ addr := c.p 8 3, write := some v, keyed := keyed }] } := by
  rw [State.regWriteCmd, if_pos (Mach.pdiWaits_busy hp hs hq hg)]
  rfl

/-! ### The packets of a waiting access -/

/-- The packet expected, which has not acted before a reset of the link, acts on the link as it is after its acceptance. -/
theorem Mach.dlPacket_fresh {m : Mach} {e : DieEnd} {pk : DlPkt} (act : Mach → Mach) (hs : m.dl.inService = true)
    (h : DlCarries pk) (hq : pk.seq.toNat = (m.dl.dir e.other).rxExp % 16) (hd : (m.dl.dir e.other).dup = 0) :
    m.dlPacket e pk act = act (m.dlAccept e pk) := by
  rw [Mach.dlPacket_expected act hs h hq, if_pos hd]

theorem Mach.dlAccept_reqs (m : Mach) (e : DieEnd) (pk : DlPkt) : (m.dlAccept e pk).dl.reqs = m.dl.reqs :=
  DieLink.setDir_reqs _ _ _

theorem Mach.dlAccept_coreDead (m : Mach) (e : DieEnd) (pk : DlPkt) : (m.dlAccept e pk).coreDead = m.coreDead := rfl

/-- A receiver that has no packet sent twice keeps none after an acceptance. -/
theorem Mach.dlAccept_fresh {m : Mach} {e : DieEnd} (pk : DlPkt) (hd : (m.dl.dir e.other).dup = 0) :
    m.dlAccept e pk = { m with
      dl := m.dl.setDir e.other { m.dl.dir e.other with rxExp := ((m.dl.dir e.other).rxExp + 1) % 16, dup := 0 }
      out := m.out ++ [⟨.dieLink, [e.num, 6, pk.seq.toNat, 1, 0], []⟩,
        ⟨.dieDeliver, [e.num, pk.type.toNat], pk.data.flatMap (fun w => leBytes 2 w.toNat)⟩] } := by
  rw [Mach.dlAccept, hd]

theorem Mach.dlAct_request {pk : DlPkt} (guard : Nat) (m : Mach) (h : pk.type = 1#4) :
    Mach.dlAct guard .power pk m = m.pdiReqIn guard := by
  simp only [Mach.dlAct, h]
  rfl

theorem Mach.dlAct_response {pk : DlPkt} (guard : Nat) (m : Mach) (h : pk.type = 2#4) :
    Mach.dlAct guard .core pk m = if m.coreDead then m else m.pdiRspIn := by
  simp only [Mach.dlAct, h]
  rfl

/-- A REG_REQ carries out the oldest access that has not been carried out, and its REG_RSP goes back. -/
theorem Mach.pdiReqIn_eq {m : Mach} (guard : Nat) {r : PdiReq} {x : PdiAct} {l : List PdiAct}
    (hf : m.dl.reqs.find? (fun r => !r.reqs.isEmpty) = some r) (hr : r.reqs = x :: l) :
    let k := m.pdiDo guard r.who x
    m.pdiReqIn guard = ({ k.2.2 with dl := { k.2.2.dl with
      reqs := updFirst (fun r => !r.reqs.isEmpty) (fun r => { r with reqs := l, done := r.done ++ [(k.1, k.2.1)] }) k.2.2.dl.reqs } }).dlSend
        .power 0x2 0 (regRspData k.1 k.2.1) := by
  simp only [Mach.pdiReqIn, hf, hr]

/-- The last REG_RSP of an access takes it off the list and answers it. -/
theorem Mach.pdiRspIn_last {m : Mach} {r : PdiReq} {x : Nat × Word} (hf : m.dl.reqs.find? (fun r => !r.done.isEmpty) = some r)
    (hd : r.done = [x]) (hr : r.reqs = []) (hw : rmwWrite r.who (r.got ++ [x]) = none) :
    m.pdiRspIn = ({ m with dl := { m.dl with reqs := m.dl.reqs.erase r } }).pdiAnswer r.who (r.got ++ [x]) := by
  simp only [Mach.pdiRspIn, hf, hd, hr, hw]
  rfl

/-- Settles O53: the register commands over a quiet and over a busy link, and the REG_REQ and the REG_RSP of an access that waits. -/
theorem pdiAccessesCrossTheDieLink : Obligations.PdiAccessesCrossTheDieLink := by
  refine ⟨fun c s hv hg hp => ⟨fun hq => ?_, fun hq hs => ?_⟩, ?_, ?_⟩
  · exact next_congr (Mach.regRd_quiet s.guard.toNat hv hg hp hq)
  · exact next_congr (Mach.regRd_busy s.guard.toNat hv hg hp hs hq)
  · intro c s a be w hv hg hp
    rw [exec_regWr, State.serve_of_serves _ hv]
    exact ⟨fun hq => State.regWriteCmd_quiet none w hg hp hq, fun hq hs => State.regWriteCmd_busy none w hg hp hs hq⟩
  · intro e pk s hs hk hq hd d n
    have hn : s.m.dlAccept e pk = n := Mach.dlAccept_fresh pk hd
    have hacts : DlCarries pk → exec (.dielinkPacketRx e pk) s = .next { s with m := Mach.dlAct s.guard.toNat e pk n } := fun hc =>
      next_congr ((Mach.dlPacket_fresh _ hs hc hq hd).trans (by rw [hn]))
    have hreqs : n.dl.reqs = s.m.dl.reqs := hn ▸ Mach.dlAccept_reqs _ _ _
    refine ⟨fun r x l he ht hf hr => ?_, fun r x he ht hdead hf hdone hr hw => ?_, fun he ht hdead => ?_⟩ <;> subst he
    · rw [hacts ⟨hk, by simp [ht], by simp [ht]⟩, Mach.dlAct_request _ _ ht]
      exact next_congr (Mach.pdiReqIn_eq _ (hreqs ▸ hf) hr)
    · rw [hacts ⟨hk, by simp [ht], by simp [ht]⟩, Mach.dlAct_response _ _ ht, if_neg (by simp [← hn, Mach.dlAccept_coreDead, hdead])]
      exact next_congr (Mach.pdiRspIn_last (hreqs ▸ hf) hdone hr hw)
    · rw [hacts ⟨hk, by simp [ht], by simp [ht]⟩, Mach.dlAct_response _ _ ht, if_pos (by simp [← hn, Mach.dlAccept_coreDead, hdead])]

end Sys2Proof.Machine
end

section
/-! Rennet's commit points and engines (O12): what each row comes to, by the state of the time bus and of the engine (R63-R76,
R103, R104). -/

namespace Sys2Proof.Machine
open Reg

/-! ### The time bus -/

/-- The time bus without its first word. -/
def Mach.busTo (m : Mach) (l : List BusMsg) : Mach := { m with shf := { m.shf with bus := l } }

theorem Mach.takeBus_some {m : Mach} {t : BusMsg → Bool} {b : BusMsg} {l : List BusMsg} (hd : m.domOn 5 = true)
    (hb : m.shf.bus = b :: l) (ht : t b = true) : m.takeBus t = (some b, m.busTo l) := by
  simp only [Mach.takeBus, hb, ht, domRen, hd]
  rfl

theorem Mach.takeBus_none {m : Mach} {t : BusMsg → Bool}
    (h : m.domOn 5 = false ∨ ∀ b l, m.shf.bus = b :: l → t b = false) : m.takeBus t = (none, m) := by
  rw [Mach.takeBus]
  cases hb : m.shf.bus with
  | nil => rfl
  | cons b l =>
    have : (t b && m.domOn domRen) = false := by
      obtain h | h := h
      · rw [domRen, h, Bool.and_false]
      · rw [h b l hb, Bool.false_and]
    simp only [this, Bool.false_eq_true, if_false]

@[simp] theorem Mach.str_wr (m : Mach) (a n : Nat) (v : Word) : (m.wr a v).str n = m.str n := by
  rw [Mach.str, Mach.str, Mach.wr_ren]

@[simp] theorem Mach.str_setStr_same (m : Mach) (n : Nat) (x : Stream) : (m.setStr n x).str n = x := by
  rw [Mach.str, Mach.setStr, spGet_spSet_same]

theorem Mach.isReg_iff (m : Mach) (n : Nat) (cp : Nat × Nat) : m.isReg n cp = true ↔ (m.str n).reg = some cp := by
  rw [Mach.isReg, beq_iff_eq]

@[simp] theorem Mach.str_busTo (m : Mach) (l : List BusMsg) (n : Nat) : (m.busTo l).str n = m.str n := rfl

@[simp] theorem Mach.fg_busTo (m : Mach) (l : List BusMsg) (a : Nat) (f : Fd) : (m.busTo l).fg a f = m.fg a f := rfl

@[simp] theorem Mach.strState_busTo (m : Mach) (l : List BusMsg) (n : Nat) : (m.busTo l).strState n = m.strState n := rfl

/-! ### Frozen commit points -/

/-- A frozen commit point joins the queue and is the stream's latest (R69, R120). -/
def Mach.queueFrozen (m : Mach) (n : Nat) (cp : CommitPt) : Mach :=
  ({ m with ren := { m.ren with queue := m.ren.queue ++ [cp] } }.setStr n { m.str n with anyFrozen := true }).wr
    (REN_S_PICK n) (BitVec.ofNat 32 cp.pick)

theorem Mach.frozen_eq (m : Mach) (cp : CommitPt) :
    m.frozen cp = if (m.str cp.stream).reg = some (cp.pick, cp.idx) then (m.queueFrozen cp.stream cp).advance cp.stream (cp.pick, cp.idx)
      else m.queueFrozen cp.stream cp := by
  have hreg : (m.queueFrozen cp.stream cp).isReg cp.stream (cp.pick, cp.idx) = true ↔ (m.str cp.stream).reg = some (cp.pick, cp.idx) := by
    rw [Mach.isReg_iff, Mach.queueFrozen, Mach.str_wr, Mach.str_setStr_same]
  simp only [← hreg]
  rfl

theorem Mach.commitFrozen_none {m : Mach} {n : Nat}
    (h : m.domOn 5 = false ∨ ∀ b l, m.shf.bus = b :: l → b.stream ≠ n ∨ b.cp = none) : m.commitFrozen n = m := by
  have hn : m.takeBus (fun b => b.stream == n && b.cp.isSome) = (none, m) := by
    refine Mach.takeBus_none (h.imp_right fun h b l hb => ?_)
    obtain h | h := h b l hb <;> simp [h]
  rw [Mach.commitFrozen, hn]

theorem Mach.commitFrozen_some {m : Mach} {n : Nat} {b : BusMsg} {cp : CommitPt} {l : List BusMsg} (hd : m.domOn 5 = true)
    (hb : m.shf.bus = b :: l) (hn : b.stream = n) (hc : b.cp = some cp) (hcn : cp.stream = n) :
    m.commitFrozen n = if (m.str n).reg = some (cp.pick, cp.idx) then ((m.busTo l).queueFrozen n cp).advance n (cp.pick, cp.idx)
      else (m.busTo l).queueFrozen n cp := by
  obtain ⟨stream, pick, idx, c⟩ := b
  subst hc hcn
  rw [Mach.commitFrozen, Mach.takeBus_some hd hb (by simpa using hn)]
  exact (m.busTo l).frozen_eq cp

/-! ### Missed commit points -/

theorem Mach.missed_other {m : Mach} {n : Nat} {cp : Nat × Nat} (h : m.strState n ≠ 3 ∨ (m.str n).reg ≠ some cp) : m.missed n cp = m := by
  rw [Mach.missed, if_pos]
  obtain h | h := h
  · simp [stRunning, h]
  · simp [mt (m.isReg_iff n cp).mp h]

/-- A registered commit point of a running stream is skipped or halts it, by the stream's policy (R71). -/
theorem Mach.missed_running {m : Mach} {n : Nat} {cp : Nat × Nat} (hs : m.strState n = 3) (hr : (m.str n).reg = some cp) :
    m.missed n cp = if m.fg (REN_S_CTRL n) REN_S_CTRL_unlock = 1 then
        ((m.inc (REN_S_SKIP n) REN_S_SKIP_count).ev (REN_S_STAT n) REN_S_STAT_skip_ev).advance n cp
      else (m.haltStream n true).afterHalt := by
  simp [Mach.missed, stRunning, hs, (m.isReg_iff n cp).mpr hr]

section missed
variable {m : Mach} {n : Nat} {b : BusMsg} {l : List BusMsg}

theorem Mach.commitMissed_eq (hd : m.domOn 5 = true) (hb : m.shf.bus = b :: l) (hn : b.stream = n) (hc : b.cp = none) :
    m.commitMissed n = (m.busTo l).missed n (b.pick, b.idx) := by
  rw [Mach.commitMissed, Mach.takeBus_some hd hb (by simp [hn, hc])]

theorem Mach.commitMissed_other (hd : m.domOn 5 = true) (hb : m.shf.bus = b :: l) (hn : b.stream = n) (hc : b.cp = none)
    (h : m.strState n ≠ 3 ∨ (m.str n).reg ≠ some (b.pick, b.idx)) : m.commitMissed n = m.busTo l := by
  rw [Mach.commitMissed_eq hd hb hn hc, Mach.missed_other (by simpa using h)]

theorem Mach.commitMissed_running (hd : m.domOn 5 = true) (hb : m.shf.bus = b :: l) (hn : b.stream = n) (hc : b.cp = none)
    (hs : m.strState n = 3) (hr : (m.str n).reg = some (b.pick, b.idx)) :
    m.commitMissed n = if m.fg (REN_S_CTRL n) REN_S_CTRL_unlock = 1 then
        (((m.busTo l).inc (REN_S_SKIP n) REN_S_SKIP_count).ev (REN_S_STAT n) REN_S_STAT_skip_ev).advance n (b.pick, b.idx)
      else ((m.busTo l).haltStream n true).afterHalt := by
  rw [Mach.commitMissed_eq hd hb hn hc, Mach.missed_running (by simpa using hs) (by simpa using hr), Mach.fg_busTo]

end missed

/-! ### Starting an engine -/

@[simp] theorem Mach.eng_at (m : Mach) (t e : Nat) : (m.at_ t).eng e = m.eng e := by rw [Mach.eng, Mach.eng, Mach.at_ren]

/-- The lowest engine in service without work and without a test due. -/
def Mach.freeEngine (m : Mach) : Option Nat :=
  (upTo 8).find? (fun e => m.inService e && (m.eng e).work = none && !(m.eng e).katDue)

/-- The queued work that starts next: the earliest deadline among what need not wait. -/
def Mach.nextStart (m : Mach) : Option CommitPt := nextWork (m.ren.queue.filter m.startable)

theorem Mach.engineStart_none {m : Mach} {t : Nat} (h : (m.at_ t).nextStart = none ∨ (m.at_ t).freeEngine = none) :
    m.engineStart t = m.at_ t := by
  unfold Mach.nextStart Mach.freeEngine at h
  simp only [Mach.engineStart]
  split
  · rename_i hw he
    rw [hw, he] at h
    simp at h
  · rfl

/-- The commit point has left the queue. -/
def Mach.unqueue (m : Mach) (cp : CommitPt) : Mach := { m with ren := { m.ren with queue := m.ren.queue.erase cp } }

/-- The engine works on the commit point, whose items are in flight (R76). -/
def Mach.giveWork (m : Mach) (cp : CommitPt) (e : Nat) : Mach :=
  ((m.unqueue cp).fs (REN_GRP_FLIGHT cp.group) (flightFd cp.epoch) (m.fg (REN_GRP_FLIGHT cp.group) (flightFd cp.epoch) + cp.dest)).setEng e
    { m.eng e with work := some cp, stage := 0, issued := 0 }

theorem Mach.engineStart_some {m : Mach} {t : Nat} {cp : CommitPt} {e : Nat} (hw : (m.at_ t).nextStart = some cp)
    (he : (m.at_ t).freeEngine = some e) :
    m.engineStart t = if dlPassed (m.at_ t).ctime cp.dl = true then ((m.at_ t).unqueue cp).dropFor cp 0 false 1
      else ((m.at_ t).giveWork cp e).readSpans cp (((m.at_ t).giveWork cp e).firstReads cp) := by
  unfold Mach.nextStart at hw
  unfold Mach.freeEngine at he
  simp only [Mach.engineStart, hw, he]
  rfl

theorem Mach.firstReads_sel {m : Mach} {cp : CommitPt} (h : m.kind cp.stream = 1) :
    m.firstReads cp = [(m.seDesign cp.stream cp.epoch, 64)] := by
  rw [Mach.firstReads, if_pos (by simp [h, kSel])]

theorem Mach.firstReads_prof {m : Mach} {cp : CommitPt} (h : m.kind cp.stream ≠ 1) :
    m.firstReads cp = [(m.descPoints (m.seTable cp.stream cp.epoch) cp.epoch, 16 * m.descCount (m.seTable cp.stream cp.epoch) cp.epoch)] := by
  rw [Mach.firstReads, if_neg (by simp [h, kSel])]

/-! ### Data for an engine -/

section data
variable {m : Mach} {d : Sp Byte} {e : Nat} {st : DramStatus} {par : Bool} {k t : Nat} {cp : CommitPt}

theorem Mach.renData_idle (h : (m.eng e).work = none) : m.renData d e st par k t = m.at_ t := by
  simp only [Mach.renData, Mach.eng_at, h]

/-- A failed read drops the rest, for the reason of its status (R72). -/
theorem Mach.renData_failed (hw : (m.eng e).work = some cp) (hf : readFailed st = true) :
    m.renData d e st par k t = ((m.at_ t).freeEng e).dropFor cp (m.eng e).issued true (dropReason st) := by
  simp only [Mach.renData, Mach.eng_at, hw, hf, if_true]

theorem Mach.renData_parity (hw : (m.eng e).work = some cp) (hf : readFailed st = false) :
    m.renData d e st false k t = ((m.at_ t).freeEng e).dropFor cp (m.eng e).issued true 3 := by
  simp [Mach.renData, hw, hf]

theorem Mach.renData_late (hw : (m.eng e).work = some cp) (hf : readFailed st = false) (hp : dlPassed (m.at_ t).ctime cp.dl = true) :
    m.renData d e st true k t = ((m.at_ t).freeEng e).dropFor cp (m.eng e).issued true 1 := by
  simp [Mach.renData, hw, hf, hp]

/-- Data of a later stage call for the next reads (R78-R80). -/
theorem Mach.renData_reads (hw : (m.eng e).work = some cp) (hf : readFailed st = false) (hp : dlPassed (m.at_ t).ctime cp.dl = false)
    {l : List (Nat × Nat)} (hl : ((m.at_ t).laterReads d cp)[(m.eng e).stage]? = some l) :
    m.renData d e st true k t = ((m.at_ t).setEng e { m.eng e with stage := (m.eng e).stage + 1 }).readSpans cp l := by
  simp [Mach.renData, hw, hf, hp, hl]

section last
variable (hw : (m.eng e).work = some cp) (hf : readFailed st = false) (hp : dlPassed (m.at_ t).ctime cp.dl = false)
  (hl : ((m.at_ t).laterReads d cp)[(m.eng e).stage]? = none)
include hw hf hp hl

/-! All reads are done: the engine issues items (R74), or drops what is malformed (R72). -/

theorem Mach.renData_unasked (hk : k = 0) : m.renData d e st true k t = m.at_ t := by
  simp [Mach.renData, hw, hf, hp, hl, hk]

theorem Mach.renData_malformed {n : Mach} (hk : 0 < k) (hi : (m.at_ t).itemsOf d cp = (none, n)) :
    m.renData d e st true k t = (n.freeEng e).dropFor cp (m.eng e).issued true 4 := by
  simp [Mach.renData, hw, hf, hp, hl, Nat.ne_of_gt hk, hi]

theorem Mach.renData_issue {n x : Mach} {items : List (Nat × List Byte)} {j : Nat} (hk : 0 < k)
    (hi : (m.at_ t).itemsOf d cp = (some items, n))
    (hj : Mach.issue cp (n.kind cp.stream == 1) ((items.drop (m.eng e).issued).take k) 0 n = (j, x)) :
    m.renData d e st true k t =
      if items.length ≤ (m.eng e).issued + j then
        if (m.eng e).issued + j < cp.dest then (x.freeEng e).flightDown cp.group cp.epoch (cp.dest - ((m.eng e).issued + j)) else x.freeEng e
      else x.setEng e { x.eng e with issued := (m.eng e).issued + j } := by
  simp [Mach.renData, hw, hf, hp, hl, Nat.ne_of_gt hk, hi, kSel, hj]

end last
end data

/-! ### Known-answer tests -/

theorem Mach.katRun_inService {m : Mach} {e : Nat} {pass : Bool} (hk : m.fg REN_CTRL REN_CTRL_kat_en = 1) (hi : m.inService e = true)
    (hd : m.domOn 5 = true) :
    m.katRun e pass = if (m.eng e).work ≠ none then m.setEng e { m.eng e with katDue := true }
      else (m.setEng e { m.eng e with katDue := false }).katResult e pass := by
  rw [Mach.katRun, if_neg (by simp [hk, hi, domRen, hd])]

/-! ### The obligation -/

theorem Mach.commitPt_eq (m : Mach) (n : Fin 128) (pick idx t : Nat) : m.commitPt n (pick, idx) t =
    ⟨n, m.strGroup n, pick, idx, t, (t + 2 ^ 64 - m.prep n) / 64 % 2 ^ 24, m.strEpoch n,
      if m.strEpoch n = 0 then (m.str n).dest0 else (m.str n).dest1, (m.rg (REN_S_ORIGIN n)).toNat⟩ := rfl

theorem Mach.readSpans_single (m : Mach) (cp : CommitPt) (a n : Nat) :
    m.readSpans cp [(a, n)] = Mach.renReads cp.dl (n / 256 + 2) a n m := rfl

theorem dropReason_eq (st : DramStatus) : dropReason st = match st with | .poisoned => 2 | .hung => 8 | _ => 7 := by
  cases st <;> rfl

/-- Settles O12: each row by what Rennet finds on the time bus, among its engines and in the data that arrive. -/
theorem rennetCommitPointsAndEngines : Obligations.RennetCommitPointsAndEngines := by
  refine ⟨Mach.commitPt_eq, fun n s => ⟨fun h => ?_, ?_⟩, ?_, ?_, ?_, ?_, ?_⟩
  · exact next_congr (Mach.commitFrozen_none h)
  · intro b cp l hd hb hn hc hcn
    have hm := Mach.commitFrozen_some hd hb hn hc hcn
    exact ⟨fun h => next_congr (hm.trans (if_neg h)), fun h => next_congr (hm.trans (if_pos h))⟩
  · intro n s b l hd hb hn hc
    refine ⟨fun h => next_congr (Mach.commitMissed_other hd hb hn hc h), fun h3 hr => ?_⟩
    have hm := Mach.commitMissed_running hd hb hn hc h3 hr
    exact ⟨fun hu => next_congr (hm.trans (if_pos hu)), fun hu => next_congr (hm.trans (if_neg hu))⟩
  · intro tm s m free next
    have hnext : m.nextStart = next := by rw [Mach.nextStart, Mach.at_ren]
    refine ⟨fun h => next_congr (Mach.engineStart_none (by rw [hnext]; exact h)), ?_⟩
    intro cp e hw he rest n
    have hm := Mach.engineStart_some (hnext.trans hw) he
    have hrest : m.unqueue cp = rest := by rw [Mach.unqueue, Mach.at_ren]
    have hn : m.fg (REN_GRP_FLIGHT cp.group) (flightFd cp.epoch) + cp.dest = n := by rw [Mach.fg_at]
    rw [Mach.giveWork, hrest, hn] at hm
    exact ⟨fun hp => next_congr (hm.trans (if_pos hp)), fun hp => next_congr (hm.trans (if_neg (ne_true_of_eq_false hp)))⟩
  · exact fun m cp a n => ⟨Mach.readSpans_single m cp a n, Mach.firstReads_sel, Mach.firstReads_prof⟩
  · intro e st par k tm s m
    refine ⟨fun h => next_congr (Mach.renData_idle h), ?_⟩
    intro cp hw free done
    have hfree : m.freeEng e = free := by rw [Mach.freeEng, Mach.eng_at]
    refine ⟨fun hf => ?_, fun hf hpar => ?_, fun hf hpar hp => ?_, fun hf hpar hp => ⟨fun l hl => ?_, fun hl => ⟨fun hk => ?_, ?_, ?_⟩⟩⟩
    · have hm := Mach.renData_failed (d := s.dram) (par := par) (k := k) (t := tm) hw hf
      rw [hfree, dropReason_eq] at hm
      exact next_congr hm
    all_goals subst hpar
    · exact next_congr ((Mach.renData_parity hw hf).trans (by rw [hfree]))
    · exact next_congr ((Mach.renData_late hw hf hp).trans (by rw [hfree]))
    · exact next_congr (Mach.renData_reads hw hf hp hl)
    · exact next_congr (Mach.renData_unasked hw hf hp hl hk)
    · intro items n x j hk hi hj
      have hm := Mach.renData_issue hw hf hp hl hk hi hj
      refine ⟨fun hless => next_congr (hm.trans (if_neg (by omega))), fun hall hdest => next_congr (hm.trans ?_)⟩
      rw [if_pos hall, if_neg (by omega)]
    · exact fun n hk hi => next_congr (Mach.renData_malformed hw hf hp hl hk hi)
  · intro e pass s hk hi hd
    have hm := Mach.katRun_inService (pass := pass) hk hi hd
    refine ⟨fun hw => next_congr (hm.trans (if_pos hw)), fun hw => next_congr (hm.trans ((if_neg (by simp [hw])).trans ?_))⟩
    rfl

end Sys2Proof.Machine
end

section
/-! The crossbar's cells (O26): how they enter (R193-R196, R206), move (R195, R197, R202, R205), and how a lock times out (R202). -/

namespace Sys2Proof.Machine
open Reg

/-! ### Entering -/

@[simp] theorem Mach.feed_setFeed_same (m : Mach) (i c : Nat) (l : List CellIn) : (m.setFeed i c l).feed i c = l := by
  rw [Mach.feed, Mach.setFeed, spGet_spSet_same]

@[simp] theorem Mach.domOn_setFeed (m : Mach) (i c d : Nat) (l : List CellIn) : (m.setFeed i c l).domOn d = m.domOn d := rfl

@[simp] theorem Mach.openOf_setFeed (m : Mach) (i c j k : Nat) (l : List CellIn) : (m.setFeed i c l).openOf j k = m.openOf j k := rfl

@[simp] theorem Mach.cellFits_setFeed (m : Mach) (i c j : Nat) (l : List CellIn) (x : CellIn) : (m.setFeed i c l).cellFits j x = m.cellFits j x := rfl

@[simp] theorem Mach.cellPlace_setFeed (m : Mach) (i c j k : Nat) (l : List CellIn) : (m.setFeed i c l).cellPlace j k = m.cellPlace j k := rfl

section present
variable {m : Mach} {i : Nat} {c : CellIn} (hf : m.feed i c.cls.val = [])
include hf

/-- A cell with none before it is the one that its block presents. -/
theorem Mach.presentOn_alone : m.presentOn i c true = Mach.feedIn i c.cls.val 1 (m.setFeed i c.cls.val [c]) := by
  simp only [Mach.presentOn, Mach.present, hf, Bool.not_true, Bool.and_false, Bool.false_eq_true, if_false, List.nil_append,
    Mach.feed_setFeed_same, List.length_singleton]

theorem Mach.presentOn_off (hd : m.domOn 3 = false) : m.presentOn i c true = m.setFeed i c.cls.val [c] := by
  rw [Mach.presentOn_alone hf]
  simp [Mach.feedIn, hd]

theorem Mach.presentOn_full (hd : m.domOn 3 = true) (hc : m.cellFits i c = true) (hp : m.cellPlace i c.cls.val = none) :
    m.presentOn i c true = m.setFeed i c.cls.val [c] := by
  rw [Mach.presentOn_alone hf]
  simp [Mach.feedIn, hd, hc, hp]

theorem Mach.presentOn_enters {sh : Bool} (hd : m.domOn 3 = true) (hc : m.cellFits i c = true) (hp : m.cellPlace i c.cls.val = some sh) :
    m.presentOn i c true = ((m.setFeed i c.cls.val [c]).setFeed i c.cls.val []).cellEnter i c sh := by
  rw [Mach.presentOn_alone hf]
  simp [Mach.feedIn, hd, hc, hp]

end present

/-- A first cell fits only where no packet of its class is still arriving (R194). -/
theorem Mach.openOf_of_first {m : Mach} {i : Nat} {c : CellIn} (hf : c.first = true) (hc : m.cellFits i c = true) :
    m.openOf i c.cls.val = none := by
  cases ho : m.openOf i c.cls.val with
  | none => rfl
  | some p => simp [Mach.cellFits, ho, hf] at hc

/-- The first cell of a unicast packet takes a buffer number and opens its packet. -/
def Mach.openUnicast (m : Mach) (i : Nat) (c : CellIn) : Mach :=
  let pk : Option OpenPk := if c.last then none else some { head := c, cells := 1, outs := [c.dst.toNat] }
  { m with xbr := { m.xbr with nextUid := m.xbr.nextUid + 1, openPk := spSet none m.xbr.openPk (i * 4 + c.cls.val) pk } }

theorem Mach.cellEnter_unicast {m : Mach} {i : Nat} {c : CellIn} {sh : Bool} (ho : m.openOf i c.cls.val = none) (hm : c.mcast = false) :
    m.cellEnter i c sh = if 57 ≤ c.dst.toNat then (m.openUnicast i c).cellStray i c
      else (m.openUnicast i c).enqueue (cellFor i m.xbr.nextUid sh c c.dst.toNat) := by
  simp only [Mach.cellEnter, ho, Mach.cellOutputs, hm, Bool.not_false, if_true, List.any_cons, List.any_nil, Bool.or_false,
    decide_eq_true_eq]
  rfl

/-- The first cell to a reserved port is counted, recorded and reported (R18). -/
theorem Mach.cellStray_first {m : Mach} {i : Nat} {c : CellIn} (hf : c.first = true) :
    m.cellStray i c = ((((if c.last then m.flightReturn i c.dst.toNat c.cls.val c.group.val c.epoch.val else m).xbrErr
      c.dst.toNat i c.cls.val 2).inc XBR_MISR_CNT XBR_MISR_CNT_count).ev XBR_STAT XBR_STAT_misroute_ev).raise fXbarMisroute c.dst.toNat := by
  simp [Mach.cellStray, hf]

theorem Mach.enqueue_kept {m : Mach} {x : XCell} (h : m.xbr.discard.contains (voqKey x.src x.dst x.cls) = false) :
    m.enqueue x = m.setVoq x.src x.dst x.cls (m.voq x.src x.dst x.cls ++ [x]) := by
  simp only [Mach.enqueue, h, Bool.false_eq_true, if_false]

/-! ### Moving -/

/-- The pair's turn in its cell time is over. -/
def Mach.unmatch (m : Mach) (i o c : Nat) : Mach := { m with xbr := { m.xbr with matched := m.xbr.matched.erase (i, o, c) } }

theorem Mach.cellDeliver_unmatched {m : Mach} {i o c : Nat} {p d b : Bool} (h : m.xbr.matched.contains (i, o, c) = false)
    (ht : m.cellTime.xbr.matched.contains (i, o, c) = false) : m.cellDeliver i o c p d b = m := by
  simp only [Mach.cellDeliver, h, ht, Bool.false_eq_true, if_false, Bool.not_false, if_true]

theorem Mach.cellDeliver_matched {m : Mach} {i o c : Nat} {p d b : Bool} {h : XCell} (hm : m.xbr.matched.contains (i, o, c) = true)
    (hr : m.request i o c = some h) :
    m.cellDeliver i o c p d b = (((m.unmatch i o c).deliver i o c h p d b).refeed i).tapsFeed := by
  simp only [Mach.cellDeliver, hm, if_true, Bool.not_true, Bool.false_eq_true, if_false, hr]
  rfl

/-- The cell has left its queue and taken its credit (R195, R197). -/
def Mach.sendHead (m : Mach) (i o c : Nat) (h : XCell) : Mach :=
  (m.setVoq i o c ((m.voq i o c).drop 1)).setCredit o h.pool (m.credit o h.pool - 1)

section deliver
variable {m : Mach} {i o c : Nat} {h : XCell}

/-- A sound single-cell packet goes out whole, and its flight ends (R195, R210). -/
theorem Mach.deliver_single (hf : h.first = true) (hl : h.last = true) (hp : h.poison = false) (hk : (m.sendHead i o c h).lockOf o c = none) :
    m.deliver i o c h true true true = (((((m.sendHead i o c h).setLock o c none).emit .cellOut
      [o, i, c, 0, 1, ({ h with poison := false } : XCell).tag] h.data).promise o h).flightReturn i o c h.group h.epoch).packetOut o h h.data false := by
  unfold Mach.sendHead at hk ⊢
  simp only [Mach.deliver, hk, hf, hl, hp]
  simp [b2n]

/-- The lock that the sound first cell of a packet takes (R202). -/
def lockFor (i o : Nat) (h : XCell) : XLock :=
  { inp := i, group := h.group, epoch := h.epoch, bad := false, acc := if 49 ≤ o ∧ o ≤ 52 ∨ o = 56 then h.data else [] }

/-- The sound first cell of a longer packet locks its output (R202). -/
theorem Mach.deliver_first (hf : h.first = true) (hl : h.last = false) (hp : h.poison = false) (hk : (m.sendHead i o c h).lockOf o c = none) :
    m.deliver i o c h true true true = (((m.sendHead i o c h).setLock o c (some (lockFor i o h))).emit .cellOut
      [o, i, c, 0, 0, ({ h with poison := false } : XCell).tag] h.data).promise o h := by
  unfold Mach.sendHead at hk ⊢
  simp only [Mach.deliver, hk, hf, hl, hp]
  simp [b2n, lockFor]

/-- A dst mismatch on the last cell of an unlocked packet is recorded, counted and raised, and ends the flight (R195, R210). -/
def Mach.misrouted (m : Mach) (i o c : Nat) (h : XCell) : Mach :=
  (((m.xbrErr o i c 2).inc XBR_MISR_CNT XBR_MISR_CNT_count).ev XBR_STAT XBR_STAT_misroute_ev).flightReturn i o c h.group h.epoch

theorem Mach.deliver_misrouted {p b : Bool} (hl : h.last = true) (hk : ((m.sendHead i o c h).misrouted i o c h).lockOf o c = none) :
    m.deliver i o c h p false b = ((m.sendHead i o c h).misrouted i o c h).raise fXbarMisroute o := by
  unfold Mach.misrouted Mach.sendHead at hk ⊢
  simp only [Mach.deliver, Bool.not_false, if_true, hk, hl]

end deliver

/-! ### Credits and timeouts -/

theorem Mach.creditReturn_adds {m : Mach} {o pool : Nat} (n : Nat) (h : 48 ≤ o ∨ pool ≠ 2 ∨ m.itemsFull o = false) :
    m.creditReturn o pool n = m.setCredit o pool (m.credit o pool + n) := by
  rw [Mach.creditReturn, if_neg]
  obtain h | h | h := h <;> simp [h]

theorem Mach.creditReturn_full {m : Mach} {o : Nat} (n : Nat) (ho : o < 48) (h : m.itemsFull o = true) : m.creditReturn o 2 n = m := by
  simp [Mach.creditReturn, ho, h]

theorem Mach.lockTimeout_none {m : Mach} {o c : Nat} (h : m.lockOf o c = none) : m.lockTimeout o c = m := by
  rw [Mach.lockTimeout, h]

/-- The packet that held the lock is gone: its rest is discarded and its flight ends, unless that has happened (R195, R202). -/
def Mach.unlock (m : Mach) (o c : Nat) (l : XLock) : Mach :=
  if l.gone then m.setLock o c none else ((m.setLock o c none).dropRest l.inp o c).flightReturn l.inp o c l.group l.epoch

theorem Mach.lockTimeout_held {m : Mach} {o c : Nat} {l : XLock} (h : m.lockOf o c = some l) (ho : o ≠ 53) :
    m.lockTimeout o c = (((((((m.unlock o c l).emit .cellOut [o, l.inp, c, 1, 1]).xbrErr o l.inp c 3).poisoned).ev XBR_STAT
      XBR_STAT_lock_to_ev).refeed l.inp)).tapsFeed := by
  simp only [Mach.lockTimeout, h, if_neg ho]
  rfl

/-! ### The obligation -/

/-- A first unicast cell that has a place, for a reserved port and for another. -/
theorem Mach.presentOn_first {m : Mach} {i : Nat} {c : CellIn} {sh : Bool} (hf : m.feed i c.cls.val = []) (hd : m.domOn 3 = true)
    (h1 : c.first = true) (hc : m.cellFits i c = true) (hp : m.cellPlace i c.cls.val = some sh) (hm : c.mcast = false) :
    m.presentOn i c true = if 57 ≤ c.dst.toNat then
        (((m.setFeed i c.cls.val [c]).setFeed i c.cls.val []).openUnicast i c).cellStray i c
      else (((m.setFeed i c.cls.val [c]).setFeed i c.cls.val []).openUnicast i c).enqueue (cellFor i m.xbr.nextUid sh c c.dst.toNat) := by
  rw [Mach.presentOn_enters hf hd hc hp, Mach.cellEnter_unicast (by simpa using Mach.openOf_of_first h1 hc) hm]
  rfl

/-- Settles O26: entering, moving, credits and the lock's timeout, each by its cases. -/
theorem crossbarMovesCells : Obligations.CrossbarMovesCells := by
  refine ⟨?_, ?_, ?_, ?_⟩
  · intro i c s hf w
    refine ⟨fun hd => next_congr (Mach.presentOn_off hf hd), fun hd hc hp => next_congr (Mach.presentOn_full hf hd hc hp), ?_⟩
    intro sh hd h1 hc hp hm e b
    have he := Mach.presentOn_first hf hd h1 hc hp hm
    refine ⟨fun h57 => next_congr (he.trans ((if_pos h57).trans (Mach.cellStray_first h1))), fun h57 hk => ?_⟩
    exact next_congr (he.trans ((if_neg (by omega)).trans (Mach.enqueue_kept hk)))
  · intro i o c p d b s
    refine ⟨fun h ht => next_congr (Mach.cellDeliver_unmatched h ht), ?_⟩
    intro h hm hr m n tag
    have he : ∀ {p d b : Bool} {x : Mach}, m.deliver i o c h p d b = x →
        exec (.xbarCellDeliver i o c p d b) s = .next { s with m := (x.refeed i).tapsFeed } :=
      fun hx => next_congr ((Mach.cellDeliver_matched hm hr).trans (congrArg (fun x : Mach => (x.refeed i).tapsFeed) hx))
    exact ⟨fun hf hl hp hk => he (Mach.deliver_single hf hl hp hk), fun hf hl hp hk => he (Mach.deliver_first hf hl hp hk),
      fun hl hk => he (Mach.deliver_misrouted hl hk)⟩
  · refine fun o pool n s => ⟨fun h => ?_, fun ho hp hi => ?_⟩
    · exact next_congr (Mach.creditReturn_adds n (h.imp_right (Or.imp_left (Fin.val_ne_of_ne (j := 2)))))
    · subst hp
      exact next_congr (Mach.creditReturn_full n ho hi)
  · exact fun o c s => ⟨fun h => next_congr (Mach.lockTimeout_none h), fun l h ho => next_congr (Mach.lockTimeout_held h ho)⟩

end Sys2Proof.Machine
end

section
/-! Laws that the rows of the shaft unit share: what a row with a chain time reads before that time is on the counter (R37), and a
row that may fire cams. -/

namespace Sys2Proof.Machine
open Reg

/-- What does not read chain time is the same at every chain time. -/
theorem Mach.at_congr {α : Type} {f : Mach → α} (h : ∀ (m : Mach) (c : Nat), f { m with ctime := c } = f m) (m : Mach) (t : Nat) :
    f (m.at_ t) = f m := by
  rw [Mach.at_]
  split
  · exact h m _
  · rfl

@[simp] theorem Mach.enc_at (m : Mach) (t ch : Nat) : (m.at_ t).enc ch = m.enc ch := by rw [Mach.enc, Mach.enc, Mach.at_shf]

@[simp] theorem Mach.shfOn_at (m : Mach) (t : Nat) : (m.at_ t).shfOn = m.shfOn := by rw [Mach.shfOn, Mach.shfOn, Mach.fg_at]

@[simp] theorem Mach.isMaster_at (m : Mach) (t ch : Nat) : (m.at_ t).isMaster ch = m.isMaster ch :=
  Mach.at_congr (f := (·.isMaster ch)) (fun _ _ => rfl) m t

@[simp] theorem Mach.isAux_at (m : Mach) (t ch : Nat) : (m.at_ t).isAux ch = m.isAux ch :=
  Mach.at_congr (f := (·.isAux ch)) (fun _ _ => rfl) m t

@[simp] theorem Mach.encFilter_at (m : Mach) (t ch : Nat) : (m.at_ t).encFilter ch = m.encFilter ch :=
  Mach.at_congr (f := (·.encFilter ch)) (fun _ _ => rfl) m t

@[simp] theorem Mach.encChange_at (m : Mach) (t ch : Nat) (a b : Bool) : (m.at_ t).encChange ch a b = m.encChange ch a b :=
  Mach.at_congr (f := (·.encChange ch a b)) (fun _ _ => rfl) m t

@[simp] theorem Mach.encPos_at (m : Mach) (t ch : Nat) (e : Enc) : (m.at_ t).encPos ch e = m.encPos ch e :=
  Mach.at_congr (f := (·.encPos ch e)) (fun _ _ => rfl) m t

@[simp] theorem Mach.enc_setEnc_same (m : Mach) (ch : Nat) (e : Enc) : (m.setEnc ch e).enc ch = e := by
  rw [Mach.enc, Mach.setEnc, spGet_spSet_same]

@[simp] theorem Mach.enc_wr (m : Mach) (a ch : Nat) (v : Word) : (m.wr a v).enc ch = m.enc ch := by rw [Mach.enc, Mach.enc, Mach.wr_shf]

@[simp] theorem Mach.rg_setEnc (m : Mach) (ch a : Nat) (e : Enc) : (m.setEnc ch e).rg a = m.rg a := rfl

/-- A row that may fire cams acts where none of them is set to a reserved encoding. -/
theorem State.updCams_none {s : State} {l : List Nat} (f : Mach → Mach) (h : s.m.badCam l = none) :
    s.updCams l f = .next { s with m := f s.m } := by
  rw [State.updCams, h]
  rfl

theorem State.updCams_nil {s : State} {l : List Nat} (f : Mach → Mach) (h : l = []) :
    s.updCams l f = .next { s with m := f s.m } :=
  State.updCams_none f (by rw [h]; rfl)

end Sys2Proof.Machine
end

section
/-! The encoder inputs (O6): what a change of A and B counts (R26-R28) and what the row then does, by the channel's part. -/

namespace Sys2Proof.Machine
open Reg

/-! ### What a change counts -/

theorem quadPhase_lt (a b : Bool) : quadPhase a b < 4 := by cases a <;> cases b <;> decide

theorem quadPhase_not_not (a b : Bool) : (quadPhase (!a) (!b) + 4 - quadPhase a b) % 4 = 2 := by
  cases a <;> cases b <;> rfl

section change
variable {m : Mach} {ch k t : Nat} {a b : Bool}

/-- A change of both levels at once counts nothing (R28). -/
theorem Mach.encChange_both (ha : (m.enc ch).a ≠ a) (hb : (m.enc ch).b ≠ b) : m.encChange ch a b = none := by
  obtain rfl : a = !(m.enc ch).a := Bool.eq_not.mpr ha.symm
  obtain rfl : b = !(m.enc ch).b := Bool.eq_not.mpr hb.symm
  simp [Mach.encChange, quadPhase_not_not]

/-- A change in the order of A leading B counts forward, or backward on a reversed channel (R28, R30). -/
theorem Mach.encChange_lead (h : quadPhase a b = (quadPhase (m.enc ch).a (m.enc ch).b + 1) % 4) :
    m.encChange ch a b =
      some (m.encStep ch { m.enc ch with a := a, b := b } (m.fg (encCfg ch) SHF_ENC0_CFG_reverse == 1)) := by
  have hd : (quadPhase a b + 4 - quadPhase (m.enc ch).a (m.enc ch).b) % 4 = 1 := by
    have := quadPhase_lt (m.enc ch).a (m.enc ch).b
    omega
  simp [Mach.encChange, hd]

theorem Mach.encStep_count (m : Mach) (ch : Nat) (e : Enc) (back : Bool) :
    (m.encStep ch e back).count = if back then (e.count + (m.fg (encCfg ch) SHF_ENC0_CFG_cpr_m1 + 1) - 1) % (m.fg (encCfg ch) SHF_ENC0_CFG_cpr_m1 + 1)
      else (e.count + 1) % (m.fg (encCfg ch) SHF_ENC0_CFG_cpr_m1 + 1) := by
  cases back <;> rfl

/-! ### The row, case by case -/

theorem Mach.encoderEdge_unstable (h : k < m.encFilter ch) : m.encoderEdge ch a b k t = m.at_ t := by
  simp [Mach.encoderEdge, h]

theorem Mach.encoderEdge_levels (hk : m.encFilter ch ≤ k) (hm : m.isMaster ch = false) (hx : m.isAux ch = false) :
    m.encoderEdge ch a b k t = (m.at_ t).setEnc ch { m.enc ch with a := a, b := b } := by
  simp [Mach.encoderEdge, Nat.not_lt.mpr hk, hm, hx]

theorem Mach.encoderEdge_both (hk : m.encFilter ch ≤ k) (hc : m.isMaster ch = true ∨ m.isAux ch = true)
    (ha : (m.enc ch).a ≠ a) (hb : (m.enc ch).b ≠ b) :
    m.encoderEdge ch a b k t = ((((m.at_ t).setEnc ch { m.enc ch with a := a, b := b }).sat SHF_ENC_ERR
      (if ch = 0 then SHF_ENC_ERR_enc0_err else SHF_ENC_ERR_enc1_err)).ev SHF_STAT SHF_STAT_enc_ev).raise fShaftEnc ch := by
  have hcount : (m.isMaster ch || m.isAux ch) = true := Bool.or_eq_true_iff.mpr hc
  simp [Mach.encoderEdge, Nat.not_lt.mpr hk, hcount, ha, hb]

/-- A counted edge goes on as the channel's part says: the master's, or the second channel's. -/
theorem Mach.encoderEdge_counts {e : Enc} (hk : m.encFilter ch ≤ k) (hc : m.isMaster ch = true ∨ m.isAux ch = true)
    (he : m.encChange ch a b = some e) :
    m.encoderEdge ch a b k t =
      if m.isMaster ch then (m.at_ t).masterEdge ch e (m.edgeTime ch t) else (m.at_ t).auxEdge ch e (m.edgeTime ch t) := by
  have hcount : (m.isMaster ch || m.isAux ch) = true := Bool.or_eq_true_iff.mpr hc
  have hone : ((m.enc ch).a != a && (m.enc ch).b != b) = false := by
    by_contra hboth
    simp only [Bool.not_eq_false, Bool.and_eq_true, bne_iff_ne] at hboth
    rw [Mach.encChange_both hboth.1 hboth.2] at he
    cases he
  have htime : (m.at_ t).edgeTime ch t = m.edgeTime ch t := by rw [Mach.edgeTime, Mach.edgeTime, Mach.encFilter_at]
  simp [Mach.encoderEdge, Nat.not_lt.mpr hk, hcount, hone, he, htime]

/-- Only a stable level of the master that counts can cross a cam. -/
theorem Mach.edgeCams_nil (h : k < m.encFilter ch ∨ m.isMaster ch = false ∨ m.encChange ch a b = none) : m.edgeCams ch a b k = [] := by
  obtain h | h | h := h <;> simp [Mach.edgeCams, h]

theorem Mach.edgeCams_counts {e : Enc} (hk : m.encFilter ch ≤ k) (hm : m.isMaster ch = true) (he : m.encChange ch a b = some e) :
    m.edgeCams ch a b k = (m.camsCrossed m.shf.pos (m.encPos ch e)).map (·.1) := by
  simp [Mach.edgeCams, hk, hm, he]

/-- A counted edge of the second channel in auxiliary mode keeps no record (R48). -/
theorem Mach.auxEdge_auxiliary (e : Enc) (h : m.fg SHF_CTRL SHF_CTRL_aux_mode = 1) :
    m.auxEdge ch e t = (m.setEnc ch e).wr SHF_AUX_ANGLE (BitVec.ofInt 32 (m.encPos ch e)) := by
  have hmode : ((m.setEnc ch e).wr SHF_AUX_ANGLE (BitVec.ofInt 32 (m.encPos ch e))).fg SHF_CTRL SHF_CTRL_aux_mode = 1 := by
    rw [Mach.fg_eq, Mach.rg_wr_ne _ _ (by decide), Mach.rg_setEnc, ← Mach.fg_eq, h]
  simp [Mach.auxEdge, hmode]

end change

/-- The low half of a position's register word is the angle fraction (R28, R55). -/
theorem Mach.encPos_word (m : Mach) (ch : Nat) (e : Enc) : (BitVec.ofInt 32 (m.encPos ch e)).toNat % 65536 = m.encFrac ch e.count := by
  have hf : m.encFrac ch e.count < 65536 := Nat.mod_lt _ (by decide)
  rw [BitVec.toNat_ofInt, Mach.encPos]
  omega

/-! ### The obligation -/

theorem exec_encoderEdge (ch : Fin 2) (a b : Bool) (k t : Nat) (s : State) :
    exec (.encoderEdge ch a b k t) s = s.updCams (s.m.edgeCams ch.val a b k) (·.encoderEdge ch.val a b k t) := rfl

/-- A change that fires no cam runs the shaft unit's row. -/
theorem exec_encoderEdge_quiet {ch : Fin 2} {a b : Bool} {k t : Nat} {s : State} {n : Mach}
    (h : k < s.m.encFilter ch ∨ s.m.isMaster ch = false ∨ s.m.encChange ch a b = none) (hn : s.m.encoderEdge ch a b k t = n) :
    exec (.encoderEdge ch a b k t) s = .next { s with m := n } := by
  rw [exec_encoderEdge, State.updCams_nil _ (Mach.edgeCams_nil h), hn]

/-- Settles O6: an unstable level, a channel that is not counted, a change of both levels, and the counted edge of the second and of
the master channel. -/
theorem encoderCountsQuadrature : Obligations.EncoderCountsQuadrature := by
  intro ch a b k tm s m e n rev accepted
  refine ⟨fun hk => ?_, fun hk hm hx => ?_, fun hk hc ha hb => ?_, fun hk hm hx hmode hq => ?_, fun hk hm hq hcams => ?_⟩
  · have hk : k < s.m.encFilter ch := Nat.lt_succ_of_le hk
    exact exec_encoderEdge_quiet (.inl hk) (Mach.encoderEdge_unstable hk)
  · exact exec_encoderEdge_quiet (.inr (.inl hm)) (Mach.encoderEdge_levels hk hm hx)
  · refine exec_encoderEdge_quiet (.inr (.inr (Mach.encChange_both ha hb))) ((Mach.encoderEdge_both hk hc ha hb).trans ?_)
    simp only [Fin.val_eq_zero_iff]
    rfl
  · have he := Mach.encChange_lead hq
    have hedge := Mach.encoderEdge_counts (t := tm) hk (.inr hx) he
    rw [if_neg (by simp [hm]), Mach.auxEdge_auxiliary _ (by rw [Mach.fg_at, hmode]), Mach.encPos_at] at hedge
    refine ⟨_, exec_encoderEdge_quiet (.inr (.inl hm)) hedge, ?_⟩
    rw [Mach.enc_wr, Mach.enc_setEnc_same]
    refine ⟨?_, rfl, rfl, ?_, fun r hr => ?_, ?_, rfl, rfl, rfl⟩
    · rw [Mach.encStep_count]
      exact if_congr beq_iff_eq rfl rfl
    · rw [Mach.rg_wr_same, Mach.encPos_word]
      rfl
    · rw [Mach.rg_wr_ne _ _ hr, Mach.rg_setEnc, Mach.rg_at]
    · rw [Mach.wr_out]
      exact Mach.at_out _ _
  · have he := Mach.encChange_lead hq
    rw [exec_encoderEdge, State.updCams_none _ (by rw [Mach.edgeCams_counts hk hm he]; exact hcams),
      Mach.encoderEdge_counts hk (.inl hm) he, if_pos hm]
    rfl

end Sys2Proof.Machine
end

section
/-! The index and the overdue record (O7): what a rising Z does (R29, R35) and when a record is overdue (R34). -/

namespace Sys2Proof.Machine
open Reg

/-! ### The index -/

/-- The index has been seen (R29): the count starts again and the channel is homed. -/
def Mach.indexSeen (m : Mach) (ch : Nat) : Mach :=
  m.setEnc ch { m.enc ch with z := true, count := 0, homed := true, indexAt := true }

/-- The index of the master shows in SHF_STAT (R29). -/
def Mach.indexHomes (m : Mach) (ch : Nat) : Mach := if m.isMaster ch then m.fs SHF_STAT SHF_STAT_homed 1 else m

/-- A count that the index corrected is reported (R29). -/
def Mach.indexReport (m : Mach) (ch : Nat) : Mach := (m.ev SHF_STAT SHF_STAT_index_ev).raise fShaftIndex ch

/-- The index of a channel that is homed comes more than one count away from a multiple of N (R29). -/
def Mach.indexOff (m : Mach) (ch : Nat) : Bool :=
  (m.enc ch).homed && decide (1 < min (m.enc ch).count (m.fg (encCfg ch) SHF_ENC0_CFG_cpr_m1 + 1 - (m.enc ch).count))

section index
variable {m : Mach} {ch k t : Nat} {level : Bool}

theorem Mach.indexPulse_unstable (h : k < m.encFilter ch) : m.indexPulse ch level k t = m.at_ t := by
  simp [Mach.indexPulse, h]

/-- What is no rising edge of an enabled index is stored alone. -/
theorem Mach.indexPulse_level (hk : m.encFilter ch ≤ k)
    (h : level = false ∨ (m.enc ch).z = true ∨ m.fg (encCfg ch) SHF_ENC0_CFG_z_en = 0) :
    m.indexPulse ch level k t = (m.at_ t).setEnc ch { m.enc ch with z := level } := by
  have hno : (level && !(m.enc ch).z && m.fg (encCfg ch) SHF_ENC0_CFG_z_en == 1) = false := by
    obtain h | h | h := h <;> simp [h]
  simp [Mach.indexPulse, Nat.not_lt.mpr hk, hno]

@[simp] theorem Mach.isMaster_indexSeen (m : Mach) (ch : Nat) : (m.indexSeen ch).isMaster ch = m.isMaster ch := rfl

theorem Mach.indexSeen_at (m : Mach) (ch t : Nat) : (m.at_ t).indexSeen ch =
    (m.at_ t).setEnc ch { m.enc ch with z := true, count := 0, homed := true, indexAt := true } := by rw [Mach.indexSeen, Mach.enc_at]

theorem Mach.indexOff_true (hh : (m.enc ch).homed = true) (h2 : 2 ≤ (m.enc ch).count)
    (hn : (m.enc ch).count + 2 ≤ m.fg (encCfg ch) SHF_ENC0_CFG_cpr_m1 + 1) : m.indexOff ch = true := by
  rw [Mach.indexOff, hh, Bool.true_and, decide_eq_true_eq]
  omega

theorem Mach.indexOff_false (h : (m.enc ch).homed = false ∨ (m.enc ch).count ≤ 1 ∨
    m.fg (encCfg ch) SHF_ENC0_CFG_cpr_m1 + 1 ≤ (m.enc ch).count + 1) : m.indexOff ch = false := by
  rw [Mach.indexOff, Bool.and_eq_false_iff, decide_eq_false_iff_not]
  exact h.imp_right fun h => by omega

/-- A rising edge of an enabled index (R29): the count and the homed flag, the report of a correction, then the lock (R35). -/
theorem Mach.indexPulse_rise (hk : m.encFilter ch ≤ k) (hl : level = true) (hz : (m.enc ch).z = false)
    (hen : m.fg (encCfg ch) SHF_ENC0_CFG_z_en = 1) (hc : m.isMaster ch = true ∨ m.isAux ch = true) :
    m.indexPulse ch level k t = (if m.indexOff ch then (((m.at_ t).indexSeen ch).indexHomes ch).indexReport ch
      else ((m.at_ t).indexSeen ch).indexHomes ch).evalLock t := by
  have hcount : (m.isMaster ch || m.isAux ch) = true := Bool.or_eq_true_iff.mpr hc
  simp only [Mach.indexPulse, Mach.encFilter_at, Nat.not_lt.mpr hk, hl, Mach.enc_at, hz, Mach.fg_at, hen, Mach.isMaster_at,
    Mach.isAux_at, hcount, Bool.not_false, Bool.and_self, beq_self_eq_true, Bool.not_true, Bool.false_eq_true, if_false]
  rw [Mach.indexSeen, Mach.enc_at]
  rfl

/-- The index of the second channel leaves SHF_STAT.homed alone. -/
theorem Mach.indexPulse_second (hk : m.encFilter ch ≤ k) (hl : level = true) (hz : (m.enc ch).z = false)
    (hen : m.fg (encCfg ch) SHF_ENC0_CFG_z_en = 1) (hm : m.isMaster ch = false) (hx : m.isAux ch = true) :
    m.indexPulse ch level k t =
      (if m.indexOff ch then ((m.at_ t).indexSeen ch).indexReport ch else (m.at_ t).indexSeen ch).evalLock t := by
  have hsame : ((m.at_ t).indexSeen ch).indexHomes ch = (m.at_ t).indexSeen ch :=
    if_neg (by rw [Mach.isMaster_indexSeen, Mach.isMaster_at, hm]; exact Bool.false_ne_true)
  rw [Mach.indexPulse_rise hk hl hz hen (.inr hx), hsame]

/-- The index of the master shows in SHF_STAT.homed. -/
theorem Mach.indexPulse_master (hk : m.encFilter ch ≤ k) (hl : level = true) (hz : (m.enc ch).z = false)
    (hen : m.fg (encCfg ch) SHF_ENC0_CFG_z_en = 1) (hm : m.isMaster ch = true) :
    m.indexPulse ch level k t =
      (if m.indexOff ch then (((m.at_ t).indexSeen ch).fs SHF_STAT SHF_STAT_homed 1).indexReport ch
        else ((m.at_ t).indexSeen ch).fs SHF_STAT SHF_STAT_homed 1).evalLock t := by
  have hhomes : ((m.at_ t).indexSeen ch).indexHomes ch = ((m.at_ t).indexSeen ch).fs SHF_STAT SHF_STAT_homed 1 :=
    if_pos (by rw [Mach.isMaster_indexSeen, Mach.isMaster_at, hm])
  rw [Mach.indexPulse_rise hk hl hz hen (.inl hm), hhomes]

end index

/-! ### Overdue records -/

/-- The record is overdue, once (R34). -/
def Mach.setOverdue (m : Mach) : Mach := { m with shf := { m.shf with overdue := true } }.ev SHF_STAT SHF_STAT_stall_ev

section overdue
variable {m : Mach} {t : Nat} {r q : ShRec} {l : List ShRec}

theorem Mach.recordOverdue_eq (t : Nat) (h : m.shf.hist = r :: q :: l) (hon : m.shfOn = true) :
    m.recordOverdue t = if r.t + 2 * (r.t - q.t) ≤ t then (if m.shf.overdue then m.at_ t else (m.at_ t).setOverdue).evalLock t
      else m.at_ t := by
  have hgap : (m.at_ t).lastGap = some (r, q) := by rw [Mach.lastGap, Mach.at_shf, h]
  simp only [Mach.recordOverdue, hgap, Mach.shfOn_at, hon, Bool.true_and, decide_eq_true_eq, Mach.at_shf, Mach.setOverdue]

end overdue

/-! ### The obligation -/

/-- Settles O7: an unstable level of Z, a level that is no index, the index of the second and of the master channel with and without
a correction, and the overdue record. -/
theorem indexAndOverdueRecord : Obligations.IndexAndOverdueRecord := by
  refine ⟨fun ch level k tm s => ⟨fun hk => ?_, fun hk => ⟨fun h => ?_, ?_, ?_, ?_⟩⟩, fun tm r q l s hh hon => ⟨fun ht ho => ?_, fun ht => ?_⟩⟩
  · exact next_congr (Mach.indexPulse_unstable (Nat.lt_succ_of_le hk))
  · exact next_congr (Mach.indexPulse_level hk h)
  · intro hl hz hen hm hx
    have hp := Mach.indexPulse_second (t := tm) hk hl hz hen hm hx
    rw [Mach.indexSeen_at] at hp
    refine ⟨fun h => ?_, fun hh h2 hn => ?_⟩
    · rw [Mach.indexOff_false h, if_neg Bool.false_ne_true] at hp
      exact next_congr hp
    · rw [Mach.indexOff_true hh h2 hn, if_pos rfl] at hp
      exact next_congr hp
  · intro hl hz hen hm h
    have hp := Mach.indexPulse_master (t := tm) hk hl hz hen hm
    rw [Mach.indexSeen_at, Mach.indexOff_false h, if_neg Bool.false_ne_true] at hp
    exact next_congr hp
  · intro hl hz hen hm hh h2 hn
    have hp := Mach.indexPulse_master (t := tm) hk hl hz hen hm
    rw [Mach.indexSeen_at, Mach.indexOff_true hh h2 hn, if_pos rfl] at hp
    exact next_congr hp
  · refine next_congr ((Mach.recordOverdue_eq tm hh hon).trans ?_)
    rw [if_pos ht, if_neg (by simp [ho]), Mach.setOverdue, Mach.at_shf]
  · exact next_congr ((Mach.recordOverdue_eq tm hh hon).trans (if_neg (Nat.not_le.mpr ht)))

end Sys2Proof.Machine
end

section
/-! The cam channels (O8): what a firing changes, what its action does to its GPIO (R40, R41), and the end of a pulse (R41, R62). -/

namespace Sys2Proof.Machine
open Reg

/-! ### GPIO outputs -/

theorem bitN_mod {v i n : Nat} (h : i < n) : bitN (v % 2 ^ n) i = bitN v i := by
  have hn : 2 ^ n = 2 ^ i * 2 ^ (n - i) := by rw [← pow_add, Nat.add_sub_cancel' h.le]
  have h2 : 2 ∣ 2 ^ (n - i) := dvd_pow_self 2 (by omega)
  rw [bitN, bitN, hn, Nat.mod_mul_right_div_self, Nat.mod_mod_of_dvd _ h2]

theorem Mach.driveGpio_gpioOut (m : Mach) {g : Nat} (level : Bool) (h : g < 24) : (m.driveGpio g level).gpioOut g = level := by
  have h32 : g < 32 := by omega
  rw [Mach.gpioOut, Mach.driveGpio, Mach.rg_emit, Mach.rg_wr_same, BitVec.toNat_ofNat, bitN_mod h32, bitN_setBitN_same]

theorem Mach.driveGpio_rg (m : Mach) (g : Nat) (level : Bool) {a : Nat} (h : a ≠ GLB_GPIO_OUT) : (m.driveGpio g level).rg a = m.rg a := by
  rw [Mach.driveGpio, Mach.rg_emit, Mach.rg_wr_ne _ _ h]

@[simp] theorem Mach.driveGpio_shf (m : Mach) (g : Nat) (level : Bool) : (m.driveGpio g level).shf = m.shf := by
  rw [Mach.driveGpio, Mach.emit_shf, Mach.wr_shf]

@[simp] theorem Mach.driveGpio_out (m : Mach) (g : Nat) (level : Bool) : (m.driveGpio g level).out = m.out ++ [⟨.gpio, [g, b2n level], []⟩] := by
  rw [Mach.driveGpio, Mach.emit_out, Mach.wr_out]

/-! ### A firing -/

/-- A firing is noted and counted, and put out where the channel reports it (R40, R42). -/
def Mach.noteFiring (m : Mach) (n : Nat) (rev : Int) : Mach :=
  let keep := m.shf.camFired.filter (fun e => decide ((e.2 - rev).natAbs < 32768))
  let m := { m with shf := { m.shf with camFired := keep ++ [(n, rev)] } }.inc (SHF_CAM_CNT n) SHF_CAM_CNT_fired
  if m.fg (SHF_CAM_CFG n) SHF_CAM_CFG_event == 1 then m.emit .notice [0, n] else m

/-- The level that an action gives a GPIO at its crossing (R41); action 6 drives none. -/
def camLevel (act : Nat) (old : Bool) : Option Bool :=
  match act with
  | 1 => some true
  | 2 => some false
  | 3 => some !old
  | 4 => some true
  | 5 => some false
  | _ => none

/-- The action of a firing (R41): actions 4 and 5 begin a pulse. -/
def Mach.camAct (m : Mach) (n g act : Nat) : Mach :=
  match act with
  | 1 => m.driveGpio g true
  | 2 => m.driveGpio g false
  | 3 => m.driveGpio g (!m.gpioOut g)
  | 4 => m.camPulseStart n g true
  | 5 => m.camPulseStart n g false
  | _ => m

theorem Mach.noteFiring_rg (m : Mach) (n : Nat) (rev : Int) {a : Nat} (h : a ≠ SHF_CAM_CNT n) : (m.noteFiring n rev).rg a = m.rg a := by
  simp only [Mach.noteFiring]
  split
  · rw [Mach.rg_emit, Mach.inc_eq, Mach.rg_fs, if_neg h, Mach.rg_mk]
  · rw [Mach.inc_eq, Mach.rg_fs, if_neg h, Mach.rg_mk]

theorem camCfg_ne_camCnt (n : Nat) : SHF_CAM_CFG n ≠ SHF_CAM_CNT n := by
  rw [SHF_CAM_CFG, SHF_CAM_CNT]
  omega

theorem gpioOut_ne_camCnt (n : Nat) : GLB_GPIO_OUT ≠ SHF_CAM_CNT n := by
  rw [GLB_GPIO_OUT, SHF_CAM_CNT]
  omega

theorem Mach.noteFiring_fired (m : Mach) (n : Nat) (rev : Int) :
    (m.noteFiring n rev).fg (SHF_CAM_CNT n) SHF_CAM_CNT_fired = (m.fg (SHF_CAM_CNT n) SHF_CAM_CNT_fired + 1) % 2 ^ 32 := by
  simp only [Mach.noteFiring]
  split
  · rw [Mach.fg_emit, Mach.inc_eq, Mach.fg_fs_same _ _ _ _ (by decide), Mach.fg_mk]
    rfl
  · rw [Mach.inc_eq, Mach.fg_fs_same _ _ _ _ (by decide), Mach.fg_mk]
    rfl

theorem Mach.noteFiring_mem (m : Mach) (n : Nat) (rev : Int) : (n, rev) ∈ (m.noteFiring n rev).shf.camFired := by
  simp only [Mach.noteFiring]
  split <;> simp

theorem Mach.fireCam_eq (m : Mach) (n : Nat) (rev : Int) :
    m.fireCam n rev = (m.noteFiring n rev).camAct n (m.fg (SHF_CAM_CFG n) SHF_CAM_CFG_gpio) (m.camAction n) := by
  have hcfg := m.noteFiring_rg n rev (camCfg_ne_camCnt n)
  rw [Mach.camAction, Mach.fg_eq, Mach.fg_eq, ← hcfg]
  rfl

/-- An action that drives its GPIO changes nothing else but what is noted of a pulse. -/
theorem Mach.camAct_drives (m : Mach) (n g : Nat) {level : Bool} : ∀ {act : Nat}, camLevel act (m.gpioOut g) = some level →
    ∃ p, m.camAct n g act = { m with shf := { m.shf with camPulse := p } }.driveGpio g level
  | 1, rfl | 2, rfl | 3, rfl => ⟨m.shf.camPulse, rfl⟩
  | 4, rfl | 5, rfl => ⟨_, rfl⟩

theorem Mach.camAct_idle (m : Mach) (n g : Nat) : ∀ {act : Nat}, camLevel act (m.gpioOut g) = none → m.camAct n g act = m
  | 0, _ | _ + 6, _ => rfl

theorem Mach.camAct_rg (m : Mach) (n g act : Nat) {a : Nat} (h : a ≠ GLB_GPIO_OUT) : (m.camAct n g act).rg a = m.rg a := by
  cases hl : camLevel act (m.gpioOut g) with
  | none => rw [Mach.camAct_idle m n g hl]
  | some level =>
    obtain ⟨p, hp⟩ := Mach.camAct_drives m n g hl
    rw [hp, Mach.driveGpio_rg _ _ _ h, Mach.rg_mk]

theorem Mach.camAct_camFired (m : Mach) (n g act : Nat) : (m.camAct n g act).shf.camFired = m.shf.camFired := by
  cases hl : camLevel act (m.gpioOut g) with
  | none => rw [Mach.camAct_idle m n g hl]
  | some level =>
    obtain ⟨p, hp⟩ := Mach.camAct_drives m n g hl
    rw [hp, Mach.driveGpio_shf]

/-- A firing writes the channel's counter and GPIO_OUT alone. -/
theorem Mach.fireCam_rg (m : Mach) (n : Nat) (rev : Int) {a : Nat} (hc : a ≠ SHF_CAM_CNT n) (hg : a ≠ GLB_GPIO_OUT) :
    (m.fireCam n rev).rg a = m.rg a := by
  rw [Mach.fireCam_eq, Mach.camAct_rg _ _ _ _ hg, Mach.noteFiring_rg _ _ _ hc]

theorem Mach.fireCam_fired (m : Mach) (n : Nat) (rev : Int) :
    (m.fireCam n rev).fg (SHF_CAM_CNT n) SHF_CAM_CNT_fired = (m.fg (SHF_CAM_CNT n) SHF_CAM_CNT_fired + 1) % 2 ^ 32 := by
  rw [Mach.fireCam_eq, Mach.fg_eq, Mach.camAct_rg _ _ _ _ (gpioOut_ne_camCnt n).symm, ← Mach.fg_eq, Mach.noteFiring_fired]

theorem Mach.fireCam_mem (m : Mach) (n : Nat) (rev : Int) : (n, rev) ∈ (m.fireCam n rev).shf.camFired := by
  rw [Mach.fireCam_eq, Mach.camAct_camFired]
  exact Mach.noteFiring_mem m n rev

section firing
variable {m : Mach} {n : Nat}

theorem Mach.noteFiring_gpioOut (m : Mach) (n g : Nat) (rev : Int) : (m.noteFiring n rev).gpioOut g = m.gpioOut g := by
  rw [Mach.gpioOut, Mach.noteFiring_rg _ _ _ (gpioOut_ne_camCnt n), Mach.gpioOut]

/-- A channel with no reserved field whose action drives its GPIO names one that exists (R61). -/
theorem Mach.gpio_lt_of_drives {old level : Bool} (hr : m.camReserved n = false) (h : camLevel (m.camAction n) old = some level) :
    m.fg (SHF_CAM_CFG n) SHF_CAM_CFG_gpio < 24 := by
  have hact : 1 ≤ m.camAction n ∧ m.camAction n ≤ 5 := by
    generalize m.camAction n = act at h
    match act, h with
    | 1, _ | 2, _ | 3, _ | 4, _ | 5, _ => decide
  simpa [Mach.camReserved, hact] using (Bool.or_eq_false_iff.mp hr).2

/-- After a firing the GPIO is at the level of the channel's action (R41). -/
theorem Mach.fireCam_gpioOut {level : Bool} (rev : Int) (hr : m.camReserved n = false)
    (h : camLevel (m.camAction n) (m.gpioOut (m.fg (SHF_CAM_CFG n) SHF_CAM_CFG_gpio)) = some level) :
    (m.fireCam n rev).gpioOut (m.fg (SHF_CAM_CFG n) SHF_CAM_CFG_gpio) = level := by
  obtain ⟨p, hp⟩ := Mach.camAct_drives (m.noteFiring n rev) n (m.fg (SHF_CAM_CFG n) SHF_CAM_CFG_gpio)
    (by rw [Mach.noteFiring_gpioOut]; exact h)
  rw [Mach.fireCam_eq, hp, Mach.driveGpio_gpioOut _ _ (Mach.gpio_lt_of_drives hr h)]

theorem Mach.fireCam_undriven (rev : Int) (h : ∀ old, camLevel (m.camAction n) old = none) :
    (m.fireCam n rev).rg GLB_GPIO_OUT = m.rg GLB_GPIO_OUT := by
  rw [Mach.fireCam_eq, Mach.camAct_idle _ _ _ (h _), Mach.noteFiring_rg _ _ _ (gpioOut_ne_camCnt n)]

end firing

/-! ### The end of a pulse -/

theorem Mach.camPulseEnd_none {m : Mach} {n : Nat} (h : spGet 0 m.shf.camPulse n = 0) : m.camPulseEnd n = m := by
  rw [Mach.camPulseEnd, h]

/-- No pulse of the channel is noted. -/
def Mach.endPulse (m : Mach) (n : Nat) : Mach := { m with shf := { m.shf with camPulse := spDel m.shf.camPulse n } }

/-- The GPIO noted at the pulse returns to the level noted with it (R41). -/
theorem Mach.camPulseEnd_some {m : Mach} {n g : Nat} {level : Bool} (h : spGet 0 m.shf.camPulse n = 2 * g + b2n level + 1) :
    m.camPulseEnd n = (m.endPulse n).driveGpio g level := by
  have hg : (2 * g + b2n level) / 2 = g := by
    have : b2n level < 2 := by cases level <;> decide
    omega
  have hl : ((2 * g + b2n level) % 2 == 1) = level := by cases level <;> simp [b2n]
  rw [Mach.camPulseEnd, h]
  simp only [hg, hl]
  rfl

/-! ### The obligation -/

theorem exec_camFirePredicted (n : Fin 32) (t : Nat) (s : State) :
    exec (.camFirePredicted n t) s = s.updCams (if s.m.camDue n.val t then [n.val] else []) (·.camFirePredicted n.val t) := rfl

@[simp] theorem Mach.camDue_at (m : Mach) (t n now : Nat) : (m.at_ t).camDue n now = m.camDue n now :=
  Mach.at_congr (f := (·.camDue n now)) (fun _ _ => rfl) m t

@[simp] theorem Mach.camNext_at (m : Mach) (t n : Nat) : (m.at_ t).camNext n = m.camNext n :=
  Mach.at_congr (f := (·.camNext n)) (fun _ _ => rfl) m t

@[simp] theorem Mach.camReserved_at (m : Mach) (t n : Nat) : (m.at_ t).camReserved n = m.camReserved n :=
  Mach.at_congr (f := (·.camReserved n)) (fun _ _ => rfl) m t

@[simp] theorem Mach.camAction_at (m : Mach) (t n : Nat) : (m.at_ t).camAction n = m.camAction n := Mach.fg_at m t _ _

@[simp] theorem Mach.gpioOut_at (m : Mach) (t g : Nat) : (m.at_ t).gpioOut g = m.gpioOut g := by
  rw [Mach.gpioOut, Mach.rg_at, Mach.gpioOut]

theorem Mach.camFirePredicted_eq (m : Mach) (n t : Nat) :
    m.camFirePredicted n t = if m.camDue n t then (m.at_ t).fireCam n (m.camNext n).1 else m.at_ t := by
  simp only [Mach.camFirePredicted, Mach.camDue_at, Mach.camNext_at]

theorem Mach.badCam_reserved {m : Mach} {n : Nat} (h : m.camReserved n = true) : m.badCam [n] = some n := by simp [Mach.badCam, h]

theorem Mach.badCam_free {m : Mach} {n : Nat} (h : m.camReserved n = false) : m.badCam [n] = none := by simp [Mach.badCam, h]

/-- Settles O8: a channel that is not due, a reserved one, a firing by its action, and the end of a pulse. -/
theorem camChannelFiresOnce : Obligations.CamChannelFiresOnce := by
  refine ⟨fun n tm s => ⟨fun hd => ?_, fun hd hr => ?_, fun hd hr => ?_⟩, fun n s => ⟨fun h => ?_, fun g level h hg => ?_⟩⟩
  · rw [exec_camFirePredicted, State.updCams_nil _ (if_neg (by simp [hd])), Mach.camFirePredicted_eq, if_neg (by simp [hd])]
  · rw [exec_camFirePredicted, if_pos hd, State.updCams, Mach.badCam_reserved hr]
  · rw [exec_camFirePredicted, if_pos hd, State.updCams_none _ (Mach.badCam_free hr), Mach.camFirePredicted_eq, if_pos hd]
    have hlevel : ∀ {level : Bool}, camLevel (s.m.camAction n) (s.m.gpioOut (s.m.fg (SHF_CAM_CFG n) SHF_CAM_CFG_gpio)) = some level →
        ((s.m.at_ tm).fireCam n (s.m.camNext n).1).gpioOut (s.m.fg (SHF_CAM_CFG n) SHF_CAM_CFG_gpio) = level := fun h => by
      have hfire := (s.m.at_ tm).fireCam_gpioOut (n := n) (s.m.camNext n).1 (by rw [Mach.camReserved_at, hr])
        (by rw [Mach.camAction_at, Mach.fg_at, Mach.gpioOut_at]; exact h)
      rwa [Mach.fg_at] at hfire
    refine ⟨_, rfl, ?_, Mach.fireCam_mem _ _ _, fun ha => ?_, fun ha => ?_, fun ha => ?_, fun ha => ?_, fun a hc hg => ?_, rfl, rfl, rfl⟩
    · rw [Mach.fireCam_fired, Mach.fg_at]
    · exact hlevel (by obtain ha | ha := ha <;> rw [ha] <;> rfl)
    · exact hlevel (by obtain ha | ha := ha <;> rw [ha] <;> rfl)
    · exact hlevel (by rw [ha]; rfl)
    · rw [Mach.fireCam_undriven _ (fun old => by rw [Mach.camAction_at, ha]; rfl), Mach.rg_at]
    · rw [Mach.fireCam_rg _ _ _ hc hg, Mach.rg_at]
  · exact next_congr (Mach.camPulseEnd_none h)
  · refine ⟨_, next_congr (Mach.camPulseEnd_some h), ?_, ?_, ?_, fun a ha => ?_, rfl, rfl, rfl⟩
    · exact Mach.driveGpio_gpioOut _ _ hg
    · rw [Mach.driveGpio_shf]
      exact spGet_spDel_same _ _ _
    · exact Mach.driveGpio_out _ _ _
    · exact Mach.driveGpio_rg _ _ _ ha

end Sys2Proof.Machine
end

section
/-! Records from the chain, plausibility and the frame grid (O9): which records are used and what a gap adds (R39), the 1 ms
comparison (R48), and the SOFs of delegated ports (R45, R47). -/

namespace Sys2Proof.Machine
open Reg

/-! ### Records from the chain -/

@[simp] theorem Mach.recUsed_at (m : Mach) (t src : Nat) : (m.at_ t).recUsed src = m.recUsed src :=
  Mach.at_congr (f := (·.recUsed src)) (fun _ _ => rfl) m t

/-- The sequence number that comes after a record is noted (R39). -/
def Mach.noteSeq (m : Mach) (r : ShaftRec) : Mach := { m with shf := { m.shf with nextSeq := some ((r.seq.toNat + 1) % 256) } }

section records
variable {m : Mach} {src t : Nat} {r : ShaftRec}

theorem Mach.recUsed_false (h : m.domOn 6 = false ∨ m.fg SHF_CTRL SHF_CTRL_source ≠ 2 ∨ m.fg SHF_CTRL SHF_CTRL_master_node ≠ src) :
    m.recUsed src = false := by
  obtain h | h | h := h <;> simp [Mach.recUsed, h]

theorem Mach.recordCams_unused (h : m.recUsed src = false) : m.recordCams src r = [] := by
  simp [Mach.recordCams, h]

theorem Mach.recordRx_unused (h : m.recUsed src = false) : m.recordRx src r t = m.at_ t := by
  simp [Mach.recordRx, h]

theorem Mach.recordRx_inOrder (h : m.recUsed src = true) (hs : m.shf.nextSeq = none ∨ m.shf.nextSeq = some r.seq.toNat) :
    m.recordRx src r t = ((m.at_ t).noteSeq r).recordTake r t := by
  obtain hs | hs := hs <;> simp [Mach.recordRx, h, hs, Mach.noteSeq]

/-- A gap (R39): the count of records starts again, before and after the record that shows it. -/
theorem Mach.recordRx_gap {q : Nat} (h : m.recUsed src = true) (hs : m.shf.nextSeq = some q) (hq : q ≠ r.seq.toNat) :
    m.recordRx src r t = (((((m.at_ t).noteSeq r).sinceNone).evalLock t).recordTake r t).sinceNone := by
  simp [Mach.recordRx, h, hs, hq, Mach.noteSeq]

end records

theorem exec_shaftRecordRx (src : Fin 32) (r : ShaftRec) (t : Nat) (s : State) :
    exec (.shaftRecordRx src r t) s = s.updCams (s.m.recordCams src.val r) (·.recordRx src.val r t) := rfl

/-! ### Plausibility -/

section plausibility
variable {m : Mach} {t : Nat}

theorem Mach.plausCheck_quiet (h : m.fg SHF_CTRL SHF_CTRL_aux_mode ≠ 2 ∨ (m.at_ t).plausDetail t = 0) : m.plausCheck t = m.at_ t := by
  obtain h | h := h <;> simp [Mach.plausCheck, h]

theorem Mach.plausCheck_exceeds (hon : m.shfOn = true) (hmode : m.fg SHF_CTRL SHF_CTRL_aux_mode = 2)
    (hsrc : m.fg SHF_CTRL SHF_CTRL_source < 2) (h : (m.at_ t).plausDetail t ≠ 0) :
    m.plausCheck t = ((m.at_ t).ev SHF_STAT SHF_STAT_plaus_ev).raise fShaftPlaus ((m.at_ t).plausDetail t) := by
  simp [Mach.plausCheck, hon, hmode, hsrc, h]

end plausibility

/-! ### The frame grid -/

@[simp] theorem Mach.port_at (m : Mach) (t p : Nat) : (m.at_ t).port p = m.port p := by rw [Mach.port, Mach.at_prt, Mach.port]

@[simp] theorem Mach.isDel_at (m : Mach) (t p : Nat) : (m.at_ t).isDel p = m.isDel p :=
  Mach.at_congr (f := (·.isDel p)) (fun _ _ => rfl) m t

@[simp] theorem Mach.pst_at (m : Mach) (t p : Nat) : (m.at_ t).pst p = m.pst p := Mach.fg_at m t _ _

/-- A port whose frame timer launches SOFs (R45). -/
def Mach.launchesSof (m : Mach) (p : Nat) : Prop := m.isDel p = true ∧ m.pst p = pEnabled

/-- The distance of two SOFs of a port, in ns (R45). -/
def Mach.sofGrid (m : Mach) (p : Nat) : Nat := if (m.fg (PRT_STAT p) PRT_STAT_speed == 3) = true then 125000 else 1000000

/-- The chain time that a frame timer shows: its port's own is off by what it is out of phase (R47). -/
def Mach.sofNominal (m : Mach) (p t : Nat) : Nat := ((t : Int) - (m.port p).phase).toNat

/-- An SOF goes out; what is left of the phase and the launch error fix the instant of the next one (R45, R47). -/
def Mach.sofOut (m : Mach) (p nominal : Nat) : Mach :=
  let next := nominal + m.sofGrid p
  let ph := phaseAfter (m.port p).phase (m.fg (PRT_STAT p) PRT_STAT_speed == 3)
  (m.setPort p { m.port p with phase := ph, sofAt := some (next, next + ph + sofError p next) }).emit .portBus
    [p, 5, nominal / 1000000 % 2048]

section sof
variable {m : Mach} {p t : Nat}

theorem Mach.sofLaunch_eq (m : Mach) (p t : Nat) : m.sofLaunch p t =
    if (m.isDel p && m.pst p == pEnabled && m.sofNominal p t % m.sofGrid p == 0) = true then (m.at_ t).sofOut p (m.sofNominal p t)
    else m.at_ t := by
  simp only [Mach.sofLaunch, Mach.isDel_at, Mach.pst_at, Mach.sofNominal, Mach.sofGrid, Mach.sofOut, Mach.port_at, Mach.fg_at]

theorem Mach.sofLaunch_onGrid (hl : m.launchesSof p) (hg : m.sofNominal p t % m.sofGrid p = 0) :
    m.sofLaunch p t = (m.at_ t).sofOut p (m.sofNominal p t) := by
  obtain ⟨hd, hs⟩ := hl
  rw [Mach.sofLaunch_eq, if_pos (by simp [hd, hs, hg])]

theorem Mach.sofLaunch_offGrid (h : m.isDel p = false ∨ m.pst p ≠ pEnabled ∨ m.sofNominal p t % m.sofGrid p ≠ 0) :
    m.sofLaunch p t = m.at_ t := by
  rw [Mach.sofLaunch_eq, if_neg]
  obtain h | h | h := h <;> simp [h]

end sof

/-! ### The end of re-phasing -/

/-- Every frame timer is in phase (R47). -/
def Mach.phasesZero (m : Mach) : Mach := forEach (upTo 48) (fun p m => m.setPort p { m.port p with phase := 0 }) m

/-- Re-phasing no longer keeps chain time from being locked (R47). -/
def Mach.endPhasing (m : Mach) : Mach := { m with shf := { m.shf with phasing := false } }

theorem Mach.frameTimerInPhase_waits {m : Mach} {p : Nat} (hp : p < 48) (hl : m.launchesSof p) (h : (m.port p).phase ≠ 0) :
    m.frameTimerInPhase = m := by
  obtain ⟨hd, hs⟩ := hl
  have hany : (upTo 48).any (fun p => m.isDel p && m.pst p == pEnabled && (m.port p).phase != 0) = true :=
    List.any_eq_true.mpr ⟨p, List.mem_range.mpr hp, by simp [hd, hs, h]⟩
  rw [Mach.frameTimerInPhase, if_pos hany]

theorem Mach.frameTimerInPhase_ends {m : Mach} (h : ∀ p < 48, m.launchesSof p → (m.port p).phase = 0) :
    m.frameTimerInPhase = m.phasesZero.endPhasing.setTimeLock true := by
  have hany : (upTo 48).any (fun p => m.isDel p && m.pst p == pEnabled && (m.port p).phase != 0) = false := by
    rw [List.any_eq_false]
    intro p hp hq
    simp only [Bool.and_eq_true, beq_iff_eq, bne_iff_ne] at hq
    exact hq.2 (h p (List.mem_range.mp hp) hq.1)
  rw [Mach.frameTimerInPhase, if_neg (by simp [hany])]
  rfl

/-- With the re-phasing ended, chain time is locked where it is synchronised (R38, R47). -/
theorem Mach.endPhasing_setTimeLock (m : Mach) : m.endPhasing.setTimeLock true =
    (m.endPhasing.fs SHF_STAT SHF_STAT_time_lock (b2n m.shf.synced)).evalLock m.ctime := by
  have hlock : (true && m.endPhasing.shf.synced && !m.endPhasing.shf.phasing) = m.shf.synced := by simp [Mach.endPhasing]
  rw [Mach.setTimeLock, hlock]
  rfl

/-! ### The obligation -/

/-- Settles O9: which records are used and what a gap adds, the comparison with and without an excess, the SOF on and off the grid,
and the re-phasing that goes on or ends. -/
theorem shaftRecordsPlausibilityAndFrames : Obligations.ShaftRecordsPlausibilityAndFrames := by
  refine ⟨fun src r tm s => ⟨fun h => ?_, fun hu hb => ⟨fun hs => ?_, fun q hs hq => ?_⟩⟩, fun _ _ _ => rfl,
    fun tm s => ⟨fun h => next_congr (Mach.plausCheck_quiet h), fun hon hm hsrc h => next_congr (Mach.plausCheck_exceeds hon hm hsrc h)⟩,
    fun p tm s => ⟨fun hd hp hg => ?_, fun h => ?_⟩, fun s => ⟨fun ⟨p, hd, hp, h⟩ => ?_, fun h => ?_⟩⟩
  · have hu := Mach.recUsed_false h
    rw [exec_shaftRecordRx, State.updCams_nil _ (Mach.recordCams_unused hu), Mach.recordRx_unused hu]
  · rw [exec_shaftRecordRx, State.updCams_none _ hb, Mach.recordRx_inOrder hu hs, Mach.noteSeq, Mach.at_shf]
  · rw [exec_shaftRecordRx, State.updCams_none _ hb, Mach.recordRx_gap hu hs hq, Mach.noteSeq, Mach.at_shf]
  · have hout := Mach.sofLaunch_onGrid ⟨hd, hp⟩ hg
    rw [Mach.sofOut, Mach.port_at, Mach.fg_at, Mach.sofGrid, Mach.fg_at] at hout
    exact next_congr hout
  · exact next_congr (Mach.sofLaunch_offGrid h)
  · exact next_congr (Mach.frameTimerInPhase_waits p.isLt ⟨hd, hp⟩ h)
  · have hends := Mach.frameTimerInPhase_ends (m := s.m) fun p hp hl => h p hp hl.1 hl.2
    rw [Mach.endPhasing_setTimeLock] at hends
    exact next_congr hends

end Sys2Proof.Machine
end

section
/-! Rennet's stream commands (O10): each by the state of the stream that it names (R66-R68, R90, R100). -/

namespace Sys2Proof.Machine
open Reg

/-! ### What a command names -/

theorem bitN_seven_of_lt {b : Nat} (h : b < 128) : bitN b 7 = false := by simp [bitN, Nat.div_eq_of_lt h]

/-- A byte below 128 names one stream, not a group. -/
theorem Mach.named_stream (m : Mach) {b : Nat} (h : b < 128) : m.named b = [b] :=
  if_neg (by simp [bitN_seven_of_lt h])

/-- The streams in one state among those that a byte below 128 names. -/
theorem Mach.named_filter (m : Mach) {b : Nat} (h : b < 128) (st : Nat) :
    (m.named b).filter (fun n => m.strState n == st) = if m.strState b = st then [b] else [] := by
  simp [m.named_stream h, List.filter_cons]

section commands
variable {m : Mach} {c : Cmd} (hd : m.domOn 5 = true)
include hd

/-! ### STREAM_DEFINE (R66) -/

/-- A stream's context registers take what the command carries. -/
def Mach.storeContext (m : Mach) (c : Cmd) : Mach :=
  ((((m.wr (REN_S_CTRL (c.b 8)) (BitVec.ofNat 32 (leAt c.payload 0 4) &&& ctrlMask)).wr (REN_S_TIMING (c.b 8))
    (BitVec.ofNat 32 (leAt c.payload 4 4))).setUncom 3 true).wr (REN_S_ANGLE01 (c.b 8)) (BitVec.ofNat 32 (leAt c.payload 8 4))).wr
    (REN_S_ANGLE23 (c.b 8)) (BitVec.ofNat 32 (leAt c.payload 12 4))

/-- The stream is in a state in which it has no commit point registered. -/
def Mach.restStream (m : Mach) (n st : Nat) : Mach :=
  (m.fs (REN_S_STAT n) REN_S_STAT_state st).setStr n { m.str n with reg := none, haltAt := none }

theorem Mach.streamDefine_running (hv : m.serves c (c.payload.length == 16) (defineOk c) = true) (h : m.strState (c.b 8) = 3) :
    m.streamDefine c = m.reply c 0x13 :=
  (Mach.serveIn_of_serves _ hv hd).trans (if_pos (by simp [h, stRunning]))

theorem Mach.streamDefine_defines (hv : m.serves c (c.payload.length == 16) (defineOk c) = true) (h : m.strState (c.b 8) ≠ 3)
    (hk : getF (BitVec.ofNat 32 (leAt c.payload 0 4) &&& ctrlMask) REN_S_CTRL_kind ≠ 0) :
    m.streamDefine c = (((m.storeContext c).restStream (c.b 8) 1).regroup (m.strGroup (c.b 8))).reply c 0 1 := by
  refine (Mach.serveIn_of_serves _ hv hd).trans ((if_neg (by simp [h, hk, stRunning])).trans ?_)
  simp only [beq_eq_false_iff_ne.mpr hk, Bool.false_eq_true, if_false]
  rfl

/-! ### STREAM_ARM (R67) -/

/-- An armed stream has its destination counts and its group's epoch (R66, R76). -/
def Mach.armStream (m : Mach) (n : Nat) : Mach :=
  (((m.recordDest n 0).recordDest n 1).fs (REN_S_STAT n) REN_S_STAT_state 2).joinEpoch n

theorem Mach.streamArm_otherState (d : Sp Byte) (hv : m.serves c (cmdBare c) (decide (c.b 8 < 128)) = true)
    (h1 : m.strState (c.b 8) ≠ 1) (h4 : m.strState (c.b 8) ≠ 4) : m.streamArm d c = m.reply c 0x13 :=
  (Mach.serveIn_of_serves _ hv hd).trans (if_pos (by simp [h1, h4, stDefined, stHalted]))

theorem Mach.streamArm_checked {d : Sp Byte} {k : Nat} {n : Mach} (hv : m.serves c (cmdBare c) (decide (c.b 8 < 128)) = true)
    (h : m.strState (c.b 8) = 1 ∨ m.strState (c.b 8) = 4) (hc : m.armCheck d (c.b 8) [0, 1] (bitN (c.b 9) 0) = (k, n)) :
    m.streamArm d c = if k ≠ 0 then n.reply c 0x13 k else (n.armStream (c.b 8)).reply c 0 := by
  refine (Mach.serveIn_of_serves _ hv hd).trans ((if_neg ?_).trans ?_)
  · obtain h | h := h <;> simp [h, stDefined, stHalted]
  · simp only [hc]
    rfl

/-! ### STREAM_START (R68) -/

omit hd in
/-- While D5 enters another state the command waits (R16, R102). -/
theorem Mach.streamStart_waits (h : m.domLeaving 5 = true) : m.streamStart c = m := if_pos h

theorem Mach.streamStart_armed (hl : m.domLeaving 5 = false) (hv : m.serves c (cmdBare c) (nameOk (c.b 8)) = true) (hb : c.b 8 < 128)
    (hs : m.strState (c.b 8) = 2) :
    m.streamStart c =
      if m.fg REN_STAT REN_STAT_stop = 1 ∨ m.fg REN_CTRL REN_CTRL_enable = 0 ∨ m.startPassed (c.b 8) (c.p 12 4) = true then m.reply c 0x13
      else (m.startStream (c.p 12 4) (c.b 8)).reply c 0 := by
  refine (if_neg (by simp [domRen, hl])).trans ((Mach.serveIn_of_serves _ hv hd).trans ?_)
  simp only [m.named_filter hb, stArmed, if_pos hs]
  simp [forEach, stBadState, stOk, or_assoc]

omit hd in
/-- The history that a start keeps is the stream's own: what it writes are registers. -/
theorem Mach.startStream_eq (pick n : Nat) :
    m.startStream pick n = ((m.fs (REN_S_STAT n) REN_S_STAT_state 3).wr (REN_S_ORIGIN n) (BitVec.ofNat 32 pick)).setStr n
      { m.str n with reg := some (pick, 0), haltAt := none, fresh := true, anyFrozen := false } := by
  simp only [Mach.startStream, Mach.str_wr, Mach.fs_eq, stRunning]

/-! ### STREAM_HALT and HALT_ALL (R100) -/

section halt
variable (hv : m.serves c (cmdBare c) (nameOk (c.b 8) && decide (c.b 9 < 2)) = true) (hb : c.b 8 < 128)
include hv hb

theorem Mach.streamHalt_idle (h : m.strState (c.b 8) ≠ 3) : m.streamHalt c = m.reply c 0x13 := by
  refine (Mach.serveIn_of_serves _ hv hd).trans ?_
  simp only [m.named_filter hb, stRunning, if_neg h, bitN_seven_of_lt hb]
  rfl

theorem Mach.streamHalt_running (h : m.strState (c.b 8) = 3) :
    m.streamHalt c = ((if c.b 9 = 0 then m.haltNow (c.b 8) 5 false else m.haltAtPick (c.b 8) false).afterHalt).reply c 0 := by
  refine (Mach.serveIn_of_serves _ hv hd).trans ?_
  simp only [m.named_filter hb, stRunning, if_pos h]
  rfl

end halt
end commands

/-! ### The obligation -/

/-- Settles O10: each stream command by the state of its stream. -/
theorem streamCommandsFollowStates : Obligations.StreamCommandsFollowStates := by
  intro c s hd
  refine ⟨fun hv => ⟨fun h => ?_, fun h hk => ?_⟩, fun hv => ⟨fun h1 h4 => ?_, fun k m h hc => ?_⟩, fun h => ?_,
    fun hl hv hb hs => ?_, fun hv hb => ⟨fun h => ?_, fun h h0 => ?_, fun h h1 => ?_⟩, fun hv => ?_⟩
  · exact next_congr (Mach.streamDefine_running hd hv h)
  · exact next_congr (Mach.streamDefine_defines hd hv h hk)
  · exact next_congr (Mach.streamArm_otherState hd s.dram hv h1 h4)
  · have hm := Mach.streamArm_checked hd hv h hc
    exact ⟨fun hk => next_congr (hm.trans (if_pos hk)), fun hk => next_congr (hm.trans (if_neg (not_not.mpr hk)))⟩
  · exact next_congr (Mach.streamStart_waits h)
  · have hm := Mach.streamStart_armed hd hl hv hb hs
    rw [Mach.startStream_eq] at hm
    refine ⟨fun h => next_congr (hm.trans (if_pos h)), fun hstop hen hp => next_congr (hm.trans (if_neg ?_))⟩
    simp [hstop, hen, hp]
  · exact next_congr (Mach.streamHalt_idle hd hv hb h)
  · exact next_congr ((Mach.streamHalt_running hd hv hb h).trans (by rw [if_pos h0]))
  · exact next_congr ((Mach.streamHalt_running hd hv hb h).trans (by rw [if_neg (by omega)]))
  · exact next_congr (Mach.serve_of_serves _ hv)

end Sys2Proof.Machine
end

section
/-! Rennet's tables and the changes of its groups (O11): STREAM_SWITCH and TABLE_FLIP (R96-R98), TABLE_WRITE of a stream entry (R94,
R394) and the end of a resync copy (R93). -/

namespace Sys2Proof.Machine
open Reg

/-! ### Changes of a group -/

section switch
variable {m n : Mach} {d : Sp Byte} {g : Nat}

/-- A change that is pending already refuses another (R96). -/
theorem Mach.switchRefusal_pending (h : m.fg (REN_GRP_STAT g) REN_GRP_STAT_pending = 1) : m.switchRefusal d g = (some 0x0A, m) :=
  if_pos (by simp [h])

section idle
variable (hp : m.fg (REN_GRP_STAT g) REN_GRP_STAT_pending = 0)
include hp

theorem Mach.switchRefusal_unsettled (h : m.isSettled g = false) : m.switchRefusal d g = (some 0x10, m) :=
  (if_neg (by simp [hp])).trans (if_pos (by simp [h]))

/-- In a settled group the shadow bank decides (R96). -/
theorem Mach.switchRefusal_settled {ok : Bool} (h : m.isSettled g = true) (hs : m.shadowOk d g = (ok, n)) :
    m.switchRefusal d g = (if ok then none else some 0x13, n) := by
  simp [Mach.switchRefusal, hp, h, hs, stBadState]

end idle

section commands
variable {c : Cmd} {st : Nat} (hd : m.domOn 5 = true)
include hd

section
variable (hv : m.serves c (cmdBare c) (decide (c.b 8 < 16)) = true)
include hv

theorem Mach.streamSwitch_refused (h : m.switchRefusal d (c.b 8) = (some st, n)) : m.streamSwitch d c = n.reply c st := by
  refine (Mach.serveIn_of_serves _ hv hd).trans ?_
  simp only [h]

/-- A switch that no running stream has frozen past is pending with its pick (R96). -/
theorem Mach.streamSwitch_accepted (h : m.switchRefusal d (c.b 8) = (none, n))
    (hf : ∀ i ∈ n.members (c.b 8), n.strState i = 3 → n.frozePast (c.p 12 4) i = false) :
    m.streamSwitch d c =
      (((n.acceptChange (c.b 8) false).wr (REN_GRP_SWPICK (c.b 8)) (BitVec.ofNat 32 (c.p 12 4))).pickReached).reply c 0 := by
  have hany : (n.members (c.b 8)).any (fun i => n.strState i == stRunning && n.frozePast (c.p 12 4) i) = false := by
    rw [List.any_eq_false]
    intro i hi hr
    simp only [Bool.and_eq_true, beq_iff_eq] at hr
    exact Bool.false_ne_true ((hf i hi hr.1).symm.trans hr.2)
  refine (Mach.serveIn_of_serves _ hv hd).trans ?_
  simp only [h, hany, Bool.false_eq_true, if_false, stOk]

end

section
variable (hv : m.serves c (cmdBare c) (c.p 8 2 / 4096 == 0xF && decide (c.p 8 2 % 4096 < 16)) = true)
include hv

theorem Mach.tableFlip_refused (h : m.switchRefusal d (c.p 8 2 % 4096) = (some st, n)) : m.tableFlip d c = n.reply c st := by
  refine (Mach.serveIn_of_serves _ hv hd).trans ?_
  simp only [h]

theorem Mach.tableFlip_accepted (h : m.switchRefusal d (c.p 8 2 % 4096) = (none, n)) :
    m.tableFlip d c = ((n.acceptChange (c.p 8 2 % 4096) true).pickReached).reply c 0 := by
  refine (Mach.serveIn_of_serves _ hv hd).trans ?_
  simp only [h, stOk]

end
end commands
end switch

/-! ### Writes of a stream entry -/

section table
variable {m : Mach} {kind i : Nat}

/-- A table that no group owns is written in both banks, and nothing becomes dirty (R94). -/
theorem Mach.tableRoute_free (h : m.owners kind i = []) (b : Option Nat) : m.tableRoute [(kind, i)] b = some ([0, 1], []) := by
  simp [Mach.tableRoute, h]

/-- A table with an unsettled owner is not written (R94). -/
theorem Mach.tableRoute_unsettled {g : Nat} (hg : g ∈ m.owners kind i) (hs : m.isSettled g = false) (b : Option Nat) :
    m.tableRoute [(kind, i)] b = none := by
  have hne : m.owners kind i ≠ [] := List.ne_nil_of_mem hg
  simp only [Mach.tableRoute, List.flatMap_singleton, List.isEmpty_iff, List.map_eq_nil_iff, hne, if_false]
  rw [if_pos]
  exact List.any_eq_true.mpr ⟨_, List.mem_map.mpr ⟨g, hg, rfl⟩, by simp [hs]⟩

/-- The ID of a stream entry is of kind 1 and has the stream as its index (R95). -/
theorem strEntryId_parts {n : Nat} (h : n < 128) : (0x1000 + n) / 4096 = 1 ∧ (0x1000 + n) % 4096 = n := by omega

section entry
variable {c : Cmd} (hd : m.domOn 5 = true) (hid : c.p 8 2 = 0x1000 + i) (hi : i < 128)
  (hv : m.serves c (decide (4 ≤ c.payload.length ∧ c.payload.length ≤ 1024) && c.payload.length % 4 == 0) (tableOk (c.p 8 2)) = true)
  (hfit : c.p 12 4 + c.payload.length ≤ 128)
include hd hid hi hv hfit

theorem Mach.tableWrite_entry_busy (hr : m.tableRoute [(1, i)] none = none) : m.tableWrite c = m.reply c 0x10 := by
  obtain ⟨hkind, hindex⟩ := strEntryId_parts hi
  refine (Mach.serveIn_of_serves _ hv hd).trans ?_
  simp [hid, hkind, hindex, hr, Mach.imageFits, hfit, stTableBusy]

theorem Mach.tableWrite_entry_stored {banks : List Nat} {marks : List (Nat × Nat)}
    (hr : m.tableRoute [(1, i)] none = some (banks, marks)) :
    m.tableWrite c = ((forEach banks (fun b m => m.putBytes (seAddr i b + c.p 12 4) c.payload) m).markDirty marks).reply c 0 := by
  obtain ⟨hkind, hindex⟩ := strEntryId_parts hi
  refine (Mach.serveIn_of_serves _ hv hd).trans ?_
  simp [hid, hkind, hindex, hr, Mach.imageFits, Mach.imagePut, hfit, stOk]

end entry
end table

/-! ### The end of a resync copy -/

section resync
variable {m : Mach} {g : Nat}

theorem Mach.resyncDone_idle (h : (m.grp g).copying = false) : m.resyncDone g = m := if_pos (by simp [h])

theorem Mach.resyncDone_copied (h : (m.grp g).copying = true) : m.resyncDone g =
    if (m.copyDirty g).drained g then
      ((m.copyDirty g).setGrp g { (m.copyDirty g).grp g with copying := false, draining := false }).ev (REN_GRP_STAT g) REN_GRP_STAT_switched_ev
    else (m.copyDirty g).setGrp g { (m.copyDirty g).grp g with copying := false } :=
  if_neg (by simp [h])

end resync

/-! ### The obligation -/

/-- Settles O11: what refuses a switch or a flip and what accepts it, where a stream entry's bytes go, and the end of a copy. -/
theorem tablesAndGroupChanges : Obligations.TablesAndGroupChanges := by
  refine ⟨fun c s hd hv => ⟨fun hp => ?_, fun hp hs => ?_, fun m hp hs => ⟨fun hok => ?_, fun hok hf => ?_⟩⟩,
    fun c s hd hv => ⟨fun hp => ?_, fun hp hs => ?_, fun m hp hs hok => ?_⟩,
    fun c i s hd hid hi hv hfit => ⟨fun ho => ?_, fun g hg hs => ?_⟩, fun g s => ⟨fun h => ?_, fun h => ?_⟩⟩
  · exact next_congr (Mach.streamSwitch_refused hd hv (Mach.switchRefusal_pending hp))
  · exact next_congr (Mach.streamSwitch_refused hd hv (Mach.switchRefusal_unsettled hp hs))
  · exact next_congr (Mach.streamSwitch_refused hd hv (Mach.switchRefusal_settled hp hs hok))
  · exact next_congr (Mach.streamSwitch_accepted hd hv (Mach.switchRefusal_settled hp hs hok) hf)
  · exact next_congr (Mach.tableFlip_refused hd hv (Mach.switchRefusal_pending hp))
  · exact next_congr (Mach.tableFlip_refused hd hv (Mach.switchRefusal_unsettled hp hs))
  · exact next_congr (Mach.tableFlip_accepted hd hv (Mach.switchRefusal_settled hp hs hok))
  · exact next_congr (Mach.tableWrite_entry_stored hd hid hi hv hfit (Mach.tableRoute_free ho none))
  · exact next_congr (Mach.tableWrite_entry_busy hd hid hi hv hfit (Mach.tableRoute_unsettled hg hs none))
  · exact next_congr (Mach.resyncDone_idle h)
  · exact next_congr (Mach.resyncDone_copied h)

end Sys2Proof.Machine
end

section
/-! Register rows that act on Rennet, taps, DRAM, hub, hoops, chain and watchdog (O20): what each register's write does once it
reaches it (R411, R415), and the hoops' writes over the die link (R8, R11). -/

namespace Sys2Proof.Machine
open Reg

/-! ### Writes that reach an ordinary register -/

/-- A register off the die link that is never reserved and whose writes neither reset the chip nor set lock bits. -/
def ordinaryReg (a : Nat) : Bool := !isPdi a && a != FLT_INJ && a != JNL_RESET && a != GLB_GUARD

theorem ordinaryReg_iff (a : Nat) : ordinaryReg a = true ↔ isPdi a = false ∧ a ≠ FLT_INJ ∧ a ≠ JNL_RESET ∧ a ≠ GLB_GUARD := by
  simp [ordinaryReg, and_assoc]

section put
variable {s : State} {a : Acc} {addr : Nat} {v : Word} {more : Mach → Mach} {site : RegSite} {n : Mach} {config : Bool}
variable (h : Reaches s a addr true) (ho : ordinaryReg addr = true)
include h ho

theorem put_effect (hi : siteInfo addr = some (site, config, none)) (hb : s.m.blockRule (a.direct || a.ch.val == 2) v site = none)
    (he : s.m.writeEffect addr v 15 site = (0, n)) :
    s.put a addr v 15 more = .next { s with m := (more (n.markConfig addr)).answer a 0 0 } := by
  obtain ⟨hp, hf, hj, hl⟩ := (ordinaryReg_iff addr).mp ho
  exact put_of_reaches h hp (Mach.siteAt_of_info hi hf) (guard_of_info hi) hb he hj hl

/-- A register that Tally does not check. -/
theorem put_unmarked (hi : siteInfo addr = some (site, false, none)) (hb : s.m.blockRule (a.direct || a.ch.val == 2) v site = none)
    (he : s.m.writeEffect addr v 15 site = (0, n)) :
    s.put a addr v 15 more = .next { s with m := (more n).answer a 0 0 } := by
  rw [put_effect h ho hi hb he, Mach.markConfig_plain hi]

/-- A CONFIG register marks its block for Tally (R431). -/
theorem put_marked {i : Nat} (hi : siteInfo addr = some (site, true, none)) (ht : tallyIdx addr = some i)
    (hb : s.m.blockRule (a.direct || a.ch.val == 2) v site = none) (he : s.m.writeEffect addr v 15 site = (0, n)) :
    s.put a addr v 15 more = .next { s with m := (more (n.setUncom i true)).answer a 0 0 } := by
  rw [put_effect h ho hi hb he, Mach.markConfig_config hi ht]

theorem put_badState (hi : siteInfo addr = some (site, config, none))
    (hb : s.m.blockRule (a.direct || a.ch.val == 2) v site = some 0x13) :
    s.put a addr v 15 more = .next { s with m := s.m.answer a 0x13 0 } := by
  obtain ⟨hp, hf, -, -⟩ := (ordinaryReg_iff addr).mp ho
  exact put_refused h hp (Mach.siteAt_of_info hi hf) (guard_of_info hi) hb (by decide) (by decide)

end put

/-! ### Rennet (R99, R101, R103) -/

section rennet
variable {m : Mach} {own : Bool} {v : Word} {g : Nat}

/-- The fields of REN_CTRL, with the known-answer tests that wait ended where kat_en is 0 (R103). -/
def Mach.renCtrlStored (m : Mach) (v : Word) : Mach :=
  if v.getLsbD 1 then m.fieldWrite REN_CTRL v else (m.fieldWrite REN_CTRL v).katOff

/-- Where enable goes to 0 every stream halts (R101). -/
theorem Mach.writeEffect_renCtrl (m : Mach) (v : Word) : m.writeEffect REN_CTRL v 15 .renCtrl =
    (0, if m.fg REN_CTRL REN_CTRL_enable = 1 ∧ v.getLsbD 0 = false then ((m.renCtrlStored v).haltAllNow 5 false).afterHalt
      else m.renCtrlStored v) :=
  congrArg (Prod.mk 0) (if_congr (by simp) rfl rfl)

/-! The two bits of REN_GRPn_CTRL, each written alone (R99). -/

theorem Mach.writeEffect_cancel (m : Mach) (a g : Nat) : m.writeEffect a 1#32 15 (.grpCtrl g) = (0, m.groupCancel g) := by
  simp [Mach.writeEffect, stOk]

theorem Mach.writeEffect_revert (m : Mach) (a g : Nat) : m.writeEffect a 2#32 15 (.grpCtrl g) = (0, m.copyDirty g) := by
  simp [Mach.writeEffect, stOk]

/-- A pending change that has not begun is taken back (R99). -/
theorem Mach.groupCancel_early (hp : m.fg (REN_GRP_STAT g) REN_GRP_STAT_pending = 1) (hc : (m.grp g).changed = []) :
    m.groupCancel g = (m.setGrp g { m.grp g with flip := false }).fs (REN_GRP_STAT g) REN_GRP_STAT_pending 0 :=
  if_pos (by simp [hp, hc])

theorem Mach.groupCancel_late (hp : m.fg (REN_GRP_STAT g) REN_GRP_STAT_pending = 0) :
    m.groupCancel g = m.ev (REN_GRP_STAT g) REN_GRP_STAT_cancel_late_ev :=
  if_neg (by simp [hp])

theorem Mach.blockRule_cancel (m : Mach) (own : Bool) (g : Nat) : m.blockRule own 1#32 (.grpCtrl g) = none := rfl

theorem Mach.blockRule_revert (m : Mach) (own : Bool) (g : Nat) : m.blockRule own 2#32 (.grpCtrl g) =
    if m.isSettled g = false ∨ m.fg (REN_GRP_STAT g) REN_GRP_STAT_pending = 1 then some 0x13 else none := by
  simp [Mach.blockRule, stBadState]

end rennet

/-! ### Taps, DRAM and training (R222, R270, R305) -/

/-- A tap that is not enabled yet starts afresh (R222, R232). -/
theorem Mach.writeEffect_tapEnable {m : Mach} {a n : Nat} {v : Word} (hv : v.getLsbD 31 = true)
    (h : m.fg (WTP_T_CFG n) WTP_T_CFG_enable = 0) :
    m.writeEffect a v 15 (.tapCfg n) = (0, ((m.fieldWrite a v).tapEnabled n).tapFull n) := by
  simp only [Mach.writeEffect, hv, h, beq_self_eq_true, Bool.and_self, if_true, stOk]

/-- Without a readout DMC_SCRUB stores its fields alone. -/
theorem Mach.writeEffect_scrub {m : Mach} {a : Nat} {v : Word} (hv : v.getLsbD 30 = false) :
    m.writeEffect a v 15 .dramScrub = (0, m.fieldWrite a v) := by
  simp only [Mach.writeEffect, hv, Bool.false_eq_true, if_false, stOk]

section phy
variable {m : Mach} {a : Nat} {v : Word}

theorem Mach.blockRule_phyIdle (own : Bool) (h : m.fg DPY_STAT DPY_STAT_flash_busy = 0) : m.blockRule own v .phyCtrl = none := by
  simp [Mach.blockRule, h]

theorem Mach.writeEffect_invalidate (hv : v.getLsbD 2 = true) :
    m.writeEffect a v 15 .phyCtrl = (0, (m.fieldWrite a v).startFlash .invalidate) := by
  simp only [Mach.writeEffect, hv, if_true, stOk]

theorem Mach.writeEffect_markClear (h2 : v.getLsbD 2 = false) (h3 : v.getLsbD 3 = true) :
    m.writeEffect a v 15 .phyCtrl = (0, (m.fieldWrite a v).startFlash .markClear) := by
  simp only [Mach.writeEffect, h2, h3, Bool.false_eq_true, if_false, if_true, stOk]

end phy

/-! ### Hub (R332, R333) -/

section hub
variable {m : Mach} {v : Word}

theorem Mach.blockRule_connects (own : Bool) (h : (m.connectWrite (v.getLsbD 0)).1 = 0) : m.blockRule own v .hubCtrl = none := if_pos h

/-- A map that is not valid keeps the hub from connecting (R333). -/
theorem Mach.blockRule_badMap (own : Bool) (hv : v.getLsbD 0 = true) (hc : m.fg HUB_CTRL HUB_CTRL_connect ≠ 1) (hm : m.mapOk = false) :
    m.blockRule own v .hubCtrl = some 0x13 := by
  simp [Mach.blockRule, Mach.connectWrite, hv, hc, hm, stBadState, stOk]

end hub

/-! ### Hoops over the die link (R8, R11) -/

theorem domOf_hoopCtrl : ∀ k : Fin 12, domOf (PDI_HOOP_CTRL k) = some 18 := by decide

theorem isPdi_hoopCtrl : ∀ k : Fin 12, isPdi (PDI_HOOP_CTRL k) = true := by decide

theorem hoopCtrl_ne : ∀ k : Fin 12, PDI_HOOP_CTRL k ≠ FLT_INJ ∧ PDI_HOOP_CTRL k ≠ JNL_RESET ∧ PDI_HOOP_CTRL k ≠ GLB_GUARD := by decide

/-- Checks 1 to 3 pass only where the register's block answers. -/
theorem Mach.blockOn_of_gate {m : Mach} {ch a : Nat} {d : Bool} {w : Option Nat} (h : m.accessGate ch d a w = none) : m.blockOn a = true := by
  unfold Mach.accessGate at h
  split_ifs at h with hport halign hwidth hblock
  simpa using hblock

section hoops
variable {s : State} {a : Acc} {k : Fin 12} {v : Word} (h : Reaches s a (PDI_HOOP_CTRL k) true)
include h

/-- A hoop that may be reached has the die link in service. -/
theorem inService_of_reaches : s.m.dl.inService = true := by
  obtain ⟨-, -, hgate, -⟩ := h
  have hb := Mach.blockOn_of_gate hgate
  rw [Mach.blockOn, domOf_hoopCtrl] at hb
  exact (Bool.and_eq_true_iff.mp hb).2

theorem put_hoop_quiet {st : Nat} {n : Mach} (hq : s.m.dl.quiet = true)
    (he : (s.m.dlPass .core 0x1 1 (regReqData (PDI_HOOP_CTRL k) (some v))).writeEffect (PDI_HOOP_CTRL k) v 15 (.hoopCtrl k) = (st, n))
    (hst : st < 0x100) :
    s.put a (PDI_HOOP_CTRL k) v 15 = .next { s with m := (n.dlPass .power 0x2 0 (regRspData st 0)).answer a st 0 } := by
  have hi := info_hoopCtrl k
  obtain ⟨hf, hj, hl⟩ := hoopCtrl_ne k
  rw [put_pdi h (isPdi_hoopCtrl k) hq hf (siteOf_of_info hi) (guard_of_info hi) rfl he (by omega) hj hl, Mach.markConfig_plain hi, ite_self]

theorem put_hoop_busy (hq : s.m.dl.quiet = false) : s.put a (PDI_HOOP_CTRL k) v 15 =
    .next { s with m := s.m.pdiSend (.own a) [{ addr := PDI_HOOP_CTRL k, write := some v }] } := by
  have ⟨_, _, hgate, _⟩ := h
  exact put_waits h (guard_of_info (info_hoopCtrl k)) (Mach.pdiWaits_busy (isPdi_hoopCtrl k) (inService_of_reaches h) hq hgate)

end hoops

theorem Mach.writeEffect_hoopOff (m : Mach) (a : Nat) (k : Fin 12) : m.writeEffect a 1#32 15 (.hoopCtrl k) = (0, m.swOffReq (.hoop k)) := rfl

theorem Mach.writeEffect_hoopOn (m : Mach) (a : Nat) (k : Fin 12) : m.writeEffect a 2#32 15 (.hoopCtrl k) = m.swOnReq (.hoop k) := rfl

/-! ### Watchdog (R519) -/

theorem Mach.writeEffect_kick {m : Mach} {a : Nat} {v : Word} (hv : v.getLsbD 30 = true) :
    m.writeEffect a v 15 .jnlWdog = (0, (m.fieldWrite a v).boots (fun b => { b with wdogOnce := false })) := by
  simp only [Mach.writeEffect, hv, if_true, stOk]

/-! ### The obligation -/

theorem ordinaryReg_grpCtrl : ∀ g : Fin 16, ordinaryReg (REN_GRP_CTRL g) = true := by decide

theorem ordinaryReg_tapCfg : ∀ n : Fin 4, ordinaryReg (WTP_T_CFG n) = true := by decide

theorem tallyIdx_tapCfg : ∀ n : Fin 4, tallyIdx (WTP_T_CFG n) = some 5 := by decide

/-- Settles O20: each row's write reaches its register, whose effect is the one that its lemma names. -/
theorem registerRowsActOnEngines : Obligations.RegisterRowsActOnEngines := by
  intro a v s
  refine ⟨fun h => ?_, fun g h => ⟨fun hp hc => ?_, fun hp => ?_, fun hs hp => ?_, fun hs => ?_⟩, fun n h hen => ?_, fun counts h => ?_,
    fun h hb => ⟨?_, fun h2 => ?_⟩, fun h => ⟨fun hc => ?_, fun hv hc hm => ?_⟩,
    fun k h => ⟨fun hq => ⟨?_, fun n st hon hst => ?_⟩, fun hq => ⟨?_, ?_⟩⟩, fun h => ?_, fun h => ?_⟩
  · exact put_marked h (by decide) info_renCtrl rfl rfl (Mach.writeEffect_renCtrl s.m v)
  · rw [← Mach.groupCancel_early hp hc]
    exact put_unmarked h (ordinaryReg_grpCtrl g) (info_grpCtrl g) (Mach.blockRule_cancel _ _ _) (Mach.writeEffect_cancel _ _ _)
  · rw [← Mach.groupCancel_late hp]
    exact put_unmarked h (ordinaryReg_grpCtrl g) (info_grpCtrl g) (Mach.blockRule_cancel _ _ _) (Mach.writeEffect_cancel _ _ _)
  · refine put_unmarked h (ordinaryReg_grpCtrl g) (info_grpCtrl g) ((Mach.blockRule_revert _ _ _).trans (if_neg ?_)) (Mach.writeEffect_revert _ _ _)
    simp [hs, hp]
  · exact put_badState h (ordinaryReg_grpCtrl g) (info_grpCtrl g) ((Mach.blockRule_revert _ _ _).trans (if_pos (.inl hs)))
  · exact put_marked h (ordinaryReg_tapCfg n) (info_tapCfg n) (tallyIdx_tapCfg n) rfl (Mach.writeEffect_tapEnable (by simp) hen)
  · exact put_marked h (by decide) info_dramScrub rfl rfl (Mach.writeEffect_scrub (by simp))
  · exact put_marked h (by decide) info_phyCtrl rfl (Mach.blockRule_phyIdle _ hb) (Mach.writeEffect_invalidate (by simp))
  · exact put_marked h (by decide) info_phyCtrl rfl (Mach.blockRule_phyIdle _ hb)
      (Mach.writeEffect_markClear (by rw [BitVec.getLsbD_or, h2]; rfl) (by simp))
  · exact put_unmarked h (by decide) info_hubCtrl (Mach.blockRule_connects _ hc) rfl
  · exact put_badState h (by decide) info_hubCtrl (Mach.blockRule_badMap _ hv hc hm)
  · exact put_hoop_quiet h hq (Mach.writeEffect_hoopOff _ _ k) (by decide)
  · exact put_hoop_quiet h hq ((Mach.writeEffect_hoopOn _ _ k).trans hon) hst
  · exact put_hoop_busy h hq
  · exact put_hoop_busy h hq
  · exact put_marked h (by decide) info_chnCtrl rfl rfl rfl
  · exact put_effect h (by decide) info_jnlWdog rfl (Mach.writeEffect_kick (by simp))

end Sys2Proof.Machine
end

section
/-! The slot copy (O16): every active entry of the port takes its shadow entry's value at a frame boundary (R145-R147). -/

namespace Sys2Proof.Machine
open Reg

/-! ### The entries -/

theorem slotActive_inj {p i j : Nat} : slotActive p i = slotActive p j ↔ i = j := by
  simp only [slotActive]; omega

/-- The shadow bank lies below the active one. -/
theorem slotShadow_ne_slotActive {p i : Nat} (h : i < 32) (j : Nat) : slotShadow p i ≠ slotActive p j := by
  simp only [slotShadow, slotActive]; omega

theorem slotActive_ne_slotCtrl (p : Fin 48) (i : Nat) : slotActive p i ≠ PRT_SLOT_CTRL p := by
  simp only [slotActive, PRT_SLOT_CTRL]; omega

/-! ### Copying -/

/-- An active entry takes its shadow entry's value. -/
def Mach.copySlot (p i : Nat) (m : Mach) : Mach := m.wr (slotActive p i) (m.rg (slotShadow p i))

/-- The whole shadow bank is copied. -/
def Mach.copySlots (m : Mach) (p : Nat) : Mach := forEach (upTo 32) (Mach.copySlot p) m

section list
variable {l : List Nat} {p : Nat}

theorem Mach.copySlot_list_prt (l : List Nat) (m : Mach) : (forEach l (Mach.copySlot p) m).prt = m.prt := by
  induction l generalizing m with
  | nil => rfl
  | cons i l ih => exact (ih _).trans (Mach.wr_prt _ _ _)

theorem Mach.copySlot_list_rg_other {a : Nat} (h : ∀ i ∈ l, a ≠ slotActive p i) (m : Mach) :
    (forEach l (Mach.copySlot p) m).rg a = m.rg a := by
  induction l generalizing m with
  | nil => rfl
  | cons i l ih =>
    obtain ⟨hi, hl⟩ := List.forall_mem_cons.mp h
    exact (ih hl _).trans (Mach.rg_wr_ne _ _ hi)

theorem Mach.copySlot_list_rg_active {i : Nat} (hi : i ∈ l) (h : ∀ j ∈ l, j < 32) (m : Mach) :
    (forEach l (Mach.copySlot p) m).rg (slotActive p i) = m.rg (slotShadow p i) := by
  induction l generalizing m with
  | nil => cases hi
  | cons j l ih =>
    obtain ⟨hj, hl⟩ := List.forall_mem_cons.mp h
    by_cases hmem : i ∈ l
    · exact (ih hmem hl _).trans (Mach.rg_wr_ne _ _ (slotShadow_ne_slotActive (hl i hmem) j))
    · obtain rfl : i = j := (List.mem_cons.mp hi).resolve_right hmem
      have hlater : ∀ k ∈ l, slotActive p i ≠ slotActive p k := by
        rintro k hk e
        exact hmem (slotActive_inj.mp e ▸ hk)
      exact (Mach.copySlot_list_rg_other hlater _).trans (Mach.rg_wr_same _ _ _)

end list

section copied
variable {m : Mach} {p : Nat}

@[simp] theorem Mach.copySlots_port (q : Nat) : (m.copySlots p).port q = m.port q := by
  rw [Mach.port, Mach.copySlots, Mach.copySlot_list_prt, Mach.port]

theorem Mach.copySlots_rg_active {i : Nat} (h : i < 32) : (m.copySlots p).rg (slotActive p i) = m.rg (slotShadow p i) :=
  Mach.copySlot_list_rg_active (List.mem_range.mpr h) (fun _ => List.mem_range.mp) m

theorem Mach.copySlots_rg_other {a : Nat} (h : ∀ i, i < 32 → a ≠ slotActive p i) : (m.copySlots p).rg a = m.rg a :=
  Mach.copySlot_list_rg_other (fun i hi => h i (List.mem_range.mp hi)) m

/-! ### The row -/

theorem Mach.slotCopy_waits {t : Nat} (h : t % 1000000 ≠ 0 ∨ m.fg (PRT_SLOT_CTRL p) PRT_SLOT_CTRL_pending = 0) :
    m.slotCopy p t = m.at_ t :=
  if_pos (by simpa using h)

/-- The port engine after a copy: of what it had still to send, the entries that the copy did not change. -/
def Mach.copiedPort (m : Mach) (p : Nat) : Port :=
  let same := (upTo 32).filter (fun i => m.rg (slotShadow p i) == m.rg (slotActive p i))
  let x := (m.copySlots p).port p
  { x with todo := x.todo.filter (fun i => same.contains i), late := x.late.filter (fun i => same.contains i) }

/-- The banks, `pending` and the port engine after a copy. -/
def Mach.slotsCopied (m : Mach) (p : Nat) : Mach :=
  ((m.copySlots p).fs (PRT_SLOT_CTRL p) PRT_SLOT_CTRL_pending 0).setPort p (m.copiedPort p)

theorem Mach.enumCopied_none (h : (m.port p).enum = none) : m.enumCopied p = m := by
  rw [Mach.enumCopied, h]

theorem Mach.slotCopy_copies {t : Nat} (ht : t % 1000000 = 0) (hp : m.fg (PRT_SLOT_CTRL p) PRT_SLOT_CTRL_pending = 1)
    (he : (m.port p).enum = none) : m.slotCopy p t = (m.at_ t).slotsCopied p := by
  have hidle : (((m.at_ t).slotsCopied p).port p).enum = none := by
    rw [Mach.slotsCopied, Mach.setPort_port, Mach.copiedPort]
    simpa using he
  exact (if_neg (by simp [ht, hp])).trans (Mach.enumCopied_none hidle)

end copied

/-- Settles O16: the 32 entries are copied one by one, and no later write touches an entry already copied. -/
theorem slotCopyMakesShadowActive : Obligations.SlotCopyMakesShadowActive := by
  refine fun p t s => ⟨fun h => next_congr (Mach.slotCopy_waits h), fun ht hp he =>
    ⟨_, next_congr (Mach.slotCopy_copies ht hp he), fun i hi => ?_, ?_, fun a ha hc => ?_, rfl, rfl, rfl⟩⟩
  · rw [Mach.slotsCopied, Mach.setPort_rg, Mach.rg_fs, if_neg (slotActive_ne_slotCtrl p i), Mach.copySlots_rg_active hi, Mach.rg_at]
  · rw [Mach.slotsCopied, Mach.fg_eq, Mach.setPort_rg, ← Mach.fg_eq]
    exact Mach.fg_fs_same _ _ _ _ (by decide)
  · rw [Mach.slotsCopied, Mach.setPort_rg, Mach.rg_fs, if_neg hc, Mach.copySlots_rg_other ha, Mach.rg_at]

end Sys2Proof.Machine
end

section
/-! Presence, power and connection (O13): what each row does by the state of its port (R124, R125, R128, R129, R131, R140, R351). -/

namespace Sys2Proof.Machine
open Reg

/-! ### What the rows read of their port -/

theorem portNo_val (p : Fin 48) : portNo p.val = some p := dif_pos p.isLt

theorem Mach.pst_congr {m n : Mach} {p : Nat} (h : n.rg (PRT_STAT p) = m.rg (PRT_STAT p)) : n.pst p = m.pst p := by
  rw [Mach.pst, Mach.pst, Mach.fg_eq, h, ← Mach.fg_eq]

/-- A port's state stays when another field of its status register is set. -/
theorem Mach.pst_fs_other (m : Mach) (p : Nat) (f : Fd) (v : Nat) (h : f.lo + f.n ≤ 20) : (m.fs (PRT_STAT p) f v).pst p = m.pst p :=
  Mach.fg_fs_other _ _ _ _ _ (by omega) (.inr h)

/-! ### Presence (R125) -/

section presence
variable {m : Mach} {p : Nat} {dp dm : Bool}

/-- A port has become present: it enters POWER_HOLD, reports its module and is a wake source of its domain (R125, R525). -/
def Mach.presentFound (m : Mach) (p : Nat) : Mach :=
  let m := ((m.setPst p 1).fs (PRT_STAT p) PRT_STAT_present 1).ev (PRT_STAT p) PRT_STAT_hold_ev
  (m.portEvent 0x06 p 0 (m.rgBytes (PRT_STAT p))).domainWakeSource (portDom p) 1

theorem Mach.presenceSample_ignored (h0 : m.pst p ≠ 0) (h1 : m.pst p ≠ 1) : m.presenceSample p dp dm = m :=
  if_pos (by simp [h0, h1, pOff, pHold])

/-- The samples in a row of a port that has seen one more (R125). -/
def Port.sampled (x : Port) (seen : Bool) : Port :=
  if seen then { x with presRun := min 3 (x.presRun + 1), absRun := 0 } else { x with presRun := 0, absRun := min 3 (x.absRun + 1) }

/-- A sampled port leaves its state when three samples in a row decide. -/
theorem Mach.presenceSample_eq {x : Port} (hs : m.pst p ≤ 1) (hx : (m.port p).sampled (dp || dm) = x) : m.presenceSample p dp dm =
    if m.pst p = 0 ∧ x.presRun = 3 then (m.setPort p x).presentFound p
    else if m.pst p = 1 ∧ x.absRun = 3 then (m.setPort p x).setPst p 0
    else m.setPort p x := by
  subst hx
  refine (if_neg (by simp [pOff, pHold]; omega)).trans ?_
  exact if_congr (by simp [pOff, Port.sampled]) rfl (if_congr (by simp [pHold, Port.sampled]) rfl rfl)

theorem Mach.presenceSample_third_present (hs : m.pst p = 0) (hd : (dp || dm) = true) (hr : (m.port p).presRun = 2) :
    m.presenceSample p dp dm = (m.setPort p { m.port p with presRun := 3, absRun := 0 }).presentFound p :=
  (Mach.presenceSample_eq (by omega) (by rw [hd, Port.sampled, hr]; rfl)).trans (if_pos ⟨hs, rfl⟩)

theorem Mach.presenceSample_third_absent (hs : m.pst p = 1) (hd : (dp || dm) = false) (hr : (m.port p).absRun = 2) :
    m.presenceSample p dp dm = (m.setPort p { m.port p with presRun := 0, absRun := 3 }).setPst p 0 :=
  (Mach.presenceSample_eq (by omega) (by rw [hd, Port.sampled, hr]; rfl)).trans ((if_neg (by simp)).trans (if_pos ⟨hs, rfl⟩))

theorem Mach.presenceSample_counts (hs : m.pst p ≤ 1) (hd : (dp || dm) = true) (hr : (m.port p).presRun < 2) :
    m.presenceSample p dp dm = m.setPort p { m.port p with presRun := (m.port p).presRun + 1, absRun := 0 } := by
  have hmin : min 3 ((m.port p).presRun + 1) = (m.port p).presRun + 1 := by omega
  refine (Mach.presenceSample_eq hs (by rw [hd, Port.sampled, if_pos rfl, hmin])).trans ((if_neg ?_).trans (if_neg (by simp)))
  rintro ⟨-, h3⟩
  dsimp only at h3
  omega

end presence

/-! ### Power (R128-R131) -/

section power
variable {m : Mach} {c : Cmd} {p : Fin 48}

/-- What PORT_POWER comes to for a port that is not in hub mode: the status and the state after it. -/
def Mach.powerRequest (m : Mach) (p : Fin 48) (on : Nat) : Nat × Mach :=
  if on = 0 then (0, m.vbusOff p) else if m.role p == roleNone then (stBadState, m) else m.portOnReq p

theorem Mach.portPower_answers (hp : c.b 8 = p) (hd : m.domOn (portDom p) = true) (hh : m.isHub p = false)
    (hv : m.serves c (cmdBare c) (decide (c.b 8 < 48) && decide (c.b 9 < 2)) = true) :
    m.portPower c = (m.powerRequest p (c.b 9)).2.reply c (m.powerRequest p (c.b 9)).1 ((m.powerRequest p (c.b 9)).2.pst p) := by
  refine (Mach.serve_of_serves _ hv).trans ?_
  simp only [hp, portNo_val, hd, hh]
  rfl

theorem Mach.powerRequest_off (h : c.b 9 = 0) : m.powerRequest p (c.b 9) = (0, m.vbusOff p) := if_pos h

theorem Mach.powerRequest_roleless (h : c.b 9 = 1) (hr : m.role p = 0) : m.powerRequest p (c.b 9) = (0x13, m) := by
  simp [Mach.powerRequest, h, hr, roleNone, stBadState]

theorem Mach.powerRequest_on (h : c.b 9 = 1) (hr : m.role p ≠ 0) : m.powerRequest p (c.b 9) = m.portOnReq p := by
  simp [Mach.powerRequest, h, hr, roleNone]

theorem prtStat_ne_vbusStat (p q : Fin 48) : PRT_STAT p ≠ PDI_VBUS_STAT q := by
  simp only [PRT_STAT, PDI_VBUS_STAT]; omega

/-- Power-good of the switch leaves the port's state to the port (R131). -/
theorem Mach.swGood_pst (m : Mach) (p : Fin 48) : (m.swGood (.vbus p)).pst p = m.pst p := by
  refine Mach.pst_congr ?_
  have hne : PRT_STAT p ≠ swStat (.vbus p) := prtStat_ne_vbusStat p p
  rw [Mach.swGood, Mach.rg_fs, if_neg hne, Mach.rg_fs, if_neg hne]

theorem Mach.vbusPowerGood_off (h : m.swLive (.vbus p) = false) : m.vbusPowerGood p = m := if_neg (by simp [h])

theorem Mach.vbusPowerGood_live (h : m.swLive (.vbus p) = true) (hl : m.fg (PDI_VBUS_STAT p) PDI_VBUS_STAT_limiting = 0) :
    m.vbusPowerGood p =
      if m.pst p = 2 then ((m.swGood (.vbus p)).fs (PRT_STAT p) PRT_STAT_vbus_good 1).setPst p 3
      else (m.swGood (.vbus p)).fs (PRT_STAT p) PRT_STAT_vbus_good 1 := by
  refine (if_pos (by simp [h, hl])).trans (if_congr ?_ rfl rfl)
  rw [Mach.pst_fs_other _ _ _ _ (by decide), Mach.swGood_pst, beq_iff_eq]
  rfl

end power

/-! ### Connection (R124, R128, R140) -/

section connection
variable {m : Mach} {p : Fin 48}

theorem Mach.connectDetect_eq (m : Mach) (p : Nat) : m.connectDetect p = if m.pst p = 3 then m.connectPort p else m :=
  if_congr beq_iff_eq rfl rfl

theorem Mach.debounceDone_starts (hd : m.isDel p = true) (hs : m.pst p = 4) (h1 : m.domOn 1 = true) :
    m.debounceDone p = m.enumReset p 0 1 :=
  if_pos (by simp [hd, hs, h1, pConn])

theorem Mach.debounceDone_ignored (hs : m.pst p ≠ 4) : m.debounceDone p = m := if_neg (by simp [hs, pConn])

/-- The port is ENABLED at the speed that its reset found (R124, R165). -/
def Mach.enabledAt (m : Mach) (p : Nat) (sp : UsbSpeed) : Mach := (m.setPst p 6).fs (PRT_STAT p) PRT_STAT_speed (m.speedCode p sp)

/-- The reset of step 0x01 has ended: an enumeration that waits for it has its device's speed (R138). -/
def Mach.resetEnumerated (m : Mach) (p speed : Nat) : Mach :=
  match (m.port p).enum with
  | some e => if e.sub = 0 ∧ e.step = 1 then m.enumSpeed p e speed else m
  | none => m

section reset
variable {sp : UsbSpeed} {att : Bool}

theorem Mach.portResetDone_ignored (h : m.pst p ≠ 5 ∨ att = false) : m.portResetDone p sp att = m :=
  if_pos (by obtain h | h := h <;> simp [h, pReset])

/-- What follows the end of a reset, by the port's role (R128, R351). -/
theorem Mach.portResetDone_eq (hs : m.pst p = 5) (ha : att = true) : m.portResetDone p sp att =
    if (m.enabledAt p sp).isHub p = true then (m.enabledAt p sp).ownZero p
    else if (!(m.enabledAt p sp).isDel p) = true then m.enabledAt p sp
    else (m.enabledAt p sp).resetEnumerated p (m.speedCode p sp) :=
  if_neg (by simp [hs, ha, pReset])

theorem Mach.portResetDone_hub (hs : m.pst p = 5) (ha : att = true) (hh : (m.enabledAt p sp).isHub p = true) :
    m.portResetDone p sp att = (m.enabledAt p sp).ownZero p :=
  (Mach.portResetDone_eq hs ha).trans (if_pos hh)

theorem Mach.portResetDone_enumerating {e : EnumRun} (hs : m.pst p = 5) (ha : att = true) (hh : (m.enabledAt p sp).isHub p = false)
    (hd : (m.enabledAt p sp).isDel p = true) (he : ((m.enabledAt p sp).port p).enum = some e) (h0 : e.sub = 0) (h1 : e.step = 1) :
    m.portResetDone p sp att = (m.enabledAt p sp).enumSpeed p e (m.speedCode p sp) := by
  refine (Mach.portResetDone_eq hs ha).trans ((if_neg (by simp [hh])).trans ((if_neg (by simp [hd])).trans ?_))
  rw [Mach.resetEnumerated, he]
  exact if_pos ⟨h0, h1⟩

end reset

section disconnect
variable (hc : connState (m.pst p) = true)

theorem Mach.disconnect_ignored {sub : Nat} (h : connState (m.pst p) = false) : m.disconnect p sub = m := if_pos (by simp [h])

include hc

theorem Mach.disconnect_hubMode (hd : m.isDel p = false) : m.disconnect p 0 = (m.hubDetach p).setPst p 3 :=
  (if_neg (by simp [hc])).trans ((if_neg (by simp)).trans (if_neg (by simp [hd])))

/-- Without PRT_CFG.detach_off the port keeps its VBUS (R129). -/
theorem Mach.disconnect_delegated (hd : m.isDel p = true) (ho : (m.detachAll p).fg (PRT_CFG p) PRT_CFG_detach_off = 0) :
    m.disconnect p 0 = ((m.detachAll p).setPort p { (m.detachAll p).port p with todo := [], late := [] }).setPst p 3 := by
  refine (if_neg (by simp [hc])).trans ((if_neg (by simp)).trans ((if_pos hd).trans (if_neg ?_)))
  rw [Mach.fg_eq, Mach.setPort_rg, ← Mach.fg_eq, ho]
  decide

/-- A module behind an external hub (R155). -/
theorem Mach.disconnect_behindHub {sub : Nat} (h0 : sub ≠ 0) (hd : m.isDel p = true) :
    m.disconnect p sub = (m.detachOne p sub).enumNext p :=
  (if_neg (by simp [hc])).trans ((if_pos h0).trans (if_pos hd))

end disconnect
end connection

/-! ### The obligation -/

/-- Settles O13: each row by the state of its port. -/
theorem portPowerAndConnection : Obligations.PortPowerAndConnection := by
  refine ⟨fun p dp dm s => ⟨fun h0 h1 => next_congr (Mach.presenceSample_ignored h0 h1),
      fun hs hd hr => next_congr (Mach.presenceSample_third_present hs hd hr),
      fun hs hd hr => next_congr (Mach.presenceSample_third_absent hs hd hr),
      fun hs hd hr => next_congr (Mach.presenceSample_counts hs hd hr)⟩,
    fun c p s hp hd hh hv => ?_,
    fun p s => ⟨fun h => next_congr (Mach.vbusPowerGood_off h), fun h hl => next_congr (Mach.vbusPowerGood_live h hl)⟩,
    fun p s => ⟨fun h => next_congr ((Mach.connectDetect_eq s.m p).trans (if_neg h)),
      fun h => next_congr ((Mach.connectDetect_eq s.m p).trans (if_pos h)),
      fun hd hs h1 => next_congr (Mach.debounceDone_starts hd hs h1), fun hs => next_congr (Mach.debounceDone_ignored hs)⟩,
    fun p sp att s => ⟨fun h => next_congr (Mach.portResetDone_ignored h), fun hs ha hh => next_congr (Mach.portResetDone_hub hs ha hh),
      fun e hs ha hh hd he h0 h1 => next_congr (Mach.portResetDone_enumerating hs ha hh hd he h0 h1)⟩,
    fun p sub s => ⟨fun h => next_congr (Mach.disconnect_ignored h), ?_, ?_,
      fun hc h0 hd => next_congr (Mach.disconnect_behindHub hc (fun e => h0 (Fin.ext e)) hd)⟩⟩
  · have hanswer := Mach.portPower_answers hp hd hh hv
    refine ⟨fun h => next_congr (hanswer.trans ?_), fun h hr => next_congr (hanswer.trans ?_), fun h hr => next_congr (hanswer.trans ?_)⟩
    · rw [Mach.powerRequest_off h]
    · rw [Mach.powerRequest_roleless h hr]
    · rw [Mach.powerRequest_on h hr]
  · rintro hc rfl hd
    exact next_congr (Mach.disconnect_hubMode hc hd)
  · rintro hc rfl hd ho
    exact next_congr (Mach.disconnect_delegated hc hd ho)

end Sys2Proof.Machine
end

section
/-! Reset commands, resumes, babble, known-answer tests and role changes (O14): what each row does by the state and the role of its
port (R128, R132-R134, R144, R157-R160, R165). -/

namespace Sys2Proof.Machine
open Reg

/-! ### What outlives a change of state -/

section role
variable {m : Mach} {p : Fin 48}

theorem Mach.isDel_congr {m n : Mach} {p : Nat} (h : n.rg (PRT_ROLE p) = m.rg (PRT_ROLE p)) : n.isDel p = m.isDel p := by
  simp only [Mach.isDel, Mach.role, Mach.fg_eq, h]

theorem prtRole_ne_prtStat (p : Nat) : PRT_ROLE p ≠ PRT_STAT p := by simp only [PRT_ROLE, PRT_STAT]; omega

theorem prtRole_ne_prtWake (p : Nat) : PRT_ROLE p ≠ PRT_WAKE p := by simp only [PRT_ROLE, PRT_WAKE]; omega

@[simp] theorem Mach.isDel_setPort (m : Mach) (p q : Nat) (x : Port) : (m.setPort q x).isDel p = m.isDel p :=
  Mach.isDel_congr (Mach.setPort_rg _ _ _ _)

theorem Mach.isDel_fs {a : Nat} (h : PRT_ROLE p ≠ a) (f : Fd) (v : Nat) : (m.fs a f v).isDel p = m.isDel p :=
  Mach.isDel_congr (by rw [Mach.rg_fs, if_neg h])

theorem Mach.isDel_ev {a : Nat} (h : PRT_ROLE p ≠ a) (f : Fd) : (m.ev a f).isDel p = m.isDel p :=
  Mach.isDel_congr (Mach.rg_ev_ne _ _ h)

end role

/-! ### PORT_RESET (R144, R160) -/

section commands
variable {m : Mach} {c : Cmd} {p : Fin 48}

theorem Mach.portResetCmd_answers (hp : c.b 8 = p) (hd : m.domOn (portDom p) = true) (hv : m.serves c (cmdBare c) true = true) :
    m.portResetCmd c = if m.canReset p = false then m.reply c 0x13 else (if m.isDel p = true then m.resetPort p else m.resetHubPort p).reply c 0 := by
  have hpar : decide (c.b 8 < 48) = true := by rw [hp]; exact decide_eq_true p.isLt
  rw [Mach.portResetCmd, hpar]
  refine (Mach.serve_of_serves _ hv).trans ?_
  dsimp only
  rw [hp]
  exact (if_neg (by simp [hd])).trans (if_congr (by simp) rfl rfl)

/-! ### PORT_ROLE (R132-R134, R424) -/

/-- What PORT_ROLE does once it is not refused for its parameters or its domain. -/
theorem Mach.portRole_acts {g : BitVec 7} (hp : c.b 8 = p) (hd : m.domOn (portDom p) = true)
    (hv : m.serves c (cmdBare c) (decide (c.b 8 < 48) && decide (c.b 9 < 3)) = true) :
    (g.getLsbD 4 = true → m.portRole g c = m.reply c 0x08) ∧
    (∀ st, g.getLsbD 4 = false → m.roleRefusal p (c.b 9) = some st → m.portRole g c = m.reply c st) ∧
    (g.getLsbD 4 = false → m.roleRefusal p (c.b 9) = none → m.portRole g c = m.roleStart p (c.b 9) (some c)) := by
  refine ⟨fun hg => ?_, fun st hg hr => ?_, fun hg hr => ?_⟩ <;> refine (Mach.serve_of_serves _ hv).trans ?_
  · simp only [hp, portNo_val, hd, hg]
    rfl
  · simp only [hp, portNo_val, hd, hg, hr]
    rfl
  · simp only [hp, portNo_val, hd, hg, hr]
    rfl

theorem Mach.roleStart_roleless {new : Nat} (hr : m.role p = 0) (hn : new ≠ 0) :
    m.roleStart p new (some c) = (m.roleCommit p new).reply c 0 := by
  simp [Mach.roleStart, hr, hn.symm, roleNone, stOk]

/-- The change of a port with a role waits for the wire (R134). -/
theorem Mach.roleStart_waits {new : Nat} (hr : m.role p ≠ 0) (hn : new ≠ m.role p) :
    m.roleStart p new (some c) = (m.setPort p { m.port p with roleChange := some (new, some c) }).startRun { cmd := c } := by
  simp [Mach.roleStart, hr, hn.symm, roleNone]

end commands

section events
variable {m : Mach} {p : Fin 48}

theorem Mach.roleDone_none (h : (m.port p).roleChange = none) : m.roleDone p = m := by
  rw [Mach.roleDone, h]

theorem Mach.roleDone_answers {new : Nat} {c : Cmd} (h : (m.port p).roleChange = some (new, some c)) :
    m.roleDone p = (m.roleCommit p new).reply c 0 := by
  rw [Mach.roleDone, h]
  rfl

/-! ### Wakes and resumes (R157-R159) -/

theorem Mach.domainWakeSource_unlisted {d src : Nat} (h : m.wakeOf d (2 ^ src) = 0) : m.domainWakeSource d src = m := if_pos h

/-- A domain that is ON and not on the move has nothing to wake (R518). -/
theorem Mach.domainWakeSource_on {d src : Nat} (ho : m.domOn d = true) (hm : m.domMove d = none) : m.domainWakeSource d src = m := by
  rw [Mach.domainWakeSource, hm, ho]
  exact ite_self _

/-- What a device's K does to the port's domain: from a suspended port it is a wake source (R159, R525). -/
def Mach.wokenByK (m : Mach) (p : Nat) : Mach := if m.pst p == pSusp then m.domainWakeSource (portDom p) 0 else m

theorem Mach.deviceK_eq (m : Mach) (p : Nat) : m.deviceK p =
    if (m.wokenByK p).domOn (portDom p) = true then (m.wokenByK p).remoteK p
    else if ((m.wokenByK p).pst p == pSusp && (m.wokenByK p).wakeOf (portDom p) 1 != 0) = true then
      (m.wokenByK p).setPort p { (m.wokenByK p).port p with kWake := true }
    else m.wokenByK p := rfl

theorem Mach.deviceK_on (ho : m.domOn (portDom p) = true) (hm : m.domMove (portDom p) = none) : m.deviceK p = m.remoteK p := by
  have hwake : m.wokenByK p = m := by rw [Mach.wokenByK, Mach.domainWakeSource_on ho hm, ite_self]
  rw [Mach.deviceK_eq, hwake, if_pos ho]

theorem Mach.remoteK_suspended (h : m.pst p = 7) : m.remoteK p = m.driveResume p 2 := if_pos (by simp [h, pSusp])

/-- A software resume meets the device's own (R158). -/
theorem Mach.remoteK_collides (h : m.pst p = 8) (hr : (m.port p).resume = 1) :
    m.remoteK p = m.setPort p { m.port p with collided := true } :=
  (if_neg (by simp [h, pSusp])).trans (if_pos (by simp [h, hr, pResuming]))

theorem Mach.remoteK_ignored (h : m.pst p ≠ 7) (hr : m.pst p ≠ 8 ∨ (m.port p).resume ≠ 1) : m.remoteK p = m :=
  (if_neg (by simp [h, pSusp])).trans (if_neg (by simpa [pResuming, imp_iff_not_or] using hr))

theorem Mach.deviceK_ignored (ho : m.domOn (portDom p) = false) (h : m.pst p ≠ 7 ∨ m.wakeOf (portDom p) 1 = 0) : m.deviceK p = m := by
  have hwake : m.wokenByK p = m := by
    obtain h | h := h
    · exact if_neg (by simp [h, pSusp])
    · rw [Mach.wokenByK, Mach.domainWakeSource_unlisted h, ite_self]
  rw [Mach.deviceK_eq, hwake, if_neg (by simp [ho]), if_neg (by simpa [pSusp, imp_iff_not_or] using h)]

/-- The resume waits for the domain (R159). -/
theorem Mach.deviceK_waits {w : Mach} (hs : m.pst p = 7) (hw : m.domainWakeSource (portDom p) 0 = w) (ho : w.domOn (portDom p) = false)
    (hp : w.pst p = 7) (he : w.wakeOf (portDom p) 1 ≠ 0) : m.deviceK p = w.setPort p { w.port p with kWake := true } := by
  have hwake : m.wokenByK p = w := (if_pos (by simp [hs, pSusp])).trans hw
  rw [Mach.deviceK_eq, hwake, if_neg (by simp [ho]), if_pos (by simp [hp, he, pSusp])]

/-- The resume's reason and its wake's count, as PRT_WAKE records them (R158, R167). -/
def Mach.wakeRecorded (m : Mach) (p : Nat) (x : Port) (sub : Nat) : Mach :=
  ((((m.inc (PRT_WAKE p) PRT_WAKE_count).fs (PRT_WAKE p) PRT_WAKE_reason x.resume).fs (PRT_WAKE p) PRT_WAKE_collided (b2n x.collided)).fs
    (PRT_WAKE p) PRT_WAKE_sub (if (x.resume == 2 || x.collided) = true then sub else 0)).ev (PRT_STAT p) PRT_STAT_wake_ev

/-- The port is ENABLED again and its resume recorded. -/
def Mach.resumed (m : Mach) (p sub : Nat) : Mach :=
  ((m.setPst p 6).setPort p { (m.setPst p 6).port p with resume := 0, collided := false }).wakeRecorded p (m.port p) sub

theorem Mach.isDel_resumed (sub : Nat) : (m.resumed p sub).isDel p = m.isDel p := by
  have hw := prtRole_ne_prtWake p
  rw [Mach.resumed, Mach.wakeRecorded, Mach.isDel_ev (prtRole_ne_prtStat p), Mach.isDel_fs hw, Mach.isDel_fs hw, Mach.isDel_fs hw,
    Mach.inc_eq, Mach.isDel_fs hw, Mach.isDel_setPort, Mach.setPst_isDel]

theorem Mach.resumeDone_ignored {sub : Nat} (h : m.pst p ≠ 8) : m.resumeDone p sub = m := if_pos (by simp [h, pResuming])

theorem Mach.resumeDone_eq {sub : Nat} (h : m.pst p = 8) : m.resumeDone p sub =
    if m.isDel p = true then (m.resumed p sub).portEvent 0x08 p 0 ((m.resumed p sub).rgBytes (PRT_WAKE p)) else m.resumed p sub := by
  rw [← Mach.isDel_resumed sub]
  exact if_neg (by simp [h, pResuming])

/-! ### Errors (R128, R144, R160) -/

/-- The port enters ERROR. -/
def Mach.portError (m : Mach) (p : Nat) : Mach := (m.setPst p 10).ev (PRT_STAT p) PRT_STAT_err_ev

theorem Mach.isDel_portError : (m.portError p).isDel p = m.isDel p := by
  rw [Mach.portError, Mach.isDel_ev (prtRole_ne_prtStat p), Mach.setPst_isDel]

theorem Mach.babble_ignored (h : m.pst p ≠ 6) : m.babble p = m := if_pos (by simp [h, pEnabled])

theorem Mach.babble_eq (h : m.pst p = 6) : m.babble p =
    if m.isDel p = true then
      ((m.portError p).haltPipes p).setPort p { ((m.portError p).haltPipes p).port p with ctl := [], todo := [], late := [] }
    else m.portError p := by
  rw [← Mach.isDel_portError]
  exact if_neg (by simp [h, pEnabled])

theorem Mach.portKat_fails (hr : m.role p ≠ 0) (he : m.fg (PRT_CFG p) PRT_CFG_kat_en = 1) (hd : m.domOn (portDom p) = true)
    (hh : (m.port p).katHold = false) (hs : m.pst p ≠ 10) :
    m.portKat p false = (((m.portError p).setPort p { (m.portError p).port p with katHold := true, todo := [] }).ev (PRT_STAT p)
      PRT_STAT_kat_ev).raise fPortKat p := by
  have hfail : (if (m.pst p == pError) = true then m else (m.setPst p pError).ev (PRT_STAT p) PRT_STAT_err_ev) = m.portError p :=
    if_neg (by simp [hs, pError])
  refine (if_neg (by simp [hr, he, hd, hh, roleNone])).trans ?_
  rw [Mach.portKatFail, hfail]

end events

/-! ### The obligation -/

/-- Settles O14: each row by the state of its port, with the role as it was before the row. -/
theorem portResetSuspendErrors : Obligations.PortResetSuspendErrors := by
  refine ⟨fun c p s hp hd hv => ⟨fun hc hr => ?_, fun hc hr => ?_, fun hc => ?_⟩,
    fun p s => ⟨fun ho hm => ⟨fun h => ?_, fun h hr => ?_, fun h hr => ?_⟩, fun ho h => next_congr (Mach.deviceK_ignored ho h),
      fun _ hs _ ho hp he => next_congr (Mach.deviceK_waits hs rfl ho hp he)⟩,
    fun p sub s => ⟨fun h => next_congr (Mach.resumeDone_ignored h), fun h hd => ?_, fun h hd => ?_⟩,
    fun p s => ⟨fun h => next_congr (Mach.babble_ignored h), fun h hd => ?_, fun h hd => ?_⟩,
    fun p s => ⟨rfl, fun hr he hd hh hs => next_congr (Mach.portKat_fails hr he hd hh hs)⟩,
    fun c p s hp hd hv => ?_,
    fun p s => ⟨fun h => next_congr (Mach.roleDone_none h), fun new c h => next_congr (Mach.roleDone_answers h)⟩⟩
  · refine next_congr ((Mach.portResetCmd_answers hp hd hv).trans ((if_neg (by simp [hc])).trans ?_))
    rw [if_pos hr]
  · refine next_congr ((Mach.portResetCmd_answers hp hd hv).trans ((if_neg (by simp [hc])).trans ?_))
    rw [hr]
    rfl
  · exact next_congr ((Mach.portResetCmd_answers hp hd hv).trans (if_pos hc))
  · exact next_congr ((Mach.deviceK_on ho hm).trans (Mach.remoteK_suspended h))
  · exact next_congr ((Mach.deviceK_on ho hm).trans (Mach.remoteK_collides h hr))
  · exact next_congr ((Mach.deviceK_on ho hm).trans (Mach.remoteK_ignored h hr))
  · exact next_congr ((Mach.resumeDone_eq h).trans (if_neg (by simp [hd])))
  · exact next_congr ((Mach.resumeDone_eq h).trans (if_pos hd))
  · exact next_congr ((Mach.babble_eq h).trans (if_neg (by simp [hd])))
  · exact next_congr ((Mach.babble_eq h).trans (if_pos hd))
  · obtain ⟨hlocked, hrefused, hstarts⟩ := Mach.portRole_acts (g := s.guard) hp hd hv
    exact ⟨fun hg => next_congr (hlocked hg), fun st hg hr => next_congr (hrefused st hg hr),
      fun hg hr h0 hn => next_congr ((hstarts hg hr).trans (Mach.roleStart_roleless h0 hn)),
      fun hg hr h0 hn => next_congr ((hstarts hg hr).trans (Mach.roleStart_waits h0 hn))⟩

end Sys2Proof.Machine
end

section
/-! Writes of PRT_CTRL and PRT_SLOT_CTRL (O19): each action's bit written alone, by the role and the state of the port (R144, R146,
R157, R164). -/

namespace Sys2Proof.Machine
open Reg

theorem ordinaryReg_prtCtrl : ∀ p : Fin 48, ordinaryReg (PRT_CTRL p) = true := by decide

theorem ordinaryReg_slotCtrl : ∀ p : Fin 48, ordinaryReg (PRT_SLOT_CTRL p) = true := by decide

/-! ### What reaches the registers -/

section rows
variable {s : State} {a : Acc} {p : Fin 48}

/-- A write of PRT_CTRL that reaches it does the actions of its bits and is answered OK. -/
theorem put_prtCtrl {v : Word} {n : Mach} (h : Reaches s a (PRT_CTRL p) true) (hn : s.m.prtActions p v = n) :
    s.put a (PRT_CTRL p) v 15 = .next { s with m := n.answer a 0 0 } :=
  put_unmarked h (ordinaryReg_prtCtrl p) (info_prtCtrl p) rfl (congrArg (Prod.mk 0) hn)

/-- `apply` waits for the next frame boundary (R146). -/
theorem put_slotApply (h : Reaches s a (PRT_SLOT_CTRL p) true) :
    s.put a (PRT_SLOT_CTRL p) 1#32 15 = .next { s with m := (s.m.fs (PRT_SLOT_CTRL p) PRT_SLOT_CTRL_pending 1).answer a 0 0 } :=
  put_unmarked h (ordinaryReg_slotCtrl p) (info_slotCtrl p) rfl rfl

end rows

/-! ### The actions (R164) -/

section actions
variable (m : Mach) (p : Nat)

theorem Mach.prtActions_reset : m.prtActions p 1#32 = m.prtReset p := rfl

theorem Mach.prtActions_disable : m.prtActions p 2#32 = m.prtDisable p := rfl

theorem Mach.prtActions_suspend : m.prtActions p 4#32 = m.prtSuspend p := rfl

theorem Mach.prtActions_resume : m.prtActions p 8#32 = m.prtResume p := rfl

variable {m p}

theorem Mach.prtReset_resets (hd : m.isDel p = true) (hc : m.canReset p = true) : m.prtReset p = m.resetPort p :=
  if_pos (by simp [hd, hc])

theorem Mach.prtReset_ignored (h : m.isDel p = false ∨ m.canReset p = false) : m.prtReset p = m :=
  if_neg (by obtain h | h := h <;> simp [h])

theorem Mach.prtSuspend_suspends (hd : m.isDel p = true) (hs : m.pst p = 6) :
    m.prtSuspend p = (m.setPst p 7).emit .portBus [p, 2] :=
  if_pos (by simp [hd, hs, pEnabled])

theorem Mach.prtSuspend_ignored (h : m.isDel p = false ∨ m.pst p ≠ 6) : m.prtSuspend p = m :=
  if_neg (by obtain h | h := h <;> simp [h, pEnabled])

theorem Mach.prtDisable_ignored (h : m.isDel p = false ∨ m.pst p ≠ 6) : m.prtDisable p = m :=
  if_neg (by obtain h | h := h <;> simp [h, pEnabled])

theorem Mach.prtResume_resumes (hd : m.isDel p = true) (hs : m.pst p = 7) : m.prtResume p = m.driveResume p 1 :=
  if_pos (by simp [hd, hs, pSusp])

theorem Mach.prtResume_ignored (h : m.isDel p = false ∨ m.pst p ≠ 7) : m.prtResume p = m :=
  if_neg (by obtain h | h := h <;> simp [h, pSusp])

end actions

/-! ### The obligation -/

/-- Settles O19: each row's write reaches its register, whose one set bit names the action. -/
theorem registerRowsActOnPorts : Obligations.RegisterRowsActOnPorts := by
  refine fun a p s => ⟨fun h => ?_, put_slotApply⟩
  have hreset : exec (.prtReset a p) s = .next { s with m := (s.m.prtReset p).answer a 0 0 } :=
    put_prtCtrl (v := 1#32) h (Mach.prtActions_reset _ _)
  have hdisable : exec (.prtDisable a p) s = .next { s with m := (s.m.prtDisable p).answer a 0 0 } :=
    put_prtCtrl (v := 2#32) h (Mach.prtActions_disable _ _)
  have hsuspend : exec (.prtSuspend a p) s = .next { s with m := (s.m.prtSuspend p).answer a 0 0 } :=
    put_prtCtrl (v := 4#32) h (Mach.prtActions_suspend _ _)
  have hresume : exec (.prtResume a p) s = .next { s with m := (s.m.prtResume p).answer a 0 0 } :=
    put_prtCtrl (v := 8#32) h (Mach.prtActions_resume _ _)
  refine ⟨fun hd hc => ?_, fun hi => ?_, fun hd hs => ?_, fun hd hs => ?_, fun _ _ => hdisable, fun hi => ⟨?_, ?_⟩, fun hi => ?_⟩
  · rw [hreset, Mach.prtReset_resets hd hc]
  · rw [hreset, Mach.prtReset_ignored hi]
  · rw [hsuspend, Mach.prtSuspend_suspends hd hs]
  · rw [hresume, Mach.prtResume_resumes hd hs]
  · rw [hsuspend, Mach.prtSuspend_ignored hi]
  · rw [hdisable, Mach.prtDisable_ignored hi]
  · rw [hresume, Mach.prtResume_ignored hi]

end Sys2Proof.Machine
end

section
/-! The steps of enumeration (O15): how a control transfer that serves one leaves the list, and where its end, its stall or its timeout
leads (R136-R140, R143). -/

namespace Sys2Proof.Machine
open Reg

/-! ### The transfer leaves the list -/

/-- A transfer has left a port's list, and its errors are counted (R136). -/
def Mach.ctlGone (m : Mach) (p : Nat) (c : Ctl) (errs : Nat) : Mach :=
  (m.setPort p { m.port p with ctl := (m.port p).ctl.erase c }).inc (PRT_XERR p) PRT_XERR_count errs

section take
variable {m : Mach} {p sub errs : Nat}

theorem Mach.ctlGone_enum (c : Ctl) : ((m.ctlGone p c errs).port p).enum = (m.port p).enum := by
  rw [Mach.ctlGone, Mach.inc_port, Mach.setPort_port]

section none
variable (h : (m.port p).ctl.find? (fun c => c.sub == sub && c.started) = none)
include h

theorem Mach.ctlTake_none : m.ctlTake p sub = none := by
  rw [Mach.ctlTake, h]

theorem Mach.enumTransfer_idle (r : EnumResult) : m.enumTransfer p sub r errs = m := by
  rw [Mach.enumTransfer, Mach.ctlTake_none h]

theorem Mach.enumTimeout_idle (he : (m.port p).enum = none) : m.enumTimeout p sub errs = m := by
  rw [Mach.enumTimeout, Mach.ctlTake_none h]
  dsimp only
  rw [he]

end none

section some
variable {c : Ctl} (h : (m.port p).ctl.find? (fun c => c.sub == sub && c.started) = some c)
include h

theorem Mach.ctlTake_some : m.ctlTake p sub = some (c, m.setPort p { m.port p with ctl := (m.port p).ctl.erase c }) := by
  rw [Mach.ctlTake, h]

theorem Mach.enumTransfer_done (d : List Byte) : m.enumTransfer p sub (.done d) errs = ((m.ctlGone p c errs).ctlDone p c d).asyncRun p := by
  rw [Mach.enumTransfer, Mach.ctlTake_some h]
  rfl

theorem Mach.enumTransfer_stall : m.enumTransfer p sub .stall errs = ((m.ctlGone p c errs).ctlFail p c enStall true).asyncRun p := by
  rw [Mach.enumTransfer, Mach.ctlTake_some h]
  rfl

theorem Mach.enumTimeout_fails : m.enumTimeout p sub errs = ((m.ctlGone p c errs).ctlFail p c enTimeout false).asyncRun p := by
  rw [Mach.enumTimeout, Mach.ctlTake_some h]
  rfl

end some
end take

/-! ### What the transfer served -/

/-- Endpoint 0 of a device halts where it has an open context (R143). -/
def Mach.ep0Halted (m : Mach) (p sub : Nat) : Mach :=
  (m.ep0Pipe p sub).elim m (fun i => if m.pipeSt i = 1 then m.pipeHalt p i else m)

section serves
variable {m : Mach} {p : Nat} {c : Ctl} {e : EnumRun} (hw : c.what = .enum e.sub)
include hw

theorem Mach.ctlDone_enum (he : (m.port p).enum = some e) (d : List Byte) : m.ctlDone p c d = m.enumDone p e d := by
  rw [Mach.ctlDone, hw]
  dsimp only
  rw [he]
  exact if_pos rfl

/-- The step's try fails in the state that endpoint 0 is left in. -/
theorem Mach.ctlFail_step {n : Mach} {res : Nat} {halts : Bool}
    (hn : (m.ep0Pipe p c.sub).elim m (fun i => if (halts && m.pipeSt i == pipeActive) = true then m.pipeHalt p i else m) = n)
    (he : (n.port p).enum = some e) : m.ctlFail p c res halts = n.enumFail p e res := by
  cases ho : m.ep0Pipe p c.sub <;> rw [ho] at hn <;> subst hn <;> rw [Mach.ctlFail, ho, hw]
  case none =>
    dsimp only
    rw [show (m.port p).enum = some e from he]
    exact if_pos rfl
  case some i =>
    dsimp only [Option.elim] at he ⊢
    rw [he]
    exact if_pos rfl

theorem Mach.ctlFail_halting {res : Nat} (he : ((m.ep0Halted p c.sub).port p).enum = some e) :
    m.ctlFail p c res true = (m.ep0Halted p c.sub).enumFail p e res := by
  refine Mach.ctlFail_step hw ?_ he
  simp [Mach.ep0Halted, pipeActive]

theorem Mach.ctlFail_open {res : Nat} (he : (m.port p).enum = some e) : m.ctlFail p c res false = m.enumFail p e res := by
  refine Mach.ctlFail_step hw ?_ he
  cases m.ep0Pipe p c.sub <;> rfl

end serves

/-! ### A step fails (R138) -/

/-- The whole sequence begins again from the reset. -/
def Mach.enumRestart (m : Mach) (p : Nat) (e : EnumRun) : Mach :=
  ((m.closeSub p e.sub).wr (PRT_DEV p e.sub) (setF (setF 0 PRT_DEV_gen (m.devGen p e.sub)) PRT_DEV_state 1)).enumReset p e.sub (e.attempt + 1)

section fails
variable {m : Mach} {p : Nat} {e : EnumRun} {res : Nat}

/-- A step that is not firmware's own repeats its transfer. -/
theorem Mach.enumFail_repeats (ht : e.tries < 2) (h5 : res ≠ enNoPipe) (h6 : res ≠ enNoAddress) :
    m.enumFail p e res = m.enumXfer p { e with tries := e.tries + 1 } :=
  (if_pos ht).trans (if_neg (by simp [h5, h6]))

theorem Mach.enumFail_restarts (ht : 2 ≤ e.tries) (ha : e.attempt < m.fg (PRT_CFG p) PRT_CFG_enum_retries) :
    m.enumFail p e res = m.enumRestart p e :=
  (if_neg (by omega)).trans (if_pos ha)

theorem Mach.enumFail_ends (ht : 2 ≤ e.tries) (ha : m.fg (PRT_CFG p) PRT_CFG_enum_retries ≤ e.attempt) :
    m.enumFail p e res = m.enumEnd p e res :=
  (if_neg (by omega)).trans (if_neg (by omega))

end fails

/-! ### A step ends (R137-R139) -/

/-- The address that a device was given is in use (R137, R139). -/
def Mach.addrTaken (m : Mach) (p : Nat) (e : EnumRun) : Mach :=
  (m.setPort p { m.port p with lastAddr := e.addr, inUse := (m.port p).inUse ++ [(e.addr, e.sub)] }).fs (PRT_DEV p e.sub) PRT_DEV_addr e.addr

section ends
variable {m : Mach} {p : Nat} {e : EnumRun} {d : List Byte}

theorem Mach.enumDone_firstBytes (h : e.step = 2) (hd : 8 ≤ d.length) :
    m.enumDone p e d = m.enumAddress p { e with step := 3, tries := 0, mps0 := dByte d 7 } := by
  rw [Mach.enumDone, h]
  exact if_neg (by omega)

theorem Mach.enumDone_address (h : e.step = 3) : m.enumDone p e d = (m.addrTaken p e).enumXfer p { e with step := 4, tries := 0 } := by
  rw [Mach.enumDone, h]
  rfl

theorem Mach.enumDone_device (h : e.step = 4) (hd : 18 ≤ d.length) : m.enumDone p e d =
    m.enumXfer p { e with step := 5, tries := 0, isHub := dByte d 4 == 9, multiTt := dByte d 6 == 2, nConf := dByte d 17, cfgLen := 0 } := by
  rw [Mach.enumDone, h]
  exact if_neg (by omega)

theorem Mach.enumDone_wakeup (h : e.step = 9) : m.enumDone p e d = m.enumSlots p e := by
  rw [Mach.enumDone, h]
  rfl

end ends

/-! ### The obligation -/

section served
variable {s : State} {p : Fin 48} {sub : Fin 8} {errs : Nat} {c : Ctl} {e : EnumRun} {n : Mach}
variable (hc : (s.m.port p).ctl.find? (fun c => c.sub == sub.val && c.started) = some c) (hw : c.what = .enum e.sub)
include hc hw

theorem exec_enumTransferDone_served {d : List Byte} (he : (s.m.port p).enum = some e) (hn : (s.m.ctlGone p c errs).enumDone p e d = n) :
    exec (.enumTransferDone p sub (.done d) errs) s = .next { s with m := n.asyncRun p } := by
  have hrun : ((s.m.ctlGone p c errs).port p).enum = some e := (Mach.ctlGone_enum c).trans he
  exact next_congr ((Mach.enumTransfer_done hc d).trans (by rw [Mach.ctlDone_enum hw hrun, hn]))

theorem exec_enumTransferDone_stalled (he : (((s.m.ctlGone p c errs).ep0Halted p c.sub).port p).enum = some e)
    (hn : ((s.m.ctlGone p c errs).ep0Halted p c.sub).enumFail p e enStall = n) :
    exec (.enumTransferDone p sub .stall errs) s = .next { s with m := n.asyncRun p } :=
  next_congr ((Mach.enumTransfer_stall hc).trans (by rw [Mach.ctlFail_halting hw he, hn]))

theorem exec_enumTransferTimeout_served (he : (s.m.port p).enum = some e) (hn : (s.m.ctlGone p c errs).enumFail p e enTimeout = n) :
    exec (.enumTransferTimeout p sub errs) s = .next { s with m := n.asyncRun p } := by
  have hrun : ((s.m.ctlGone p c errs).port p).enum = some e := (Mach.ctlGone_enum c).trans he
  exact next_congr ((Mach.enumTimeout_fails hc).trans (by rw [Mach.ctlFail_open hw hrun, hn]))

end served

/-- Settles O15: the step that the transfer served ends or fails as its lemma names. -/
theorem enumerationStepsInOrder : Obligations.EnumerationStepsInOrder := by
  refine fun p sub errs s => ⟨fun h => ⟨fun r => next_congr (Mach.enumTransfer_idle h r), fun he => next_congr (Mach.enumTimeout_idle h he)⟩,
    fun c e hc hw he => ?_⟩
  intro m halted again
  have hhalted : halted = m.ep0Halted p c.sub := by
    dsimp only [halted]
    rw [Mach.ep0Halted]
    cases m.ep0Pipe p c.sub with
    | none => rfl
    | some i => dsimp only [Option.elim]
  clear_value halted
  rw [hhalted]
  refine ⟨fun d h hd => ?_, fun d h => ?_, fun d h hd => ?_, fun d h => ?_, fun ht => ⟨fun hh => ?_, ?_⟩,
    fun ht ha => ⟨fun hh hb => ?_, ?_⟩, fun ht ha => ⟨fun hh hb => ?_, ?_⟩⟩
  · exact exec_enumTransferDone_served hc hw he (Mach.enumDone_firstBytes h hd)
  · exact exec_enumTransferDone_served hc hw he (Mach.enumDone_address h)
  · exact exec_enumTransferDone_served hc hw he (Mach.enumDone_device h hd)
  · exact exec_enumTransferDone_served hc hw he (Mach.enumDone_wakeup h)
  · exact exec_enumTransferDone_stalled hc hw hh (Mach.enumFail_repeats ht (by decide) (by decide))
  · exact exec_enumTransferTimeout_served hc hw he (Mach.enumFail_repeats ht (by decide) (by decide))
  · exact exec_enumTransferDone_stalled hc hw hh (Mach.enumFail_restarts ht hb)
  · exact exec_enumTransferTimeout_served hc hw he (Mach.enumFail_restarts ht ha)
  · exact exec_enumTransferDone_stalled hc hw hh (Mach.enumFail_ends ht hb)
  · exact exec_enumTransferTimeout_served hc hw he (Mach.enumFail_ends ht ha)

end Sys2Proof.Machine
end

section
/-! Playout at a port (O17): how work items arrive, expire and become the work of a microframe (R143, R148-R152, R156). -/

namespace Sys2Proof.Machine
open Reg

/-! ### Items that arrive (R149-R152) -/

section arrive
variable {m : Mach} {p t i : Nat} {b : List Byte} {ok : Bool}

/-- The item's handle names this place: this hub's node and the port. -/
def Mach.itemHere (m : Mach) (p : Nat) (b : List Byte) : Bool := itemHandle b / 2048 == m.node && itemHandle b / 32 % 64 == p

/-- The playout pipe of the item's module, where it is READY (R142). -/
def Mach.itemPipe (m : Mach) (p sub : Nat) : Option Nat := if m.devSt p sub == dReady then m.playPipe p sub else none

/-- Why an item for a port that plays out is discarded: its pipe does not exist or is not ACTIVE, or its deadline has passed. -/
def Mach.pipeReason (m : Mach) (p : Nat) (b : List Byte) : Nat :=
  match m.itemPipe p (itemHandle b / 4 % 8) with
  | none => 2
  | some i => if m.pipeSt i != pipeActive then 4 else if dlPassed m.ctime (m.effective p (itemHandle b / 4 % 8) b) then 1 else 0

/-- Why an item that has arrived is discarded, 0 where it is not (R152). -/
def Mach.itemReason (m : Mach) (p : Nat) (b : List Byte) (ok : Bool) : Nat :=
  if !ok then 7
  else if !m.itemHere p b then 8
  else if !m.isDel p then 6
  else if m.fg FLT_STAT FLT_STAT_stop_playout == 1 then 5
  else if m.pst p == pSusp || m.pst p == pResuming then 3
  else m.pipeReason p b

/-- Class 1 work has reached the port (R134). -/
def Mach.itemSeen (m : Mach) (p : Nat) : Mach := (m.fs (PRT_STAT p) PRT_STAT_playing 1).setPort p { m.port p with lastItem := m.ctime }

/-- An item joins its pipe's queue (R149). -/
def Mach.itemQueued (m : Mach) (p sub i eff : Nat) (b : List Byte) : Mach :=
  m.setPort p { m.port p with
    items := (m.port p).items ++ [{ bytes := b, eff := eff, pipe := i, anchor := m.anchor p sub (itemTime b) (m.fg (pcW0 i) pcSpeed == 3) }] }

section reason

theorem Mach.itemHere_iff : m.itemHere p b = true ↔ itemHandle b / 2048 = m.node ∧ itemHandle b / 32 % 64 = p := by
  simp [Mach.itemHere]

theorem Mach.itemReason_parity (h : ok = false) : m.itemReason p b ok = 7 := if_pos (by simp [h])

variable (hok : ok = true)
include hok

theorem Mach.itemReason_elsewhere (h : m.itemHere p b ≠ true) : m.itemReason p b ok = 8 :=
  (if_neg (by simp [hok])).trans (if_pos (by simp [h]))

variable (hh : m.itemHere p b = true)
include hh

theorem Mach.itemReason_undelegated (h : m.isDel p = false) : m.itemReason p b ok = 6 :=
  (if_neg (by simp [hok])).trans ((if_neg (by simp [hh])).trans (if_pos (by simp [h])))

variable (hdel : m.isDel p = true)
include hdel

theorem Mach.itemReason_stopped (h : m.fg FLT_STAT FLT_STAT_stop_playout = 1) : m.itemReason p b ok = 5 :=
  (if_neg (by simp [hok])).trans ((if_neg (by simp [hh])).trans ((if_neg (by simp [hdel])).trans (if_pos (by simp [h]))))

variable (hs : m.fg FLT_STAT FLT_STAT_stop_playout = 0)
include hs

theorem Mach.itemReason_unstopped : m.itemReason p b ok = if m.pst p = 7 ∨ m.pst p = 8 then 3 else m.pipeReason p b :=
  (if_neg (by simp [hok])).trans ((if_neg (by simp [hh])).trans ((if_neg (by simp [hdel])).trans ((if_neg (by simp [hs])).trans
    (if_congr (by simp [pSusp, pResuming]) rfl rfl))))

theorem Mach.itemReason_suspended (h : m.pst p = 7 ∨ m.pst p = 8) : m.itemReason p b ok = 3 :=
  (Mach.itemReason_unstopped hok hh hdel hs).trans (if_pos h)

theorem Mach.itemReason_none (h7 : m.pst p ≠ 7) (h8 : m.pst p ≠ 8) (hi : m.itemPipe p (itemHandle b / 4 % 8) = some i)
    (ha : m.pipeSt i = 1) (hl : dlPassed m.ctime (m.effective p (itemHandle b / 4 % 8) b) = false) : m.itemReason p b ok = 0 := by
  rw [Mach.itemReason_unstopped hok hh hdel hs, if_neg (not_or.mpr ⟨h7, h8⟩), Mach.pipeReason, hi]
  simp [ha, hl, pipeActive]

end reason

theorem Mach.itemArrive_held (h : (m.at_ t).itemsFull p = true ∨ (m.at_ t).domOn (portDom p) = false) : m.itemArrive p b ok t = m.at_ t :=
  if_pos (by obtain h | h := h <;> simp [h])

variable (hf : (m.at_ t).itemsFull p = false) (hd : (m.at_ t).domOn (portDom p) = true)
include hf hd

theorem Mach.itemArrive_dropped {k : Nat} (hr : (m.at_ t).itemReason p b ok = k) (hk : k ≠ 0) :
    m.itemArrive p b ok t = ((m.at_ t).itemSeen p).dropNew p k := by
  subst hr
  exact (if_neg (by simp [hf, hd])).trans (if_pos hk)

theorem Mach.itemArrive_queued (hr : (m.at_ t).itemReason p b ok = 0) (hi : (m.at_ t).itemPipe p (itemHandle b / 4 % 8) = some i) :
    m.itemArrive p b ok t = ((m.at_ t).itemSeen p).itemQueued p (itemHandle b / 4 % 8) i ((m.at_ t).effective p (itemHandle b / 4 % 8) b) b := by
  refine (if_neg (by simp [hf, hd])).trans ((if_neg (not_not.mpr hr)).trans ?_)
  dsimp only [Mach.itemPipe] at hi
  rw [hi]
  rfl

end arrive

/-! ### Deadlines, quarantine and silence (R134, R150, R156) -/

section passing
variable {m : Mach} {p : Nat}

theorem Mach.deadlinePass_eq (m : Mach) (p t : Nat) : m.deadlinePass p t =
    if ((m.at_ t).port p).items.filter (fun i => dlPassed (m.at_ t).ctime i.eff && !((m.at_ t).port p).onWire i) = [] then
      (m.at_ t).dropItems p (fun i => dlPassed (m.at_ t).ctime i.eff) 1
    else ((m.at_ t).dropItems p (fun i => dlPassed (m.at_ t).ctime i.eff) 1).raise fDeadlineMiss (0x100 + p) :=
  if_congr List.length_eq_zero_iff rfl rfl

theorem Mach.quarantineEnd_held {a : Nat} (h : ∃ i ∈ m.portPipes p, m.fg (pcW0 i) pcAddr = a) : m.quarantineEnd p a = m :=
  if_pos (List.any_eq_true.mpr (by simpa using h))

theorem Mach.quarantineEnd_leaves {a : Nat} (h : ∀ i ∈ m.portPipes p, m.fg (pcW0 i) pcAddr ≠ a) :
    m.quarantineEnd p a = m.setPort p { m.port p with quar := (m.port p).quar.filter (fun x => x != a) } :=
  if_neg (by simpa using h)

theorem Mach.playingTimeout_eq (m : Mach) (p t : Nat) : m.playingTimeout p t =
    if (m.port p).lastItem + 100000000 ≤ (m.at_ t).ctime then (m.at_ t).fs (PRT_STAT p) PRT_STAT_playing 0 else m.at_ t := by
  rw [Mach.playingTimeout, Mach.port_at]

end passing

/-! ### Microframes (R148) -/

section microframe
variable {m n : Mach} {p t : Nat} {up : List Nat}

/-- What still has something to send of the microframes before (R148). -/
def Mach.workLeft (m : Mach) (p t : Nat) : List Nat :=
  (m.port p).todo.filter (fun i => (m.port p).late.contains i || (m.slotPlan p i (t / 125000) t).isSome)

/-- The work of a microframe: what is carried, then the due entries; what is carried or skipped is counted (R148). -/
def Mach.workTaken (m : Mach) (p t : Nat) : Mach :=
  let left := m.workLeft p t
  let due := m.slotOrder p (t / 125000)
  let counted := m.inc (PRT_SLOT_OVR p) PRT_SLOT_OVR_count (left.length + (due.filter (fun i => left.contains i)).length)
  counted.setPort p { m.port p with
    todo := left ++ due.filter (fun i => !left.contains i), mf := t / 125000, late := [],
    ttUsed := if t / 125000 % 8 = 0 then [] else (m.port p).ttUsed }

theorem Mach.microframe_barred (hn : (m.at_ t).upsetItems p up = n) (h : n.issuing p = false) : m.microframe p up t = n := by
  subst hn
  exact if_pos (by simp [h])

/-- The complete-splits go first, and the entries once the wire is free (R153). -/
theorem Mach.microframe_starts (hn : (m.at_ t).upsetItems p up = n) (h : n.issuing p = true)
    (ht : t % (if n.portHs p = true then 125000 else 1000000) = 0) :
    m.microframe p up t =
      if (n.port p).tx.isSome = true then ((n.workTaken p t).sendCsplits p (t / 125000)).enumAgain p
      else ((((n.workTaken p t).sendCsplits p (t / 125000)).enumAgain p).runSlots 64 p (t + bitsNs (n.portHs p) (packetBits (n.portHs p) 3))).asyncRun p := by
  subst hn
  exact if_neg (by simp [h, ht])

end microframe

/-! ### The obligation -/

/-- Settles O17: an item by the first check that it fails, and each other row by what it finds at its port. -/
theorem playoutArrivalsAndDeadlines : Obligations.PlayoutArrivalsAndDeadlines := by
  refine ⟨fun p b ok t s => ⟨fun h => next_congr (Mach.itemArrive_held h), fun hf hd => ⟨fun hok => ?_, fun hok hh => ?_, fun hok hh hdel => ?_,
      fun hok hh hdel hs => ?_, fun hok hh hdel hs hst => ?_, fun i hok hh hdel hs h7 h8 hdev hpipe hact hdl => ?_⟩⟩,
    fun p t s => next_congr (Mach.deadlinePass_eq s.m p t),
    fun p a s => ⟨fun h => next_congr (Mach.quarantineEnd_held h), fun h => next_congr (Mach.quarantineEnd_leaves h)⟩,
    fun p t s => next_congr (Mach.playingTimeout_eq s.m p t),
    fun p up t s => ⟨fun h => next_congr (Mach.microframe_barred rfl h), fun h ht => next_congr (Mach.microframe_starts rfl h ht)⟩⟩
  · exact next_congr (Mach.itemArrive_dropped hf hd (Mach.itemReason_parity hok) (by decide))
  · exact next_congr (Mach.itemArrive_dropped hf hd (Mach.itemReason_elsewhere hok (Mach.itemHere_iff.not.mpr hh)) (by decide))
  · exact next_congr (Mach.itemArrive_dropped hf hd (Mach.itemReason_undelegated hok (Mach.itemHere_iff.mpr hh) hdel) (by decide))
  · exact next_congr (Mach.itemArrive_dropped hf hd (Mach.itemReason_stopped hok (Mach.itemHere_iff.mpr hh) hdel hs) (by decide))
  · exact next_congr (Mach.itemArrive_dropped hf hd (Mach.itemReason_suspended hok (Mach.itemHere_iff.mpr hh) hdel hs hst) (by decide))
  · have hto : (s.m.at_ t).itemPipe p (itemHandle b / 4 % 8) = some i := (if_pos (by simp [hdev, dReady])).trans hpipe
    exact next_congr (Mach.itemArrive_queued hf hd (Mach.itemReason_none hok (Mach.itemHere_iff.mpr hh) hdel hs h7 h8 hto hact hdl) hto)

end Sys2Proof.Machine
end

section
/-! The end of a transaction (O18): what its result does to its pipe and its item, and what follows on the wire (R142, R143, R153,
R156). -/

namespace Sys2Proof.Machine
open Reg

/-! ### What the end leaves on the wire -/

/-- No transaction of the pipe is in progress any more. -/
def Mach.offWire (m : Mach) (p pipe : Nat) : Mach :=
  m.setPort p { m.port p with tx := (m.port p).tx.filter (fun y => y.pipe != pipe),
                              splits := (m.port p).splits.filter (fun y => y.pipe != pipe) }

/-- The next entries start where the port may issue and the wire is free, control transfers after them (R148). -/
def Mach.wireFreed (m : Mach) (p t : Nat) : Mach :=
  if (m.issuing p && (m.port p).tx.isNone) = true then (m.runSlots 64 p t).asyncRun p else m

theorem exec_transactionComplete (p : Fin 48) (pipe : Fin 512) (res : TxResult) (t : Nat) (s : State) :
    exec (.transactionComplete p pipe res t) s = .next { s with m := if s.m.isHub p = true then s.m.ttDone p res else s.m.txDone p pipe res t } :=
  rfl

section transaction
variable {m : Mach} {p pipe t : Nat} {res : TxResult}

/-- What no transaction asked for, at an address not in quarantine, is discarded (R156). -/
theorem Mach.txDone_unasked (h : ((m.at_ t).port p).txs.find? (fun y => y.pipe == pipe) = none)
    (hq : ((m.at_ t).port p).quar.contains ((m.at_ t).fg (pcW0 pipe) pcAddr) = false) : m.txDone p pipe res t = m.at_ t := by
  rw [Mach.txDone]
  dsimp only
  rw [h]
  exact if_neg (by rw [hq, Bool.and_false]; exact Bool.false_ne_true)

variable {tx : UsbTx} (h : ((m.at_ t).port p).txs.find? (fun y => y.pipe == pipe) = some tx)
include h

/-- A complete-split that is answered NYET goes again in the next microframe (R153). -/
theorem Mach.txDone_splitAgain (hc : 1 < tx.cs) : m.txDone p pipe .nyet t =
    (m.at_ t).setPort p { (m.at_ t).port p with
      splits := ((m.at_ t).port p).splits.map (fun y => if (y.pipe == pipe) = true then { tx with cs := tx.cs - 1, csAt := t / 125000 + 1 } else y) } := by
  rw [Mach.txDone]
  dsimp only
  rw [h]
  exact if_pos ⟨rfl, hc⟩

theorem Mach.txDone_result {n : Mach} (hr : res ≠ .nyet) (ho : ((m.at_ t).offWire p pipe).pipeSt pipe ≠ 3)
    (hn : ((m.at_ t).offWire p pipe).txResult p tx res = n) : m.txDone p pipe res t = (n.sweepItems p).wireFreed p t := by
  have hopen : (((m.at_ t).offWire p pipe).pipeSt pipe == pipeClosing) = false := by simpa [pipeClosing] using ho
  rw [Mach.txDone]
  dsimp only
  rw [h]
  refine (if_neg (fun hh => hr hh.1)).trans ?_
  subst hn
  exact congrArg (fun n : Mach => (n.sweepItems p).wireFreed p t) (if_neg (Bool.eq_false_iff.mp hopen))

end transaction
/-! ### What each result does (R142, R143) -/

section results
variable {m : Mach} {p : Nat} {tx : UsbTx}

/-- An item sent is removed once its ACK has flipped the toggle. -/
theorem Mach.txResult_ack {b : List Byte} (h : tx.item = some b) : m.txResult p tx .ack =
    ((m.txGood p tx.pipe).flipTog tx.pipe).setPort p ((((m.txGood p tx.pipe).flipTog tx.pipe).port p).takeItem tx.pipe b) := by
  simp only [Mach.txResult, h]

theorem Mach.txResult_nak : m.txResult p tx .nak = m.txGood p tx.pipe := rfl

theorem Mach.txResult_stall : m.txResult p tx .stall = (m.txGood p tx.pipe).pipeHalt p tx.pipe := rfl

theorem Mach.txResult_error : m.txResult p tx .error = m.txError p tx.pipe tx.item.isSome := rfl

end results

/-! ### The obligation -/

/-- Settles O18: the row by the role of its port, by the transaction that it ends and by its result. -/
theorem transactionEndsOnPorts : Obligations.TransactionEndsOnPorts := by
  intro p pipe t s
  refine ⟨fun res hh => ?_, fun res hh h hq => ?_, fun tx hh h hp => ?_⟩
  · rw [exec_transactionComplete, if_pos hh]
  · rw [exec_transactionComplete, if_neg (by simp [hh]), Mach.txDone_unasked h hq]
  · have hrow : ∀ res, exec (.transactionComplete p pipe res t) s = .next { s with m := s.m.txDone p pipe res t } := by
      intro res
      rw [exec_transactionComplete, if_neg (by simp [hh])]
    refine ⟨fun hc => (hrow .nyet).trans (next_congr (Mach.txDone_splitAgain h hc)), fun ho => ?_⟩
    have hend : ∀ res n, res ≠ .nyet → ((s.m.at_ t).offWire p pipe).txResult p tx res = n →
        exec (.transactionComplete p pipe res t) s = .next { s with m := (n.sweepItems p).wireFreed p t } :=
      fun res n hr hn => (hrow res).trans (next_congr (Mach.txDone_result h hr ho hn))
    refine ⟨fun b hb => hend .ack _ (by decide) ?_, hend .nak _ (by decide) ?_, hend .stall _ (by decide) ?_, hend .error _ (by decide) ?_⟩
    · rw [Mach.txResult_ack hb, hp]
      rfl
    · rw [Mach.txResult_nak, hp]
      rfl
    · rw [Mach.txResult_stall, hp]
      rfl
    · rw [Mach.txResult_error, hp]
      rfl

end Sys2Proof.Machine
end

section
/-! Queues and whey taps (O27): a producer's word and a stale timeout (R213, R215), a report forwarded (R218, R219), and the copy that
a tap samples (R220, R222). -/

namespace Sys2Proof.Machine
open Reg

/-! ### Words and the stale condition -/

section queue
variable {m : Mach} {n : Nat}

theorem Mach.queueWrite_full {w : QWord} (h : queCap n ≤ (m.q n).words.length) : m.queueWrite n w = m := if_pos h

theorem Mach.queueWrite_appends {w : QWord} (h : (m.q n).words.length < queCap n) :
    m.queueWrite n w = m.setQ n { m.q n with words := (m.q n).words ++ [w], owed := owedAfter w.last (m.q n).owed } :=
  if_neg (Nat.not_le.mpr h)

theorem Mach.queueStale_leaves (h : (m.q n).words = [] ∨ m.fg (QUE_Q_CFG n) QUE_Q_CFG_stale = 0) : m.queueStale n = m :=
  if_pos (by simpa using h)

theorem Mach.queueStale_sets (hw : (m.q n).words ≠ []) (ht : m.fg (QUE_Q_CFG n) QUE_Q_CFG_stale ≠ 0) :
    m.queueStale n = m.setQ n { m.q n with staleOn := true } :=
  if_neg (by simp [hw, ht])

end queue

/-! ### Forwarded reports -/

section report
variable {m : Mach} {p : Nat}

theorem Mach.reportForward_otherMode (h : m.fg (QUE_Q_CFG p) QUE_Q_CFG_mode ≠ 1) : m.reportForward p = m := if_pos (by simp [h])

theorem Mach.reportForward_noPacket (h : takePacket (m.q p).words = none) : m.reportForward p = m := by
  simp only [Mach.reportForward, h, ite_self]

/-- Of a sound packet no word fails parity (R219). -/
theorem any_bad_eq_false {pk : List QWord} (h : ∀ w ∈ pk, w.parityOk = true) : pk.any (fun w => !w.parityOk) = false := by
  simpa using h

section packet
variable {pk rest : List QWord} (hm : m.fg (QUE_Q_CFG p) QUE_Q_CFG_mode = 1) (hq : (m.q p).part = false)
  (ht : takePacket (m.q p).words = some (pk, rest)) (hpk : ∀ w ∈ pk, w.parityOk = true)
include hm hq ht hpk

/-- For this hub's own node the sound packet enters queue 51 where output 48 may begin it, and waits else. -/
theorem Mach.reportForward_here (hn : m.fg (QUE_Q_CFG p) QUE_Q_CFG_fwd_node = m.node) :
    m.reportForward p = if m.qMayBegin 51 then (m.qTake p rest).qPut 51 (wordsBytes pk) else m := by
  simp [Mach.reportForward, hm, hq, ht, hn, any_bad_eq_false hpk]

/-- For another node the sound packet is formed for the chain port of its route, once none before it waits at the input. -/
theorem Mach.reportForward_routed {k : Nat} (hn : m.fg (QUE_Q_CFG p) QUE_Q_CFG_fwd_node ≠ m.node)
    (hr : m.routePort (m.fg (QUE_Q_CFG p) QUE_Q_CFG_fwd_node) = some k) (hf : m.feed p 0 = []) :
    m.reportForward p = (m.qTake p rest).form p { dst := 49 + k, cls := 0, rpt := true } (wordsBytes pk) := by
  simp [Mach.reportForward, hm, hq, ht, hn, hr, hf, any_bad_eq_false hpk]

end packet
end report

/-! ### The tap -/

section tap
variable {m : Mach} {n : Nat}

/-- A copy joins the tap's buffer while that holds at most 16 cells with it (R220). -/
theorem Mach.tapCopy_joins {dst : Nat} {bytes : List Byte} {done : Mach → Mach}
    (h : (m.tapOf n).buf.length + (cellsOf { dst := dst, cls := 3 } bytes none).length ≤ 16) :
    m.tapCopy n dst bytes done =
      done (m.setTap n { m.tapOf n with buf := (m.tapOf n).buf ++ cellsOf { dst := dst, cls := 3 } bytes none }).tapsFeed := by
  simp only [Mach.tapCopy, Mach.tapPut, if_neg (Nat.not_lt.mpr h)]

theorem Mach.tapCopy_lost {dst : Nat} {bytes : List Byte} {done : Mach → Mach}
    (h : 16 < (m.tapOf n).buf.length + (cellsOf { dst := dst, cls := 3 } bytes none).length) :
    m.tapCopy n dst bytes done = m.tapLost n := by
  simp only [Mach.tapCopy, Mach.tapPut, if_pos h]

/-- The tap has counted a packet that it watches, in its sequence number and for its rate. -/
def Mach.tapCount (m : Mach) (n : Nat) : Mach :=
  (m.inc (WTP_T_STAT n) WTP_T_STAT_tap_seq).setTap n { m.tapOf n with seen := (m.tapOf n).seen + 1 }

variable {pk : TapPkt}

theorem Mach.tapObserve_unseen (h : m.tapSees n pk = false) : m.tapObserve n pk = m := if_pos (by simp [h])

section sampling
variable {c : Mach} (hc : m.tapCount n = c) (hs : m.tapSees n pk = true) (hm : c.fg (WTP_T_CFG n) WTP_T_CFG_mode = 1)
include hc hs hm

/-- In mode 1 the packets that the rate picks are copied to output 56 (R220, R222). -/
theorem Mach.tapObserve_samples : m.tapObserve n pk =
    if (m.tapOf n).seen % (c.fg (WTP_T_RATE n) WTP_T_RATE_n_m1 + 1) ≠ 0 then c
    else c.tapCopy n 56 (sampleRec pk n (c.fg (WTP_T_STAT n) WTP_T_STAT_tap_seq) (c.fg (WTP_T_CFG n) WTP_T_CFG_dir == 1)) id := by
  subst hc
  unfold Mach.tapCount at hm ⊢
  simp only [Mach.tapObserve, hs, hm, Bool.not_true, Bool.false_eq_true, if_false]

theorem Mach.tapObserve_passes (hr : (m.tapOf n).seen % (c.fg (WTP_T_RATE n) WTP_T_RATE_n_m1 + 1) ≠ 0) : m.tapObserve n pk = c := by
  rw [Mach.tapObserve_samples hc hs hm, if_pos hr]

variable {r : List Byte}
  (hx : sampleRec pk n (c.fg (WTP_T_STAT n) WTP_T_STAT_tap_seq) (c.fg (WTP_T_CFG n) WTP_T_CFG_dir == 1) = r)
  (hr : (m.tapOf n).seen % (c.fg (WTP_T_RATE n) WTP_T_RATE_n_m1 + 1) = 0)
include hx hr

theorem Mach.tapObserve_joins (hb : (c.tapOf n).buf.length + (cellsOf { dst := 56, cls := 3 } r none).length ≤ 16) :
    m.tapObserve n pk =
      (c.setTap n { c.tapOf n with buf := (c.tapOf n).buf ++ cellsOf { dst := 56, cls := 3 } r none }).tapsFeed := by
  rw [Mach.tapObserve_samples hc hs hm, if_neg (not_not_intro hr), hx, Mach.tapCopy_joins hb, id]

theorem Mach.tapObserve_lost (hb : 16 < (c.tapOf n).buf.length + (cellsOf { dst := 56, cls := 3 } r none).length) :
    m.tapObserve n pk = c.tapLost n := by
  rw [Mach.tapObserve_samples hc hs hm, if_neg (not_not_intro hr), hx, Mach.tapCopy_lost hb]

end sampling
end tap

/-! ### The obligation -/

/-- Settles O27: a queue's rows by its room, its stale time and its node, and a tap's by what it sees, picks and has room for. -/
theorem queuesAndTaps : Obligations.QueuesAndTaps := by
  refine ⟨fun q w last n bad s => ⟨fun h => next_congr (Mach.queueWrite_full h), fun h => next_congr (Mach.queueWrite_appends h)⟩,
    fun q s => ⟨fun h => next_congr (Mach.queueStale_leaves h), fun hw ht => next_congr (Mach.queueStale_sets hw ht)⟩, ?_, ?_⟩
  · intro p s node
    refine ⟨fun h => next_congr (h.elim Mach.reportForward_otherMode Mach.reportForward_noPacket), fun pk rest hm hq ht hpk => ⟨?_, ?_, ?_⟩⟩
    · exact fun hn hb => next_congr ((Mach.reportForward_here hm hq ht hpk hn).trans (if_pos hb))
    · exact fun hn hb => next_congr ((Mach.reportForward_here hm hq ht hpk hn).trans (if_neg (Bool.eq_false_iff.mp hb)))
    · exact fun k hn hr hf => next_congr (Mach.reportForward_routed hm hq ht hpk hn hr hf)
  · intro n pk s x m r cells
    refine ⟨fun h => next_congr (Mach.tapObserve_unseen h), fun hs hm => ⟨?_, ?_, ?_⟩⟩
    · exact fun hr => next_congr (Mach.tapObserve_passes rfl hs hm hr)
    · exact fun hr hb => next_congr (Mach.tapObserve_joins rfl hs hm rfl hr hb)
    · exact fun hr hb => next_congr (Mach.tapObserve_lost rfl hs hm rfl hr hb)

end Sys2Proof.Machine
end

section
/-! What a row leaves of the DRAM and of the queue (O48, O50): a row that does not write the DRAM keeps its contents, or loses all
of them in a chip reset (R243, R576), and no row touches the commands that wait. -/

namespace Sys2Proof.Machine

/-- The queue stays, and the DRAM contents stay or are lost in a chip reset. -/
def KeepsOrLoses (s t : State) : Prop := t.pending = s.pending ∧ (t.dram = s.dram ∨ Restarted t ∧ t.dram = [])

theorem keepsOrLoses_of_restarted {s t : State} (hr : Restarted t) (hp : t.pending = s.pending) (hd : t.dram = s.dram ∨ t.dram = []) :
    KeepsOrLoses s t := ⟨hp, hd.imp_right fun h => ⟨hr, h⟩⟩

section ends
variable {s t : State} {o : Host.Outcome State Fault Refusal} (ht : o = .next t)
include ht

theorem Quiet.keepsOrLoses (h : Quiet s o) : KeepsOrLoses s t := by
  obtain ⟨m, rfl⟩ := h
  cases ht
  exact ⟨rfl, .inl rfl⟩

theorem Resets.keepsOrLoses (h : Resets s o) : KeepsOrLoses s t := by
  obtain hq | ⟨u, rfl, hr, hp, hd⟩ := h
  · exact hq.keepsOrLoses ht
  · cases ht
    exact keepsOrLoses_of_restarted hr hp hd

theorem WriteEnds.keepsOrLoses (h : WriteEnds s o) : KeepsOrLoses s t := by
  obtain ⟨a, rfl⟩ | ⟨m, g, rfl⟩ | ⟨u, rfl, hr, hp, hd⟩ := h <;> cases ht
  · exact ⟨rfl, .inl rfl⟩
  · exact keepsOrLoses_of_restarted hr hp hd

end ends

section exec
variable {c : Instr} {s t : State} (ht : exec c s = .next t)
include ht

/-- Every row that is not one of the DRAM's writers: by the kind of the row. -/
theorem exec_keepsOrLoses (hd : writesDram c = false) : KeepsOrLoses s t := by
  cases hw : writesRegister c with
  | true => exact (exec_writes c s hw).keepsOrLoses ht
  | false =>
    cases hf : firesCams c with
    | true =>
      obtain ⟨n, hn⟩ | hq := exec_cams c s hf
      · rw [hn] at ht; cases ht
      · exact hq.keepsOrLoses ht
    | false =>
      cases hr : resetsChip c with
      | true => exact (exec_resets c s hr).keepsOrLoses ht
      | false => exact (exec_quiet c s hw hf hd hr).keepsOrLoses ht

theorem exec_pending : t.pending = s.pending := by
  cases hd : writesDram c with
  | true =>
    obtain ⟨m, d, hm, -⟩ := exec_dram c s hd
    rw [hm] at ht
    cases ht
    rfl
  | false => exact (exec_keepsOrLoses ht hd).1

theorem exec_dramOk (h : dramOk s.dram) : dramOk t.dram := by
  cases hd : writesDram c with
  | true =>
    obtain ⟨m, d, hm, hk⟩ := exec_dram c s hd
    rw [hm] at ht
    cases ht
    exact hk h
  | false =>
    obtain he | ⟨-, he⟩ := (exec_keepsOrLoses ht hd).2 <;> rw [he]
    · exact h
    · rfl

end exec

theorem step_nil {s : State} (h : s.pending = []) : step s = .next (idle s) := by rw [step, h]

theorem step_cons {s : State} {c : Instr} {rest : List Instr} (h : s.pending = c :: rest) :
    step s = exec c { s with pending := rest } := by rw [step, h]

/-- Settles O48: an idle step keeps the DRAM contents, and a command keeps their form whatever it writes. -/
theorem dramKeepsItsCanonicalForm : Obligations.DramKeepsItsCanonicalForm := by
  intro s t h ht
  cases hp : s.pending with
  | nil =>
    rw [step_nil hp] at ht
    cases ht
    exact h
  | cons c rest =>
    rw [step_cons hp] at ht
    exact exec_dramOk (s := { s with pending := rest }) ht h

/-- Settles O50: `exec_keepsOrLoses` for the rows that do not write the DRAM, `exec_pending` for every row. -/
theorem onlyDramRowsWriteTheDram : Obligations.OnlyDramRowsWriteTheDram := by
  refine ⟨fun c s t ht hd => (exec_keepsOrLoses ht hd).2, fun c s t => exec_pending, fun c rest s t hp ht => ?_⟩
  rw [step_cons hp] at ht
  exact exec_pending ht

end Sys2Proof.Machine
end

section
/-! The end of a DRAM request (O30): which bytes a write stores (R243, R249), and when the last access may be made (R250, R259,
R271). -/

namespace Sys2Proof.Machine

/-! ### Bytes written -/

theorem spGet_dramWrite_outside (d : Sp Byte) {addr : Nat} {bs : List Byte} {a : Nat} (h : a < addr ∨ addr + bs.length ≤ a) :
    spGet 0 (dramWrite d addr bs) a = spGet 0 d a := by
  induction bs generalizing d addr with
  | nil => rfl
  | cons b bs ih =>
    rw [List.length_cons] at h
    rw [dramWrite, ih _ (by omega), spGet_spSet_ne _ _ _ _ (by omega)]

theorem spGet_dramWrite_inside (d : Sp Byte) {addr : Nat} {bs : List Byte} {j : Nat} {b : Byte} (h : bs[j]? = some b) :
    spGet 0 (dramWrite d addr bs) (addr + j) = b := by
  induction bs generalizing d addr j with
  | nil => simp at h
  | cons c bs ih =>
    rw [dramWrite]
    cases j with
    | zero =>
      obtain rfl : c = b := by simpa using h
      rw [spGet_dramWrite_outside _ (by omega), Nat.add_zero, spGet_spSet_same]
    | succ j => rw [← Nat.add_assoc, Nat.add_right_comm, ih _ (by simpa using h)]

/-! ### Completion -/

theorem DramReq.sameStream_iff (a b : DramReq) : a.sameStream b = true ↔ a.requester = b.requester ∧ a.cls = b.cls := by
  simp [DramReq.sameStream]

theorem Mach.mayComplete_iff (m : Mach) (x : DSlot) : m.mayComplete x = true ↔
    x.started = true ∧ m.dmc.alert = false ∧ m.rankTaken (m.rankOf x.req.addr) = false ∧
      ∀ e ∈ m.held, ¬ (e.2.grant < x.grant ∧ e.2.req.requester = x.req.requester ∧ e.2.req.cls = x.req.cls) := by
  simp only [Mach.mayComplete, Bool.and_eq_true, Bool.not_eq_true', List.all_eq_true, Bool.eq_false_iff, ne_eq, decide_eq_true_eq,
    DramReq.sameStream_iff, and_assoc]

/-- What keeps a granted request from completing by its own row, one by one. -/
theorem Mach.not_mayComplete_of (m : Mach) {x : DSlot} (h : x.started = false ∨ m.dmc.alert = true ∨ m.rankTaken (m.rankOf x.req.addr) = true ∨
      x.req.requester = 8 ∨
      ∃ e ∈ m.held, e.2.grant < x.grant ∧ e.2.req.requester = x.req.requester ∧ e.2.req.cls = x.req.cls) :
    m.mayComplete x = false ∨ x.req.requester = 8 := by
  by_cases h8 : x.req.requester = 8
  · exact .inr h8
  · refine .inl (Bool.eq_false_iff.mpr fun hm => ?_)
    obtain ⟨hs, ha, hr, ho⟩ := (m.mayComplete_iff x).mp hm
    obtain h | h | h | h | ⟨e, he, h⟩ := h
    · simp [hs] at h
    · simp [ha] at h
    · simp [hr] at h
    · exact h8 h
    · exact ho e he h

section complete
variable {m : Mach} {d : Sp Byte} {i : Nat} {ecc : List EccRes} {track : List (Fin 10 × Bool)} {t : Nat}

theorem completeReq_empty (h : (m.at_ t).slot i = none) : completeReq m d i ecc track t = (m.at_ t, d) := by
  simp only [completeReq, h]

variable {x : DSlot} (h : (m.at_ t).slot i = some x)
include h

theorem completeReq_waits (hw : (m.at_ t).mayComplete x = false ∨ x.req.requester = 8) :
    completeReq m d i ecc track t = (m.at_ t, d) := by
  simp only [completeReq, h]
  rw [if_pos]
  simpa using hw

/-- The contents after a request's last access: a write's data stored, a read's none. -/
theorem completeReq_dram (hm : (m.at_ t).mayComplete x = true) (h8 : x.req.requester ≠ 8) :
    (completeReq m d i ecc track t).2 = if x.req.isWrite then dramWrite d x.req.addr x.req.data else d := by
  simp only [completeReq, h]
  rw [if_neg (by simp [hm, h8])]
  split
  · exact doWrite_dram (m.at_ t) d x.req.requester x.req.addr x.req.data x.req.poison ecc
  · rfl

end complete

theorem exec_dramRequestComplete (i : Fin 4) (ecc : List EccRes) (track : List (Fin 10 × Bool)) (t : Nat) (s : State) :
    exec (.dramRequestComplete i ecc track t) s =
      .next { s with m := (completeReq s.m s.dram i ecc track t).1, dram := (completeReq s.m s.dram i ecc track t).2 } := rfl

/-- Settles O30: the row by the slot's request and by whether its last access may be made. -/
theorem dramWriteStoresItsBytesOnly : Obligations.DramWriteStoresItsBytesOnly := by
  intro i ecc track t s m
  rw [exec_dramRequestComplete]
  refine ⟨fun h => ?_, fun x h hw => ?_, fun x h hs ha hr h8 ho => ?_⟩
  · rw [completeReq_empty h]
  · rw [completeReq_waits h (m.not_mayComplete_of hw)]
  · have hd := completeReq_dram (d := s.dram) (ecc := ecc) (track := track) h ((m.mayComplete_iff x).mpr ⟨hs, ha, hr, ho⟩) h8
    refine ⟨_, rfl, rfl, rfl, fun hw => ?_, fun hw => ?_⟩ <;> simp only [hd, hw]
    · exact ⟨fun j b => spGet_dramWrite_inside s.dram, fun a => spGet_dramWrite_outside s.dram⟩
    · rfl

end Sys2Proof.Machine
end

section
/-! DRAM requests before their accesses (O29): their arrival (R247, R622), their grant (R244, R246, R254, R255) and their start by the
bank scheduler (R260, R261). -/

namespace Sys2Proof.Machine
open Reg

/-! ### Arrival -/

section arrival
variable {m : Mach} {p : DramPk}

theorem Mach.dramArrive_off (hd : m.domOn 4 = false) : m.dramArrive p = m := by
  simp [Mach.dramArrive, Mach.dramUp, hd]

theorem Mach.dramArrive_refused (hd : m.domOn 4 = true) {st : DramStatus} (hc : m.reqCheck (reqOf p) = some st) :
    m.dramArrive p = ((m.drainRest (reqOf p)).frontAdd ((reqOf p).refused st)).answerDue := by
  simp [Mach.dramArrive, Mach.dramUp, hd, hc]

theorem Mach.dramArrive_passes (hd : m.domOn 4 = true) (hc : m.reqCheck (reqOf p) = none) :
    m.dramArrive p = if (reqOf p).isWrite then m.frontAdd (reqOf p)
      else (m.drainRest (reqOf p)).frontAdd { reqOf p with data := [], whole := true } := by
  simp [Mach.dramArrive, Mach.dramUp, hd, hc]

end arrival

/-! ### Grants -/

/-- A grant: the request is counted, leaves the front and takes a slot under its grant number. -/
def Mach.grantSlot (m : Mach) (i : Nat) (r : DramReq) : Mach :=
  let c := m.countGrant r
  let g : Mach := { c with dmc := { c.dmc with front := c.dmc.front.erase r, grants := c.dmc.grants + 1 } }
  (g.setSlot i (some ⟨r, c.dmc.grants + 1, 0, false, false⟩)).commitGrant r

section grant
variable {m : Mach} {t : Nat}

theorem Mach.frontArbGrant_none (h : (m.at_ t).domOn 4 = false ∨ (m.at_ t).dmc.stopGrants = true ∨ (m.at_ t).freeSlots = [] ∨
    (m.at_ t).choose = none) : m.frontArbGrant t = m.at_ t := by
  rw [Mach.frontArbGrant, Mach.dramUp]
  obtain h | h | h | h := h
  · exact if_pos (by rw [h]; rfl)
  · exact if_pos (by rw [h, Bool.or_true])
  · simp only [h, ite_self]
  · cases hf : (m.at_ t).freeSlots <;> simp only [h, ite_self]

variable {i : Nat} {l : List Nat} {r : DramReq} (hd : (m.at_ t).domOn 4 = true) (hs : (m.at_ t).dmc.stopGrants = false)
  (hf : (m.at_ t).freeSlots = i :: l) (hc : (m.at_ t).choose = some r)
include hd hs hf hc

theorem Mach.frontArbGrant_killed {c : Cmd} (hk : (m.at_ t).killedBy r = some c) :
    m.frontArbGrant t = (m.at_ t).dropKilled r c := by
  rw [Mach.frontArbGrant, Mach.dramUp, if_neg (by rw [hd, hs]; decide)]
  simp only [hf, hc, hk]

theorem Mach.frontArbGrant_live (hk : (m.at_ t).killedBy r = none) :
    m.frontArbGrant t = if (m.at_ t).mayAccess r then (m.at_ t).grantSlot i r else (m.at_ t).deny r := by
  rw [Mach.frontArbGrant, Mach.dramUp, if_neg (by rw [hd, hs]; decide)]
  simp only [hf, hc, hk]
  cases (m.at_ t).mayAccess r <;> rfl

end grant

/-! ### Starts -/

/-- Each older request that waits is passed by one that starts. -/
def Mach.countPasses (m : Mach) (x : DSlot) : Mach :=
  forEach m.held (fun e m =>
    if (decide (e.2.grant < x.grant) && !e.2.started) = true then m.setSlot e.1 (some { e.2 with passes := e.2.passes + 1 }) else m) m

section start
variable {m : Mach} {rows : List (Nat × Nat)} {ready : List Nat} {t : Nat}

theorem Mach.bankScheduleStart_none (h : (m.at_ t).startPick rows ready = none) : m.bankScheduleStart rows ready t = m.at_ t := by
  simp only [Mach.bankScheduleStart, h]

theorem Mach.bankScheduleStart_some {i : Nat} {x : DSlot} (h : (m.at_ t).startPick rows ready = some (i, x)) :
    m.bankScheduleStart rows ready t = ((m.at_ t).countPasses x).setSlot i (some { x with started := true }) := by
  simp only [Mach.bankScheduleStart, h]
  rfl

end start

/-! ### The obligation -/

/-- Settles O29: an arrival by its check, a grant by what the arbiter finds, a start by what the bank scheduler picks. -/
theorem dramRequestsAreCheckedAndGranted : Obligations.DramRequestsAreCheckedAndGranted := by
  refine ⟨fun p s => ⟨fun hd => ?_, fun st hd hc => ?_, fun hd hc hw => ?_, fun hd hc hw => ?_⟩, fun t s => ⟨fun h => ?_, ?_⟩,
    fun s => rfl, fun rows ready t s => ⟨fun h => ?_, fun i x h => ?_⟩⟩
  · exact next_congr (Mach.dramArrive_off hd)
  · exact next_congr (Mach.dramArrive_refused hd hc)
  · exact next_congr ((Mach.dramArrive_passes hd hc).trans (if_pos hw))
  · exact next_congr ((Mach.dramArrive_passes hd hc).trans (if_neg (ne_true_of_eq_false hw)))
  · exact next_congr (Mach.frontArbGrant_none h)
  · intro i l r hd hs hf hc
    refine ⟨fun c hk => ?_, fun hk hm => ?_, fun hk hm => ?_⟩
    · exact next_congr (Mach.frontArbGrant_killed hd hs hf hc hk)
    · exact next_congr ((Mach.frontArbGrant_live hd hs hf hc hk).trans (if_neg (ne_true_of_eq_false hm)))
    · exact next_congr ((Mach.frontArbGrant_live hd hs hf hc hk).trans (if_pos hm))
  · exact next_congr (Mach.bankScheduleStart_none h)
  · exact next_congr (Mach.bankScheduleStart_some h)

end Sys2Proof.Machine
end

section
/-! Upkeep of the DRAM (O31): refresh (R262, R265), retraining (R314), temperature (R265), ALERT_N (R271), the debug port (R259),
patrol scrub (R272), the grant-hold watchdog (R258) and initialisation (R273). -/

namespace Sys2Proof.Machine
open Reg

/-! ### Refresh -/

section refresh
variable {m : Mach} {k : Nat}

theorem Mach.refreshDue_ignored (h : m.fg DMC_STAT DMC_STAT_selfref = 1 ∨ m.rankCount ≤ k ∨ m.domOn 4 = false) (rfm : Bool) :
    m.refreshDue k rfm = m := by
  rw [Mach.refreshDue, Mach.dramUp, if_pos]
  simpa only [Bool.not_eq_true'] using h

section fitted
variable (hs : m.fg DMC_STAT DMC_STAT_selfref ≠ 1) (hk : k < m.rankCount) (hd : m.domOn 4 = true)
include hs hk hd

theorem Mach.refreshDue_fitted (rfm : Bool) :
    m.refreshDue k rfm = (if rfm then { m with dmc := { m.dmc with rfmDue := m.dmc.rfmDue ++ [k] } }
      else (m.fs DMC_STAT DMC_STAT_hot (b2n m.dmc.hotNext)).setAcct k (m.acct k - 1)).refreshTry k := by
  rw [Mach.refreshDue, Mach.dramUp, if_neg]
  rintro (h | h | h)
  · exact hs h
  · omega
  · simp [hd] at h

theorem Mach.refreshDue_rfm :
    m.refreshDue k true = ({ m with dmc := { m.dmc with rfmDue := m.dmc.rfmDue ++ [k] } } : Mach).refreshTry k :=
  Mach.refreshDue_fitted hs hk hd true

/-- The account is charged as it stood before the rate was taken up. -/
theorem Mach.refreshDue_refresh {n : Mach} (hn : m.fs DMC_STAT DMC_STAT_hot (b2n m.dmc.hotNext) = n) :
    m.refreshDue k false = (n.setAcct k (n.acct k - 1)).refreshTry k := by
  have ha : n.acct k = m.acct k := by rw [← hn, Mach.acct, Mach.acct, Mach.fs_dmc]
  rw [Mach.refreshDue_fitted hs hk hd, hn, ha]
  rfl

end fitted

theorem Mach.refreshComplete_ignored (h : m.dmc.taken.contains k = false) : m.refreshComplete k = m := by
  rw [Mach.refreshComplete, h]
  rfl

theorem Mach.refreshComplete_held (h : m.dmc.taken.contains k = true) : m.refreshComplete k =
    (({ m with dmc := { m.dmc with taken := m.dmc.taken.erase k, rfmOn := m.dmc.rfmOn.erase k } } : Mach).refreshTry k).debugTry := by
  rw [Mach.refreshComplete, h]
  rfl

end refresh

/-! ### Retraining -/

section retrain
variable {m : Mach} {d : Sp Byte} {k : Nat}

theorem Mach.roundRuns_iff : m.roundRuns k = true ↔ m.domOn 4 = true ∧ m.fg DPY_CTRL DPY_CTRL_retrain_en = 1 ∧
    m.fg DPY_STAT DPY_STAT_trained = 1 ∧ m.fg DMC_STAT DMC_STAT_selfref = 0 ∧ m.dmc.taken.contains k = true ∧
    m.dmc.rfmOn.contains k = false ∧ m.dmc.alert = false := by
  simp only [Mach.roundRuns, Mach.dramUp, Bool.and_eq_true, beq_iff_eq, Bool.not_eq_true', and_assoc]

theorem Mach.roundRuns_eq_false (h : m.domOn 4 = false ∨ m.fg DPY_CTRL DPY_CTRL_retrain_en ≠ 1 ∨ m.fg DPY_STAT DPY_STAT_trained ≠ 1 ∨
    m.fg DMC_STAT DMC_STAT_selfref ≠ 0 ∨ m.dmc.taken.contains k = false ∨ m.dmc.rfmOn.contains k = true ∨ m.dmc.alert = true) :
    m.roundRuns k = false := by
  rw [Bool.eq_false_iff, ne_eq, Mach.roundRuns_iff]
  rintro ⟨h1, h2, h3, h4, h5, h6, h7⟩
  rw [h1, h2, h3, h4, h5, h6, h7] at h
  simp at h

theorem retrainRound_ignored (h : m.roundRuns k = false) (moves : List (Fin 5 × Bool)) : retrainRound m d k moves = (m, d) := by
  rw [retrainRound, h]
  rfl

/-- A DDR5 round in which no lane moves: the calibration, the count and the drift. -/
theorem retrainRound_still (h : m.roundRuns k = true) (h5 : m.ddr5 = true) :
    retrainRound m d k [] = (((m.emit .dramDev [5, k]).sat (DPY_DRIFT k) DPY_DRIFT_rounds).driftCheck k, d) := by
  have he : (m.emit .dramDev [5, k]).ddr5 = true := h5
  simp only [retrainRound, h, he]
  rfl

end retrain

/-! ### Temperature -/

section temperature
variable {m : Mach} {j : Int} {devs : List DevTemp}

theorem Mach.tempEstimate_off (hd : m.domOn 4 = false) : m.tempEstimate j devs = m := by
  rw [Mach.tempEstimate, Mach.dramUp, hd]
  rfl

/-- A DDR4 estimate as it is shown, and what it sets for the next tREFI boundary. -/
def Mach.tempShown (m : Mach) (est : Int) : Mach :=
  { m.fs DMC_TEMP DMC_TEMP_temp (tap8 est) with
    dmc := { (m.fs DMC_TEMP DMC_TEMP_temp (tap8 est)).dmc with
      hotNext := if 85 < est then true else if est < 82 then false else m.dmc.hotNext, tooHot := decide (95 < est) } }

theorem Mach.tempEstimate_ddr4 (hd : m.domOn 4 = true) (h4 : m.ddr5 = false) :
    m.tempEstimate j devs = if 95 < m.estimate j devs ∧ m.dmc.tooHot = false
      then ((m.tempShown (m.estimate j devs)).ev DMC_STAT DMC_STAT_temp_ev).raise fTempHigh 0 else m.tempShown (m.estimate j devs) := by
  simp [Mach.tempEstimate, Mach.dramUp, Mach.tempShown, hd, h4]

end temperature

/-! ### ALERT_N -/

section alert
variable {m : Mach} {k b : Nat}

theorem Mach.dramAlert_unused (h : m.alertUsed = false) : m.dramAlert k b = m := by
  rw [Mach.dramAlert, h]
  rfl

theorem Mach.dramAlert_first (h : m.alertUsed = true) (hb : m.dmc.alertBurst ≠ some b) :
    m.dramAlert k b = { m with dmc := { m.dmc with alert := true, alertBurst := some b, replays := 0 } } := by
  simp [Mach.dramAlert, h, hb]

theorem Mach.alertEnd_none (h : m.dmc.alert = false) : m.alertEnd k = m := by
  rw [Mach.alertEnd, h]
  rfl

/-- The kept bursts are replayed, after a precharge of every rank. -/
def Mach.replayBursts (m : Mach) (k : Nat) : Mach :=
  let m : Mach := { m with dmc := { m.dmc with alert := false, replays := m.dmc.replays + 1 } }
  let m := forEach (upTo m.rankCount) (fun k m => m.emit .dramDev [3, k]) m
  forEach m.dmc.bursts (fun b m => m.emit .dramDev [2, k, b2n b.write, b.addr] b.data) m

theorem Mach.alertEnd_replays (h : m.dmc.alert = true) : m.alertEnd k =
    ((((m.replayBursts k).inc DMC_ALERT_CNT DMC_ALERT_CNT_count).refreshTry 0).refreshTry 1).debugTry := by
  rw [Mach.alertEnd, h]
  rfl

end alert

/-! ### The debug port -/

section debug
variable {m : Mach} {k : Nat}

theorem Mach.debugAccess_ignored (h : m.domOn 4 = false ∨ m.rankCount ≤ k ∨ m.dmc.debugHeld.isSome = true) :
    m.debugAccess k true = m := by
  rw [Mach.debugAccess, Mach.dramUp]
  obtain h | h := h
  · rw [h]; rfl
  · rw [if_pos h, if_pos rfl, ite_self]

theorem Mach.debugAccess_asks (hd : m.domOn 4 = true) (hk : k < m.rankCount) (hh : m.dmc.debugHeld = none) :
    m.debugAccess k true = ({ m with dmc := { m.dmc with debugDue := some k } } : Mach).debugTry := by
  simp [Mach.debugAccess, Mach.dramUp, hd, hh, Nat.not_le.mpr hk]

theorem Mach.debugAccess_gives_back (hd : m.domOn 4 = true) (hh : m.dmc.debugHeld = some k) :
    m.debugAccess k false = ({ m with dmc := { m.dmc with debugHeld := none, debugDue := none } } : Mach).refreshTry k := by
  simp [Mach.debugAccess, Mach.dramUp, hd, hh]

end debug

/-! ### Patrol scrub -/

section scrub
variable {m : Mach} {d : Sp Byte} {ecc : EccRes} {counts : List Word} {track : List (Fin 10 × Bool)} {t : Nat}

theorem Mach.patrolScrub_asks (hn : (m.at_ t).held.find? (fun e => e.2.req.requester == 8) = none) (hd : (m.at_ t).domOn 4 = true)
    (hi : (m.at_ t).initDone = true) (he : (m.at_ t).fg DMC_SCRUB DMC_SCRUB_enable = 1)
    (hs : (m.at_ t).fg DMC_STAT DMC_STAT_selfref = 0) (hf : (m.at_ t).dmc.front.any (fun r => r.requester == 8) = false) :
    m.patrolScrub d ecc counts track t = (m.at_ t).frontAdd (m.at_ t).scrubReq := by
  simp only [Mach.patrolScrub, Mach.dramUp, hn, hd, hi, he, hs, hf]
  rfl

theorem Mach.patrolScrub_held {i : Nat} {x : DSlot} (h : (m.at_ t).held.find? (fun e => e.2.req.requester == 8) = some (i, x)) :
    m.patrolScrub d ecc counts track t = if (m.at_ t).mayComplete x
      then ((((m.at_ t).scrubWord d x.req.addr ecc).readTrack ((m.at_ t).rankOf x.req.addr) track).scrubNext counts).freeSlot i
        ((m.at_ t).rankOf x.req.addr)
      else m.at_ t := by
  simp only [Mach.patrolScrub, h]
  cases (m.at_ t).mayComplete x <;> rfl

end scrub

/-! ### The watchdog -/

section hang
variable {m : Mach} {d : Sp Byte} {i done : Nat}

theorem arbHang_empty (h : m.slot i = none) : arbHang m d i done = (m, d) := by
  simp only [arbHang, h]

variable {x : DSlot} (h : m.slot i = some x)
include h

theorem arbHang_waits (he : m.dmc.debugHeld.isSome = true ∨ m.dmc.taken ≠ []) : arbHang m d i done = (m, d) := by
  simp only [arbHang, h]
  exact if_pos (by simpa using he)

/-- A hang counts, is logged and is raised (R258). -/
def Mach.logHang (m : Mach) (r : DramReq) : Mach :=
  (((m.inc DMC_HANG_CNT DMC_HANG_CNT_count).wr DMC_HANG_LOG
    (BitVec.ofNat 32 (r.requester * 2 ^ 24 + b2n r.isWrite * 2 ^ 23 + r.addr / 65536 % 2 ^ 23))).ev DMC_STAT DMC_STAT_hang_ev).raise
    fArbHang r.requester

/-- A read that hangs leaves the contents as they are. -/
theorem arbHang_read (hh : m.dmc.debugHeld = none) (ht : m.dmc.taken = []) (hw : x.req.isWrite = false) (h9 : x.req.requester ≠ 9) :
    arbHang m d i done =
      ((((m.logHang x.req).drainRest x.req).dramReply x.req .hung []).freeSlot i ((m.logHang x.req).rankOf x.req.addr), d) := by
  simp only [arbHang, h, hh, ht, hw, if_neg h9]
  rw [Mach.logHang, hw]
  rfl

end hang

/-! ### The obligation -/

/-- Rows that give a machine and DRAM contents, where the contents stay. -/
theorem next_dram_congr {s : State} {p : Mach × Sp Byte} {n : Mach} (h : p = (n, s.dram)) :
    (.next { s with m := p.1, dram := p.2 } : Host.Outcome State Fault Refusal) = .next { s with m := n } := by rw [h]

/-- Settles O31: each row by the state that it finds. -/
theorem dramUpkeep : Obligations.DramUpkeep := by
  refine ⟨fun k s => ⟨fun h rfm => ?_, fun hs hk hd => ⟨?_, ?_⟩, fun h => ?_, fun h => ?_⟩, fun k moves s => ⟨fun h => ?_, ?_⟩,
    fun j devs s => ⟨fun h => ?_, ?_⟩, fun k b s => ⟨fun h => ?_, fun h hb => ?_, fun h => ?_, fun h => ?_⟩,
    fun k s => ⟨fun h => ?_, fun hd hk hh => ?_, fun hd hh => ?_⟩, ?_, fun i done s => ⟨fun h => ?_, fun x h he => ?_, ?_⟩,
    fun s => ⟨fun h => ?_, fun h => ?_⟩⟩
  · exact next_congr (Mach.refreshDue_ignored h rfm)
  · exact next_congr (Mach.refreshDue_rfm hs hk hd)
  · exact next_congr (Mach.refreshDue_refresh hs hk hd rfl)
  · exact next_congr (Mach.refreshComplete_ignored h)
  · exact next_congr (Mach.refreshComplete_held h)
  · exact next_dram_congr (retrainRound_ignored (Mach.roundRuns_eq_false h) moves)
  · intro hd hr ht hs hk hf ha h5
    exact next_dram_congr (retrainRound_still (Mach.roundRuns_iff.mpr ⟨hd, hr, ht, hs, hk, hf, ha⟩) h5)
  · exact next_congr (Mach.tempEstimate_off h)
  · intro hd h4 est m n
    have ht := Mach.tempEstimate_ddr4 (devs := devs) (j := j) hd h4
    refine ⟨fun h => next_congr (ht.trans (if_neg ?_)), fun h hh => next_congr (ht.trans (if_pos ⟨h, hh⟩))⟩
    rintro ⟨h1, h2⟩
    obtain h | h := h
    · exact absurd h1 (by omega)
    · simp [h] at h2
  · exact next_congr (Mach.dramAlert_unused h)
  · exact next_congr (Mach.dramAlert_first h hb)
  · exact next_congr (Mach.alertEnd_none h)
  · exact next_congr (Mach.alertEnd_replays h)
  · exact next_congr (Mach.debugAccess_ignored h)
  · exact next_congr (Mach.debugAccess_asks hd hk hh)
  · exact next_congr (Mach.debugAccess_gives_back hd hh)
  · intro ecc counts track t s m
    refine ⟨fun hn hd hi he hs hf => next_congr (Mach.patrolScrub_asks hn hd hi he hs hf), fun i x h => ?_⟩
    have hp := Mach.patrolScrub_held (d := s.dram) (ecc := ecc) (counts := counts) (track := track) h
    exact ⟨fun hm => next_congr (hp.trans (if_neg (ne_true_of_eq_false hm))), fun hm => next_congr (hp.trans (if_pos hm))⟩
  · exact next_dram_congr (arbHang_empty h)
  · exact next_dram_congr (arbHang_waits h he)
  · exact fun x h hh ht hw h9 => next_dram_congr (arbHang_read h hh ht hw h9)
  · exact if_neg (ne_true_of_eq_false h)
  · exact if_pos h

end Sys2Proof.Machine
end

section
/-! Memory commands and streams (O37): MEM_RD and MEM_WR request by request (R395), the memory engine (R252), the binding of the stream
endpoints (R396), and their packets (R363). -/

namespace Sys2Proof.Machine
open Reg

/-! ### MEM_RD and MEM_WR -/

section replied
variable {m : Mach} {c : Cmd} {r : Run} {st : DramStatus} {data : List Byte} (hr : m.findRun c = some r)
  (hc : c.opcode = 0x20#8 ∨ c.opcode = 0x21#8)
include hr hc

theorem Mach.memReplied_fails (hs : memStatus st ≠ stOk) : m.memReplied c st data = m.memReply r (memStatus st) := by
  simp only [Mach.memReplied, hr]
  rw [if_neg (by tauto), if_pos hs]

/-- A request that went well counts its bytes; then the next goes out, or the command ends. -/
theorem Mach.memReplied_counts (hs : memStatus st = stOk) {r' : Run}
    (hn : { r with next := r.next + memPart r, corrected := r.corrected || st == .corrected, data := r.data ++ data.take (memPart r),
                   committed := r.committed || c.opcode == 0x21#8 } = r') :
    m.memReplied c st data = if r'.next < memTotal c then (m.setRun r').memIssue r' else m.memReply r' 0 := by
  simp only [Mach.memReplied, hr, hn]
  rw [if_neg (by tauto), if_neg (not_not_intro hs)]
  subst hn
  rfl

end replied

/-! ### The memory engine -/

section wait
variable {m : Mach} {c : Cmd} {l p : Bool} (hd : m.domOn 4 = true) (hs : m.serves c l p = true)
include hd hs

theorem Mach.serveEngine_notInit (hi : m.initDone = false) : m.serveIn 4 c l p (·.engineWait c) = m.reply c 0x17 := by
  rw [Mach.serveIn_of_serves _ hs hd, Mach.engineWait, hi]
  rfl

theorem Mach.serveEngine_waits (hi : m.initDone = true) {n : Mach} (hn : m.startRun { cmd := c } = n) :
    m.serveIn 4 c l p (·.engineWait c) = { n with dmc := { n.dmc with engine := n.dmc.engine ++ [(c, n.dmc.grants)] } } := by
  rw [Mach.serveIn_of_serves _ hs hd, Mach.engineWait, hi, hn]
  rfl

end wait

section engine
variable {m : Mach}

theorem Mach.engStart_idle (h : m.dmc.engine = [] ∨ m.dramUp = false ∨ m.dmc.engRun.isSome = true) : m.engStart = m := by
  cases he : m.dmc.engine with
  | nil => simp only [Mach.engStart, he]
  | cons e rest =>
    simp only [Mach.engStart, he]
    obtain h | h | h := h
    · simp [he] at h
    · exact if_pos (by rw [h]; rfl)
    · exact if_pos (by rw [h, Bool.or_true, Bool.true_or])

variable {c : Cmd} {n : Nat} {rest : List (Cmd × Nat)} (he : m.dmc.engine = (c, n) :: rest)
include he

theorem Mach.engStart_waits (h : m.held.any (fun e => decide (e.2.grant ≤ n) || e.2.req.requester == 9) = true) : m.engStart = m := by
  simp only [Mach.engStart, he]
  exact if_pos (by rw [h, Bool.or_true])

theorem Mach.engStart_runs (hu : m.dramUp = true) (hr : m.dmc.engRun = none)
    (h : m.held.any (fun e => decide (e.2.grant ≤ n) || e.2.req.requester == 9) = false) :
    m.engStart = ({ m with dmc := { m.dmc with engine := rest } } : Mach).engNext { cmd := c, next := c.p 8 5 / 64 * 64 } := by
  simp only [Mach.engStart, he]
  exact if_neg (by rw [hu, hr, h]; decide)

end engine

section next
variable {m : Mach} {r : EngRun} (hn : r.next < r.stop)
include hn

theorem Mach.engNext_fails {st : DramStatus} (h : m.accessCheck r.next 64 = some st) : m.engNext r = m.engEnd r (memStatus st) := by
  rw [Mach.engNext, if_neg (by omega), h]

theorem Mach.engNext_asks (h : m.accessCheck r.next 64 = none) :
    m.engNext r = ({ m with dmc := { m.dmc with engRun := some r } } : Mach).frontAdd r.req := by
  rw [Mach.engNext, if_neg (by omega), h]

end next

/-! ### Bindings -/

section binding
variable {m : Mach} {c : Cmd} (hd : m.domOn 2 = true)
  (hs : m.serves c (cmdBare c && (bitN (c.b 8) 7 || decide (c.p 13 3 ≠ 0))) (bitN (c.b 8) 7 || decide (c.b 9 < 32)) = true)
include hd hs

theorem Mach.memStreamSet_foreign (h : c.chan ≠ 0#4 ∨ c.arrival ≠ 0 ∨ c.target.toNat % 4096 ≠ 0xFFF) :
    m.memStreamSet c = m.reply c 0x13 :=
  (Mach.serveIn_of_serves _ hs hd).trans (if_pos h)

theorem Mach.memStreamSet_own (hc : c.chan = 0#4) (ha : c.arrival = 0) (ht : c.target.toNat % 4096 = 0xFFF) :
    m.memStreamSet c = if bitN (c.b 8) 7 then (m.unbind (c.b 8 % 2)).reply c 0
      else ((m.setStrm (c.b 8 % 2) { next := (m.strm (c.b 8 % 2)).next, base := c.p 10 3 * 65536, len := c.p 13 3 * 65536,
                                     node := c.b 9 }).strmShow (c.b 8 % 2)).reply c 0 :=
  (Mach.serveIn_of_serves _ hs hd).trans (if_neg (by tauto))

end binding

/-! ### OUT packets -/

/-- An OUT packet is written, moves the position and is acknowledged; where it fills the window the endpoint stops. -/
def Mach.strmTake (m : Mach) (bs : List Byte) : Mach :=
  let w := Mach.strmWrite (bs.length + 1) m.cmf.out3.pos bs m
  let n := (((w.setStrm 0 { w.cmf.out3 with pos := m.cmf.out3.pos + bs.length }).strmShow 0).flipEp 3).hostAck 3
  if m.cmf.out3.pos + bs.length = m.cmf.out3.len then n.strmStop 0 else n

section streamOut
variable {m : Mach} {bs : List Byte} (hst : m.cmfSt = cConfigured)
include hst

theorem Mach.streamOut_stalled (h : m.bound 0 = false ∨ m.cmf.out3.stall = true) (ping : Bool) : m.streamOut bs ping = m.hostStall 3 := by
  rw [Mach.streamOut, if_neg (not_not_intro hst), if_pos]
  simpa only [Bool.or_eq_true, Bool.not_eq_true'] using h

variable (hb : m.bound 0 = true) (hs : m.cmf.out3.stall = false)
include hb hs

theorem Mach.streamOut_bound (ping : Bool) : m.streamOut bs ping =
    if ping then (if m.upHigh then if m.strmMay then m.hostAck 3 else m.hostNak 3 else m)
    else if m.cmf.out3.len ≤ m.cmf.out3.pos ∨ m.cmf.out3.len < m.cmf.out3.pos + bs.length then (m.strmStop 0).hostStall 3
    else if m.strmMay then m.strmTake bs else m.hostNak 3 := by
  rw [Mach.streamOut, if_neg (not_not_intro hst), if_neg (by rw [hb, hs]; decide)]
  cases m.upHigh <;> cases m.strmMay <;> rfl

theorem Mach.streamOut_ping (hh : m.upHigh = true) : m.streamOut bs true = if m.strmMay = true then m.hostAck 3 else m.hostNak 3 := by
  rw [Mach.streamOut_bound hst hb hs, if_pos rfl, if_pos hh]

theorem Mach.streamOut_past (h : m.cmf.out3.len ≤ m.cmf.out3.pos ∨ m.cmf.out3.len < m.cmf.out3.pos + bs.length) :
    m.streamOut bs false = (m.strmStop 0).hostStall 3 := by
  rw [Mach.streamOut_bound hst hb hs, if_neg Bool.false_ne_true, if_pos h]

theorem Mach.streamOut_fits (hp : m.cmf.out3.pos < m.cmf.out3.len) (hl : m.cmf.out3.pos + bs.length ≤ m.cmf.out3.len) :
    m.streamOut bs false = if m.strmMay then m.strmTake bs else m.hostNak 3 := by
  rw [Mach.streamOut_bound hst hb hs, if_neg Bool.false_ne_true, if_neg (by omega)]

end streamOut

/-! ### IN packets -/

section streamIn
variable {m : Mach} {ok : Bool} (hst : m.cmfSt = cConfigured)
include hst

theorem Mach.streamIn_stalled (h : m.bound 1 = false ∨ m.cmf.in83.stall = true) : m.streamIn ok = m.hostStall 0x83 := by
  rw [Mach.streamIn, if_neg (not_not_intro hst), if_pos]
  simpa only [Bool.or_eq_true, Bool.not_eq_true'] using h

variable (hb : m.bound 1 = true) (hs : m.cmf.in83.stall = false)
include hb hs

theorem Mach.streamIn_ended (he : m.cmf.in83.ended = true) : m.streamIn ok = m.hostNak 0x83 := by
  rw [Mach.streamIn, if_neg (not_not_intro hst), if_neg (by rw [hb, hs]; decide), if_pos he]

variable (he : m.cmf.in83.ended = false) (hr : m.strmNext ≤ m.cmf.in83.ready.length)
include he hr

theorem Mach.streamIn_badParity :
    m.streamIn false = ((m.raise fBufParity 48).setStrm 1 { m.cmf.in83 with ready := [] }).hostNak 0x83 := by
  rw [Mach.streamIn, if_neg (not_not_intro hst), if_neg (by rw [hb, hs]; decide), if_neg (ne_true_of_eq_false he),
    if_neg (by omega), if_pos (by decide)]

theorem Mach.streamIn_sends : m.streamIn true =
    (((m.setStrm 1 { m.cmf.in83 with pos := m.cmf.in83.pos + m.strmNext, ready := m.cmf.in83.ready.drop m.strmNext,
                                     ended := decide (m.strmNext < m.bulkMax) }).strmShow 1).flipEp 0x83).hostData 0x83
      (m.cmf.in83.ready.take m.strmNext) := by
  rw [Mach.streamIn, if_neg (not_not_intro hst), if_neg (by rw [hb, hs]; decide), if_neg (ne_true_of_eq_false he),
    if_neg (by omega), if_neg (by decide)]

end streamIn

/-! ### The obligation -/

section attached
variable {s : State} (ha : s.m.attached = true)
include ha

theorem exec_streamOutPacket (bs : List Byte) (ping : Bool) :
    exec (.streamOutPacket bs ping) s = .next { s with m := s.m.streamOut bs ping } := next_congr (if_pos ha)

theorem exec_streamInPacket (ok : Bool) : exec (.streamInPacket ok) s = .next { s with m := s.m.streamIn ok } := next_congr (if_pos ha)

end attached

/-- Settles O37: each command and packet by the checks that it passes and by what it finds at its block. -/
theorem memoryCommandsAndStreamsUseTheDram : Obligations.MemoryCommandsAndStreamsUseTheDram := by
  refine ⟨fun c s => ⟨fun hs => ?_, fun hs => ?_, fun hd hs => ?_, fun hd hs => ?_, fun hd hs => ⟨fun h => ?_, fun hc ha ht => ?_⟩,
      fun r st data hr hc => ⟨fun hst => ?_, fun hst => ?_⟩⟩,
    fun s => ⟨fun h => ?_, fun c n rest he => ⟨fun h => ?_, fun hu hr h => ?_⟩⟩, fun s ha hst => ⟨fun bs => ?_, ?_⟩⟩
  · exact next_congr (Mach.serve_of_serves _ hs)
  · exact next_congr (Mach.serve_of_serves _ hs)
  · exact ⟨fun hi => next_congr (Mach.serveEngine_notInit hd hs hi), fun hi => next_congr (Mach.serveEngine_waits hd hs hi rfl)⟩
  · exact ⟨fun hi => next_congr (Mach.serveEngine_notInit hd hs hi), fun hi => next_congr (Mach.serveEngine_waits hd hs hi rfl)⟩
  · exact next_congr (Mach.memStreamSet_foreign hd hs h)
  · have hm := Mach.memStreamSet_own hd hs hc ha ht
    exact ⟨fun hb => next_congr (hm.trans (if_pos hb)), fun hb => next_congr (hm.trans (if_neg (ne_true_of_eq_false hb)))⟩
  · exact next_congr (Mach.memReplied_fails hr hc hst)
  · intro r'
    have hm := Mach.memReplied_counts (data := data) hr hc hst rfl
    exact ⟨fun hl => next_congr (hm.trans (if_pos hl)), fun hl => next_congr (hm.trans (if_neg (Nat.not_lt.mpr hl)))⟩
  · exact next_congr (Mach.engStart_idle h)
  · exact next_congr (Mach.engStart_waits he h)
  · have hm := Mach.engStart_runs he hu hr h
    exact ⟨fun st hn hc => next_congr (hm.trans (Mach.engNext_fails hn hc)), fun hn hc => next_congr (hm.trans (Mach.engNext_asks hn hc))⟩
  · have ho := exec_streamOutPacket ha bs
    refine ⟨fun h ping => ?_, fun hb hs hh => ?_, fun hb hs h => ?_, fun hb hs hp hl => ?_⟩
    · exact (ho ping).trans (next_congr (Mach.streamOut_stalled hst h ping))
    · exact (ho true).trans (next_congr (Mach.streamOut_ping hst hb hs hh))
    · exact (ho false).trans (next_congr (Mach.streamOut_past hst hb hs h))
    · have hm := Mach.streamOut_fits hst hb hs hp hl
      exact ⟨fun hr => (ho false).trans (next_congr (hm.trans (if_neg (ne_true_of_eq_false hr)))),
        fun hr => (ho false).trans (next_congr (hm.trans (if_pos hr)))⟩
  · have hi := exec_streamInPacket ha
    refine ⟨fun h ok => ?_, fun hb hs he ok => ?_, fun hb hs he hr => ?_, fun hb hs he hr => ?_⟩
    · exact (hi ok).trans (next_congr (Mach.streamIn_stalled hst h))
    · exact (hi ok).trans (next_congr (Mach.streamIn_ended hst hb hs he))
    · exact (hi false).trans (next_congr (Mach.streamIn_badParity hst hb hs he hr))
    · exact (hi true).trans (next_congr (Mach.streamIn_sends hst hb hs he hr))

end Sys2Proof.Machine
end

section
/-! Training sub-steps and the flash of the training cache (O32): what an attempt found is judged (R297), and the sub-step goes on, is
tried again or fails (R298); and the operations that write an entry or erase (R305, R306). -/

namespace Sys2Proof.Machine
open Reg

/-! ### Sub-steps -/

/-- An attempt's result stands in DPY_STEPs and in the journal (R298). -/
def Mach.recordAttempt (m : Mach) (r : TrainRun) (result kind duration lane : Nat) : Mach :=
  let n := m.stepResult r.step result r.attempt duration lane
  n.journal (stepCode r.step) kind r.attempt (n.trainDetail lane)

section substep
variable {m : Mach} {x : Sys2Proof.TrainRes} {r : TrainRun}

theorem Mach.trainingSubstepDone_idle (h : m.dpy.run = none) : m.trainingSubstepDone x = m := by
  rw [Mach.trainingSubstepDone, h]

variable (hr : m.dpy.run = some r)
include hr

theorem Mach.trainingSubstepDone_passes (hc : ((m.bootTime x.time.toNat).attempt r x).criterion r x = true) :
    m.trainingSubstepDone x =
      ((((m.bootTime x.time.toNat).attempt r x).deviceActs r).recordAttempt r 1 jPass x.duration.toNat 0xF).stepPassed r := by
  simp only [Mach.trainingSubstepDone, hr]
  exact if_pos hc

/-- A failed attempt leaves none of what it found. -/
theorem Mach.trainingSubstepDone_fails (hc : ((m.bootTime x.time.toNat).attempt r x).criterion r x = false) :
    m.trainingSubstepDone x =
      let fail := (m.bootTime x.time.toNat).recordAttempt r 2 jFail x.duration.toNat x.lane.val
      if r.attempt < 3 then fail.stepStart { r with attempt := r.attempt + 1 } else fail.stepFailed r := by
  simp only [Mach.trainingSubstepDone, hr]
  exact if_neg (ne_true_of_eq_false hc)

end substep

/-! ### The flash -/

/-- What an operation that has ended leaves in the flash. -/
def FlashOp.effect (d : Dpy) : FlashOp → Dpy
  | .entry k bs => { d with cache := spSet [] d.cache k bs }
  | .invalidate => { d with cache := [], marks := [] }
  | .markClear => { d with marks := [] }

section flash
variable {m : Mach}

theorem Mach.flashOpDone_idle (h : m.dpy.flashOps = []) : m.flashOpDone = m := by
  rw [Mach.flashOpDone, h]

theorem Mach.flashOpDone_ends {op : FlashOp} {l : List FlashOp} (h : m.dpy.flashOps = op :: l) :
    m.flashOpDone = ({ m with dpy := { op.effect m.dpy with flashOps := l } } : Mach).showFlash := by
  rw [Mach.flashOpDone, h]
  cases op <;> rfl

end flash

/-! ### The obligation -/

/-- The row of the training cache, not of FW_WRITE. -/
theorem exec_flashOpDone_cache (s : State) : exec (.flashOpDone false) s = .next { s with m := s.m.flashOpDone } := rfl

/-- Settles O32: a sub-step by its run, its criterion and its attempt, the flash by the operation in progress. -/
theorem trainingAndFlash : Obligations.TrainingAndFlash := by
  refine ⟨fun x s => ⟨fun h => ?_, fun r hr => ?_⟩, fun s => ?_⟩
  · exact next_congr (Mach.trainingSubstepDone_idle h)
  · intro m got bad fail
    refine ⟨fun hc => ?_, fun hc ha => ?_, fun hc ha => ?_⟩
    · exact next_congr (Mach.trainingSubstepDone_passes hr hc)
    · exact next_congr ((Mach.trainingSubstepDone_fails hr hc).trans (if_pos ha))
    · exact next_congr ((Mach.trainingSubstepDone_fails hr hc).trans (if_neg (Nat.not_lt.mpr ha)))
  · rw [exec_flashOpDone_cache]
    refine ⟨fun h => ?_, fun k bs l h => ?_, fun l h => ?_, fun l h => ?_⟩
    · exact next_congr (Mach.flashOpDone_idle h)
    · exact next_congr (Mach.flashOpDone_ends h)
    · exact next_congr (Mach.flashOpDone_ends h)
    · exact next_congr (Mach.flashOpDone_ends h)

end Sys2Proof.Machine
end

section
/-! Transaction translators, the repeat path, suspend, resume and LPM (O35): the TTs' requests and splits (R345, R346), what is repeated
(R348-R351), idle and wake (R354, R355), resume (R356, R357) and L1 (R358). What a complete-split is answered, and the packet between port
48 and a port engine, are log 66. -/

namespace Sys2Proof.Machine
open Reg

/-! ### Requests to a TT (R345) -/

section ttRequest
variable {m : Mach} {i : Nat}

theorem Mach.resetTt_unknown (h : m.ttNamed i = none) : m.resetTt i = m.hostStall 0 := by
  rw [Mach.resetTt, h]

theorem Mach.resetTt_named {k : Nat} (h : m.ttNamed i = some k) : m.resetTt i = (m.setTt k []).hostAck 0 := by
  rw [Mach.resetTt, h]

variable {dev ep : Nat} {isIn : Bool}

theorem Mach.clearTt_unknown (h : m.ttNamed i = none) : m.clearTt i dev ep isIn = m.hostStall 0 := by
  rw [Mach.clearTt, h]

theorem Mach.clearTt_named {k : Nat} (h : m.ttNamed i = some k) : m.clearTt i dev ep isIn =
    (m.setTt k (dropFirst (fun x => !x.periodic && x.dev == dev && x.ep == ep && x.isIn == isIn) (m.tt k))).hostAck 0 := by
  rw [Mach.clearTt, h]

end ttRequest

/-! ### Start-splits (R345, R346, R349) -/

/-- The transactions that a TT keeps as a start-split arrives: all but an ended one of the same name. -/
def Mach.ttKept (m : Mach) (x : SplitTok) : List TtTx :=
  (m.tt (m.ttOf x.port.val)).filter (fun y => !(y.isOf x && (y.refused || y.res.isSome)))

/-- Those of them that take room from the start-split. -/
def Mach.ttRivals (m : Mach) (x : SplitTok) : List TtTx :=
  (m.ttKept x).filter (fun y => y.periodic == x.periodic && !y.refused)

/-- The transaction that a start-split begins. -/
def TtTx.ofSplit (x : SplitTok) : TtTx :=
  { port := x.port.val, dev := x.dev.val, ep := x.ep.val, isIn := x.isIn, periodic := x.periodic, bytes := x.bytes }

/-- A TT has no room for a start-split. -/
def Mach.ttFull (m : Mach) (x : SplitTok) : Bool :=
  if x.periodic then decide (16 ≤ (m.ttRivals x).length) || decide (1536 < x.bytes + ((m.ttRivals x).map (·.bytes)).sum)
  else decide (2 ≤ (m.ttRivals x).length)

/-- A full TT discards a periodic transaction, and counts it, and answers another NAK. -/
def Mach.ttRefuse (m : Mach) (x : SplitTok) : Mach :=
  if x.periodic then (m.setTt (m.ttOf x.port.val) (m.ttKept x ++ [{ TtTx.ofSplit x with refused := true }])).inc HUB_TT_OVR HUB_TT_OVR_count
  else m.hostNak x.ep.val

/-- A transaction's packet crosses to its port, where its token goes out. -/
def Mach.ttLaunch (m : Mach) (x : SplitTok) (p : Nat) : Mach :=
  (m.form 48 { dst := p, cls := 2 } (ttHead x.dev.val x.ep.val x.isIn ++ x.data)).emit .portTx
    [p, if x.isIn then 2 else 1, x.dev.val, x.ep.val] x.data

/-- A TT with room takes a buffer, acknowledges what is not periodic, and the transaction goes out. -/
def Mach.ttAdmit (m : Mach) (x : SplitTok) (p : Nat) : Mach :=
  let n := m.setTt (m.ttOf x.port.val) (m.ttKept x ++ [TtTx.ofSplit x])
  (if x.periodic then n else n.hostAck x.ep.val).ttLaunch x p

section startSplit
variable {m : Mach} {x : SplitTok} {p : Fin 48} (hp : m.physOf x.port.val = some p)
include hp

theorem Mach.startSplit_fullSpeed (hh : m.upHigh = false) : m.startSplit x = m := by
  simp only [Mach.startSplit, hp]
  exact if_pos (by rw [hh]; rfl)

variable (hh : m.upHigh = true)
include hh

theorem Mach.startSplit_highSpeed : m.startSplit x = if m.ttFull x then m.ttRefuse x else m.ttAdmit x p.val := by
  simp only [Mach.startSplit, hp]
  exact if_neg (by rw [hh]; decide)

theorem Mach.startSplit_bulk_room (hx : x.periodic = false) (hl : (m.ttRivals x).length < 2) : m.startSplit x =
    ((m.setTt (m.ttOf x.port.val) (m.ttKept x ++ [TtTx.ofSplit x])).hostAck x.ep.val).ttLaunch x p.val := by
  have hf : m.ttFull x = false := by rw [Mach.ttFull, hx, if_neg Bool.false_ne_true, decide_eq_false (Nat.not_le.mpr hl)]
  rw [Mach.startSplit_highSpeed hp hh, hf, if_neg Bool.false_ne_true, Mach.ttAdmit, hx]
  rfl

theorem Mach.startSplit_bulk_full (hx : x.periodic = false) (hl : 2 ≤ (m.ttRivals x).length) : m.startSplit x = m.hostNak x.ep.val := by
  have hf : m.ttFull x = true := by rw [Mach.ttFull, hx, if_neg Bool.false_ne_true, decide_eq_true hl]
  rw [Mach.startSplit_highSpeed hp hh, if_pos hf, Mach.ttRefuse, hx, if_neg Bool.false_ne_true]

theorem Mach.startSplit_periodic_room (hx : x.periodic = true) (hl : (m.ttRivals x).length < 16)
    (hb : x.bytes + ((m.ttRivals x).map (·.bytes)).sum ≤ 1536) : m.startSplit x =
    (m.setTt (m.ttOf x.port.val) (m.ttKept x ++ [TtTx.ofSplit x])).ttLaunch x p.val := by
  have hf : m.ttFull x = false := by
    rw [Mach.ttFull, if_pos hx, decide_eq_false (Nat.not_le.mpr hl), decide_eq_false (Nat.not_lt.mpr hb), Bool.or_false]
  rw [Mach.startSplit_highSpeed hp hh, hf, if_neg Bool.false_ne_true, Mach.ttAdmit, if_pos hx]

theorem Mach.startSplit_periodic_full (hx : x.periodic = true)
    (hl : 16 ≤ (m.ttRivals x).length ∨ 1536 < x.bytes + ((m.ttRivals x).map (·.bytes)).sum) : m.startSplit x =
    (m.setTt (m.ttOf x.port.val) (m.ttKept x ++ [{ TtTx.ofSplit x with refused := true }])).inc HUB_TT_OVR HUB_TT_OVR_count := by
  have hf : m.ttFull x = true := by simpa only [Mach.ttFull, if_pos hx, Bool.or_eq_true, decide_eq_true_eq] using hl
  rw [Mach.startSplit_highSpeed hp hh, if_pos hf, Mach.ttRefuse, if_pos hx]

end startSplit

/-! ### The repeat path (R345, R348, R350, R351, R354) -/

theorem Mach.hsRepeat_suspended {m : Mach} (h : m.hub.susp = true) (pk : UpPacket) : m.hsRepeat pk = m := if_pos h

section repeated
variable {m : Mach} (h : m.hub.susp = false)
include h

theorem Mach.hsRepeat_sof (f : BitVec 11) :
    m.hsRepeat (.sof f) = (m.slowSof f.toNat).repeatOn m.repeatTo 0 5 (leBytes 2 f.toNat) := if_neg (ne_true_of_eq_false h)

theorem Mach.hsRepeat_csplit (x : SplitTok) (ok : Bool) : m.hsRepeat (.csplit x ok) = if m.upHigh then m.completeSplit x ok else m :=
  if_neg (ne_true_of_eq_false h)

end repeated

section completeSplit
variable {m : Mach} {x : SplitTok} {ok : Bool}

theorem Mach.completeSplit_unknown (hn : (m.tt (m.ttOf x.port.val)).find? (·.isOf x) = none) : m.completeSplit x ok = m := by
  simp only [Mach.completeSplit, hn]

/-- The complete-split of a transaction that no TT holds is not answered, at any speed and in any state of the bus. -/
theorem Mach.hsRepeat_csplit_unknown (hn : (m.tt (m.ttOf x.port.val)).find? (·.isOf x) = none) : m.hsRepeat (.csplit x ok) = m := by
  cases hs : m.hub.susp with
  | true => exact Mach.hsRepeat_suspended hs _
  | false => rw [Mach.hsRepeat_csplit hs, Mach.completeSplit_unknown hn, ite_self]

theorem Mach.hsRepeat_csplit_held {y : TtTx} (hy : (m.tt (m.ttOf x.port.val)).find? (·.isOf x) = some y) (hs : m.hub.susp = false)
    (hh : m.upHigh = true) : m.hsRepeat (.csplit x ok) =
    (if y.refused || y.res.isSome then m.setTt (m.ttOf x.port.val) (dropFirst (·.isOf x) (m.tt (m.ttOf x.port.val))) else m).splitAnswer y ok := by
  rw [Mach.hsRepeat_csplit hs, if_pos hh]
  simp only [Mach.completeSplit, hy]

end completeSplit

theorem Mach.assignObserved_moves {m : Mach} (hh : m.upHigh = true) {a : Fin 128} (ha : a ≠ 0) : m.assignObserved a.val =
    m.wr (steerAddr a.val) (match m.steered 0 with | some p => steerWord p | none => 0) :=
  if_pos (by rw [hh, Bool.true_and, bne_iff_ne]; exact Fin.val_ne_iff.mpr ha)

/-! ### Suspend and remote wake (R354-R356) -/

/-- The hub's part of suspend. -/
def Mach.hubSuspends (m : Mach) : Mach :=
  (({ m with hub := { m.hub with susp := true, before := m.hubSt } } : Mach).setHubSt uSuspended).ev HUB_STAT HUB_STAT_suspend_ev

/-- The command function's part: a function in L1 keeps the state that it had before. -/
def Mach.cmfSuspends (m : Mach) : Mach :=
  if m.cmfSt = cSuspended then m
  else ({ m with cmf := { m.cmf with before := if m.cmfSt = cL1 then m.cmf.before else m.cmfSt } } : Mach).setCmfSt cSuspended

section suspend
variable {m : Mach}

theorem Mach.idleSuspend_idle (h : m.hub.susp = true ∨ m.hubSt = uL1) : m.idleSuspend = m :=
  if_pos (by rwa [Bool.or_eq_true, beq_iff_eq])

theorem Mach.idleSuspend_suspends (hs : m.hub.susp = false) (hl : m.hubSt ≠ uL1) : m.idleSuspend = m.hubSuspends.cmfSuspends := by
  rw [Mach.idleSuspend, if_neg (by rw [hs, Bool.false_or, beq_iff_eq]; exact hl), Mach.cmfSuspends]
  simp only [beq_iff_eq]
  rfl

/-- An enabled wake source that is there has the hub drive K, unless the host's K came first. -/
theorem Mach.remoteWake_wakes {src : Nat} (hs : m.hub.susp = true) (hd : m.hub.driving = false) (ht : m.wakeThere src = true)
    (he : m.wakeEnabled src = true) (hostK : Bool) : m.remoteWake src hostK =
    let n := (m.ev HUB_STAT HUB_STAT_wake_ev).fs HUB_WAKE_REASON HUB_WAKE_REASON_source src
    if hostK then (n.fs HUB_WAKE_REASON HUB_WAKE_REASON_reason 1).fs HUB_WAKE_REASON HUB_WAKE_REASON_pending 1
    else ({ n with hub := { n.hub with driving := true } } : Mach).emit .upBus [0] :=
  if_neg (by simp [hs, hd, ht, he])

end suspend

/-! ### Resume (R356, R357) -/

section resume
variable {m : Mach} {during : Bool}

theorem Mach.hostResume_suspended (h : m.hub.susp = true) : m.hostResume during = m.upResume false during := if_pos h

variable (hs : m.hub.susp = false)
include hs

theorem Mach.hostResume_hubL1 (hl : m.hubSt = uL1) : m.hostResume during = m.upResume true during := by
  rw [Mach.hostResume, if_neg (ne_true_of_eq_false hs), if_pos]
  exact Bool.or_eq_true_iff.mpr (.inl (beq_iff_eq.mpr hl))

theorem Mach.hostResume_awake (hl : m.hubSt ≠ uL1) (hc : m.cmfSt ≠ cL1) : m.hostResume during = m := by
  rw [Mach.hostResume, if_neg (ne_true_of_eq_false hs), if_neg]
  simpa only [Bool.or_eq_true, beq_iff_eq, not_or] using ⟨hl, hc⟩

end resume

/-! ### LPM (R358) -/

section lpm
variable {m : Mach} {wake : Bool}

theorem Mach.lpm_otherState {hub : Bool} {l : BitVec 4} (h : l ≠ 1#4) : m.lpm hub l.toNat wake = m.hostStall 0 :=
  if_pos (fun hn => h (BitVec.eq_of_toNat_eq hn))

theorem Mach.lpm_hub : m.lpm true 1 wake =
    if !m.hubIdle || m.hub.susp then m.emit .upstream [4, 0]
    else if m.hubSt == uL1 then m.hostAck 0
    else ((({ m with hub := { m.hub with before := m.hubSt, l1Wake := wake } } : Mach).setHubSt uL1).ev HUB_STAT HUB_STAT_l1_ev).hostAck 0 :=
  (if_neg (not_not_intro rfl)).trans (if_pos rfl)

theorem Mach.lpm_busyHub (h : m.hubIdle = false ∨ m.hub.susp = true) : m.lpm true 1 wake = m.emit .upstream [4, 0] := by
  rw [Mach.lpm_hub, if_pos (by rwa [Bool.or_eq_true, Bool.not_eq_true'])]

theorem Mach.lpm_idleHub (hi : m.hubIdle = true) (hs : m.hub.susp = false) (hl : m.hubSt ≠ uL1) : m.lpm true 1 wake =
    ((({ m with hub := { m.hub with before := m.hubSt, l1Wake := wake } } : Mach).setHubSt uL1).ev HUB_STAT HUB_STAT_l1_ev).hostAck 0 := by
  rw [Mach.lpm_hub, if_neg (by rw [hi, hs]; decide), if_neg (by rwa [beq_iff_eq])]

end lpm

/-! ### The obligation -/

section attached
variable {s : State} (ha : s.m.attached = true)
include ha

theorem exec_clearTtBuffer (tt : Nat) (dev : Fin 128) (ep : Fin 16) (isIn : Bool) :
    exec (.clearTtBuffer tt dev ep isIn) s = .next { s with m := s.m.clearTt tt dev.val ep.val isIn } :=
  next_congr (if_pos ha)

theorem exec_resetTt (tt : Nat) : exec (.resetTt tt) s = .next { s with m := s.m.resetTt tt } := next_congr (if_pos ha)

theorem exec_ttStartSplit (x : SplitTok) : exec (.ttStartSplit x) s = .next { s with m := s.m.startSplit x } :=
  next_congr (if_pos ha)

theorem exec_hsPacketRepeat (pk : UpPacket) : exec (.hsPacketRepeat pk) s = .next { s with m := s.m.hsRepeat pk } :=
  next_congr (if_pos ha)

theorem exec_setAddressObserved (a : Fin 128) : exec (.setAddressObserved a) s = .next { s with m := s.m.assignObserved a.val } :=
  next_congr (if_pos ha)

theorem exec_upIdleSuspend : exec .upIdleSuspend s = .next { s with m := s.m.idleSuspend } := next_congr (if_pos ha)

theorem exec_hubRemoteWake (src : Fin 4) (hostK : Bool) : exec (.hubRemoteWake src hostK) s = .next { s with m := s.m.remoteWake src.val hostK } :=
  next_congr (if_pos ha)

theorem exec_hostResume (during : Bool) : exec (.hostResume during) s = .next { s with m := s.m.hostResume during } :=
  next_congr (if_pos ha)

theorem exec_lpmTransaction (hub : Bool) (l : BitVec 4) (wake : Bool) :
    exec (.lpmTransaction hub l wake) s = .next { s with m := s.m.lpm hub l.toNat wake } :=
  next_congr (if_pos ha)

end attached

/-- Settles O35: the requests and splits by what their TT holds, the rest by the state of the upstream bus and of the two devices. -/
theorem hubTranslatorsRepeatAndSuspend : Obligations.HubTranslatorsRepeatAndSuspend := by
  refine fun s ha => ⟨fun tt dev ep isIn => ?ttRequests, fun x p hp => ?splits, fun a hh hz => ?_, fun f => ?sofs, fun h => ?_,
    fun hs hl => ?_, fun src hs hd ht he => ?wakes, fun during => ?resumes, fun hub wake => ?lpm⟩
  case ttRequests =>
    have hc := exec_clearTtBuffer ha tt dev ep isIn
    have hr := exec_resetTt ha tt
    exact ⟨fun h => ⟨hc.trans (next_congr (Mach.clearTt_unknown h)), hr.trans (next_congr (Mach.resetTt_unknown h))⟩,
      fun k h => ⟨hr.trans (next_congr (Mach.resetTt_named h)), hc.trans (next_congr (Mach.clearTt_named h))⟩⟩
  case splits =>
    intro k kept l tx out
    have hx := exec_ttStartSplit ha x
    have hr := fun ok => exec_hsPacketRepeat ha (.csplit x ok)
    refine ⟨fun hh => ?_, fun hh hp' hl => ?_, fun hh hp' hl => ?_, fun hh hp' hl hb => ?_, fun hh hp' hl => ?_, fun y ok hy hs hh => ?_,
      fun ok hn => ?_⟩
    · exact hx.trans (next_congr (Mach.startSplit_fullSpeed hp hh))
    · exact hx.trans (next_congr (Mach.startSplit_bulk_room hp hh hp' hl))
    · exact hx.trans (next_congr (Mach.startSplit_bulk_full hp hh hp' hl))
    · exact hx.trans (next_congr (Mach.startSplit_periodic_room hp hh hp' hl hb))
    · exact hx.trans (next_congr (Mach.startSplit_periodic_full hp hh hp' hl))
    · exact (hr ok).trans (next_congr (Mach.hsRepeat_csplit_held hy hs hh))
    · exact (hr ok).trans (next_congr (Mach.hsRepeat_csplit_unknown hn))
  case sofs =>
    have hr := exec_hsPacketRepeat ha (.sof f)
    exact ⟨fun hs => hr.trans (next_congr (Mach.hsRepeat_suspended hs _)), fun hs => hr.trans (next_congr (Mach.hsRepeat_sof hs f))⟩
  case wakes =>
    intro m
    have hw := fun hostK => (exec_hubRemoteWake ha src hostK).trans (next_congr (Mach.remoteWake_wakes hs hd ht he hostK))
    exact ⟨hw false, hw true⟩
  case resumes =>
    have hr := exec_hostResume ha during
    exact ⟨fun hs => hr.trans (next_congr (Mach.hostResume_suspended hs)), fun hs hl => hr.trans (next_congr (Mach.hostResume_hubL1 hs hl)),
      fun hs hl hc => hr.trans (next_congr (Mach.hostResume_awake hs hl hc))⟩
  case lpm =>
    have hl := exec_lpmTransaction ha
    exact ⟨fun l h => (hl hub l wake).trans (next_congr (Mach.lpm_otherState h)),
      fun h => (hl true 1#4 wake).trans (next_congr (Mach.lpm_busyHub h)),
      fun hi hs hn => (hl true 1#4 wake).trans (next_congr (Mach.lpm_idleHub hi hs hn))⟩
  · exact (exec_setAddressObserved ha a).trans (next_congr (Mach.assignObserved_moves hh hz))
  · exact (exec_upIdleSuspend ha).trans (next_congr (Mach.idleSuspend_idle h))
  · exact (exec_upIdleSuspend ha).trans (next_congr (Mach.idleSuspend_suspends hs hl))

end Sys2Proof.Machine
end

section
/-! The endpoints of the command function (O36): endpoint 0x01 and SUBMIT (R360, R364, R387, R404), replies at queue 48 (R361),
notifications (R362), RESYNC and CLEAR_FEATURE (R364, R365), replies at their origin (R388) and PENDING (R391). The BUSY of SUBMIT and the
answers to PING are log 22, a reply that answers nothing is log 50. -/

namespace Sys2Proof.Machine
open Reg

/-! ### Endpoint 0x01 (R360, R361) -/

/-- A stream of no bytes, where no transfer has ended, has nothing to cut. -/
theorem Mach.cutOut_empty {m : Mach} (hp : m.cmd.part0 = []) (he : m.cmd.ended = false) (k : Nat) : m.cutOut k = m := by
  cases k with
  | zero => rfl
  | succ k => rw [Mach.cutOut, hp, he]; rfl

/-- Bytes that arrive on an endpoint that held none are acknowledged, and whole packets cut from them. -/
def Mach.outTake (m : Mach) (bs : List Byte) : Mach :=
  let n := (m.flipEp 1).hostAck 1
  Mach.cutOut (bs.length + 1) { n with cmd := { n.cmd with part0 := bs, ended := decide (bs.length < m.bulkMax) } }

section cmdOut
variable {m n : Mach} {bs : List Byte} {ping : Bool} {t : Nat} (hn : m.at_ t = n) (hc : n.cmfSt = cConfigured)
include hn hc

theorem Mach.cmdOut_halted (hh : n.fg CMF_STAT CMF_STAT_out_halted = 1) : m.cmdOut bs ping t = n.hostStall 1 := by
  rw [Mach.cmdOut, hn, if_neg (not_not_intro hc), if_pos hh]

variable (hh : n.fg CMF_STAT CMF_STAT_out_halted = 0) (hp : n.cmd.part0 = []) (he : n.cmd.ended = false)
include hh hp he

/-- With nothing left to cut, what arrives is judged by the limit and the room alone. -/
theorem Mach.cmdOut_empty : m.cmdOut bs ping t =
    if n.atLimit 0 false || !n.inputRoom 0 n.bulkMax then n.hostNak 1
    else if ping then (if n.upHigh then n.hostAck 1 else n)
    else n.outTake bs := by
  have hb : n.outBlocked = false := by rw [Mach.outBlocked, hp]; rfl
  have hp' : ((n.flipEp 1).hostAck 1).cmd.part0 = [] := hp
  rw [Mach.cmdOut, hn, if_neg (not_not_intro hc), if_neg (by rw [hh]; decide)]
  simp only [Mach.cutOut_empty hp he, hb, Bool.or_false, hp', List.nil_append]
  rfl

theorem Mach.cmdOut_limit (hl : n.atLimit 0 false = true) : m.cmdOut bs ping t = n.hostNak 1 := by
  rw [Mach.cmdOut_empty hn hc hh hp he, hl, Bool.true_or, if_pos rfl]

variable (hl : n.atLimit 0 false = false) (hr : n.inputRoom 0 n.bulkMax = true)
include hl hr

theorem Mach.cmdOut_room :
    m.cmdOut bs ping t = if ping then (if n.upHigh then n.hostAck 1 else n) else n.outTake bs := by
  rw [Mach.cmdOut_empty hn hc hh hp he, hl, hr, if_neg (by decide)]

end cmdOut

/-! ### SUBMIT (R364, R404) -/

section submit
variable {m : Mach} {bs : List Byte} (hc : m.cmfSt = cConfigured) (h20 : 20 ≤ bs.length) (hmax : bs.length ≤ 1044) (hh : headerOk bs = true)
include hc h20 hmax hh

/-- A request that may carry a packet with a good header is acknowledged, and the packet judged by its length and the limits. -/
theorem Mach.submit_headerOk {n : Mach} (hn : m.hostAck 0 = n) : m.submit bs =
    if packetLen bs ≠ bs.length then n.refuseAtOrigin 0 (n.ownCmd 0 bs) stBadLength
    else if n.atLimit 0 (n.ownCmd 0 bs).urgent || (!(n.ownCmd 0 bs).urgent && !n.inputRoom 0 bs.length) then
      n.refuseAtOrigin 0 (n.ownCmd 0 bs) stBusy
    else n.originTake 0 (n.ownCmd 0 bs) := by
  rw [Mach.submit, if_neg (by rw [hc]; omega), hn]
  exact if_neg (by rw [hh]; decide)

theorem Mach.submit_badLength (hl : packetLen bs ≠ bs.length) :
    m.submit bs = (m.hostAck 0).refuseAtOrigin 0 ((m.hostAck 0).ownCmd 0 bs) stBadLength :=
  (Mach.submit_headerOk hc h20 hmax hh rfl).trans (if_pos hl)

variable (hl : packetLen bs = bs.length)
include hl

theorem Mach.submit_atLimit (ha : (m.hostAck 0).atLimit 0 ((m.hostAck 0).ownCmd 0 bs).urgent = true) :
    m.submit bs = (m.hostAck 0).refuseAtOrigin 0 ((m.hostAck 0).ownCmd 0 bs) stBusy := by
  rw [Mach.submit_headerOk hc h20 hmax hh rfl, if_neg (not_not_intro hl), if_pos (by rw [ha, Bool.true_or])]

theorem Mach.submit_taken (ha : (m.hostAck 0).atLimit 0 ((m.hostAck 0).ownCmd 0 bs).urgent = false)
    (hr : ((m.hostAck 0).ownCmd 0 bs).urgent = true ∨ (m.hostAck 0).inputRoom 0 bs.length = true) :
    m.submit bs = (m.hostAck 0).originTake 0 ((m.hostAck 0).ownCmd 0 bs) := by
  rw [Mach.submit_headerOk hc h20 hmax hh rfl, if_neg (not_not_intro hl), if_neg]
  rw [ha, Bool.false_or, ← Bool.not_or, Bool.not_eq_true', Bool.not_eq_false, Bool.or_eq_true]
  exact hr

end submit

/-! ### What the host reads (R361, R362, R364) -/

section reads
variable {m : Mach} (hc : m.cmfSt = cConfigured)
include hc

theorem Mach.replyIn_sends {pk rest : List QWord} (ht : takePacket (m.q 48).words = some (pk, rest))
    (hp : pk.any (fun w => !w.parityOk) = false) : m.replyIn =
    let m := (m.qTake 48 rest).hostData 0x81 (wordsBytes pk)
    let m := if (wordsBytes pk).length / m.bulkMax % 2 = 0 then m.flipEp 0x81 else m
    Mach.pumpHeld m.cmd.held.length 0 m := by
  rw [Mach.replyIn, if_neg (not_not_intro hc)]
  simp only [ht, hp]
  rfl

theorem Mach.notifyIn_none (hn : m.cmf.notif = none) : m.notifyIn = m.hostNak 0x82 := by
  rw [Mach.notifyIn, if_neg (not_not_intro hc)]
  simp only [hn]

theorem Mach.notifyIn_some {f k e t : Nat} (hn : m.cmf.notif = some (f, k, e, t)) : m.notifyIn =
    (({ m with cmf := { m.cmf with notif := none } } : Mach).hostData 0x82
      (leBytes 1 f ++ leBytes 1 k ++ leBytes 2 e ++ leBytes 4 t)).flipEp 0x82 := by
  rw [Mach.notifyIn, if_neg (not_not_intro hc)]
  simp only [hn]

end reads

/-! ### Toggles (R364, R365) -/

section toggles
variable (m : Mach)

theorem Mach.clearHalt_out : m.clearHalt 1 = (m.clearTog 1).dropPart0.fs CMF_STAT CMF_STAT_out_halted 0 := by
  rw [Mach.clearHalt, if_pos rfl]

/-- An endpoint other than 0x01 and the stream endpoints has a toggle alone. -/
theorem Mach.clearHalt_toggle {ep : Nat} (h1 : ep ≠ 1) (h3 : ep ≠ 3) (h83 : ep ≠ 0x83) : m.clearHalt ep = m.clearTog ep := by
  rw [Mach.clearHalt, if_neg h1, if_neg h3, if_neg h83]

/-- RESYNC is both clears at once. -/
theorem Mach.clearHalt_bulk : ((m.clearHalt 1).clearHalt 0x81).hostAck 0 =
    (((m.clearTog 1).dropPart0.fs CMF_STAT CMF_STAT_out_halted 0).clearTog 0x81).hostAck 0 := by
  rw [Mach.clearHalt_out, Mach.clearHalt_toggle _ (by decide) (by decide) (by decide)]

end toggles

/-! ### Replies at their origin (R388) -/

section replies
variable {m : Mach} {r : ReplyPkt} (ho : r.origin.val = m.node) (hd : m.coreDead = false)
include ho hd

theorem Mach.replyAtOrigin_stale (hn : m.repliesTo r = none) (hc : r.chan = 0#4) :
    m.replyAtOrigin r = (m.inc CMF_STALE_CNT CMF_STALE_CNT_count).ev CMF_STAT CMF_STAT_stale_ev := by
  rw [Mach.replyAtOrigin, if_neg (by rw [ho, hd]; simp)]
  simp only [hn]
  exact if_pos hc

variable {o : Outst} (hs : m.repliesTo r = some o) (hh : m.cmd.held.any (fun e => e.1 == o.chan) = false)
  (hr : m.replyRoom o.chan (replyPktBytes r).length = true)
include hs hh hr

/-- A reply with room is delivered; a final one also answers its command, and on channel 0 endpoint 0x01 goes on. -/
theorem Mach.replyAtOrigin_delivers {n : Mach}
    (hn : (m.emit .delivered [o.chan, o.tag, o.gen, r.status.toNat]).deliverReply o.chan (replyPktBytes r) = n) :
    m.replyAtOrigin r =
      if r.status.toNat = stPending then n
      else if o.chan = 0 then (n.answered o r.node.val).cutOut ((n.answered o r.node.val).cmd.part0.length + 1)
      else n.answered o r.node.val := by
  rw [Mach.replyAtOrigin, if_neg (by rw [ho, hd]; simp)]
  simp only [hs, hn]
  exact if_neg (by rw [hh, hr]; decide)

end replies

/-! ### PENDING (R391) -/

section pending
variable {m : Mach} {c : Cmd}

theorem Mach.commandPending_unknown (hn : m.findRun c = none) : m.commandPending c =
    if longOne c && m.cmd.acc.any (·.same c) then
      ({ m with cmd := { m.cmd with run := m.cmd.run ++ [{ cmd := c, pendingSent := true }] } } : Mach).sendReply c stPending 0 []
    else m := by
  rw [Mach.commandPending, hn]

theorem Mach.commandPending_runs {r : Run} (hr : m.findRun c = some r) (hp : r.pendingSent = false) (hc : r.committed = false) :
    m.commandPending c = (m.setRun { r with pendingSent := true }).sendReply c stPending 0 [] := by
  rw [Mach.commandPending, hr]
  exact if_neg (by rw [hp, hc]; simp)

end pending

/-! ### The obligation -/

section attached
variable {s : State} (ha : s.m.attached = true)
include ha

theorem exec_cmdOutRx (bs : List Byte) (ping : Bool) (t : Nat) : exec (.cmdOutRx bs ping t) s = .next { s with m := s.m.cmdOut bs ping t } :=
  next_congr (if_pos ha)

theorem exec_submit (bs : List Byte) : exec (.submit bs) s = .next { s with m := s.m.submit bs } := next_congr (if_pos ha)

theorem exec_replyInAck : exec .replyInAck s = .next { s with m := s.m.replyIn } := next_congr (if_pos ha)

theorem exec_getCmfInfo : exec .getCmfInfo s = .next { s with m := if s.m.cmfSt = cConfigured then s.m.cmfInfo else s.m.hostStall 0 } :=
  next_congr (if_pos ha)

theorem exec_notifyIn : exec .notifyIn s = .next { s with m := s.m.notifyIn } := next_congr (if_pos ha)

theorem exec_cmfResync : exec .cmfResync s =
    .next { s with m := (((s.m.clearTog 1).dropPart0.fs CMF_STAT CMF_STAT_out_halted 0).clearTog 0x81).hostAck 0 } :=
  next_congr ((if_pos ha).trans (Mach.clearHalt_bulk _))

variable {ep : BitVec 8}

/-- Endpoint 0 and what is no endpoint of the command function have no halt to clear. -/
theorem exec_clearHalt_other (he : ep.toNat ∉ [1, 0x81, 0x82, 3, 0x83]) :
    exec (.clearFeatureEndpointHalt ep) s = .next { s with m := s.m.hostStall 0 } :=
  next_congr ((if_pos ha).trans (if_neg (by simpa using he)))

theorem exec_clearHalt_known (he : ep.toNat ∈ [1, 0x81, 0x82, 3, 0x83]) {n : Mach} (hn : s.m.clearHalt ep.toNat = n) :
    exec (.clearFeatureEndpointHalt ep) s = .next { s with m := n.hostAck 0 } :=
  next_congr ((if_pos ha).trans ((if_pos (by simpa using he)).trans (by rw [hn])))

end attached

/-- Settles O36: the endpoints by the state of the command function and what they hold, replies by the command that they answer, PENDING by
the command's record. -/
theorem endpointsCarryCommandsAndReplies : Obligations.EndpointsCarryCommandsAndReplies := by
  refine ⟨fun s ha hc => ⟨fun bs t => ?out, fun bs h20 hmax hh => ?submit, fun pk rest ht hp => ?_, ?_, fun hn => ?_, fun f k e t hn => ?_⟩,
    fun s ha => ?toggles, fun s hd => ?_, fun r s ho hd => ⟨fun hn hc => ?_, fun o hs hh hr => ?delivered⟩, fun c s => ?pending⟩
  case out =>
    intro m
    have hx := fun ping => exec_cmdOutRx ha bs ping t
    refine ⟨fun hh hc' ping => ?_, fun hc' hh hp he hl hr => ?_, fun hc' hh hp he hl ping => ?_⟩
    · exact (hx ping).trans (next_congr (Mach.cmdOut_halted rfl hc' hh))
    · have hm := fun ping => (hx ping).trans (next_congr (Mach.cmdOut_room rfl hc' hh hp he hl hr))
      exact ⟨hm true, hm false⟩
    · exact (hx ping).trans (next_congr (Mach.cmdOut_limit rfl hc' hh hp he hl))
  case submit =>
    intro m c
    have hx := exec_submit ha bs
    exact ⟨fun hl => hx.trans (next_congr (Mach.submit_badLength hc h20 hmax hh hl)),
      fun hl hm hr => hx.trans (next_congr (Mach.submit_taken hc h20 hmax hh hl hm hr)),
      fun hl hm => hx.trans (next_congr (Mach.submit_atLimit hc h20 hmax hh hl hm))⟩
  case toggles =>
    refine ⟨exec_cmfResync ha, fun ep he => ?_, ?_, ?_, ?_⟩
    · exact exec_clearHalt_other ha he
    · exact exec_clearHalt_known ha (by decide) (Mach.clearHalt_out _)
    · exact exec_clearHalt_known ha (by decide) (Mach.clearHalt_toggle _ (by decide) (by decide) (by decide))
    · exact exec_clearHalt_known ha (by decide) (Mach.clearHalt_toggle _ (by decide) (by decide) (by decide))
  case delivered =>
    intro m
    have hm := Mach.replyAtOrigin_delivers ho hd hs hh hr rfl
    have hst : r.status ≠ 1#8 → ¬ r.status.toNat = stPending := fun h hn => h (BitVec.eq_of_toNat_eq hn)
    exact ⟨fun h => next_congr (hm.trans (if_pos (congrArg BitVec.toNat h))),
      fun h hz => next_congr (hm.trans ((if_neg (hst h)).trans (if_neg hz))),
      fun h hz => next_congr (hm.trans ((if_neg (hst h)).trans (if_pos hz)))⟩
  case pending =>
    exact ⟨fun hn h => next_congr ((Mach.commandPending_unknown hn).trans (if_neg (ne_true_of_eq_false h))),
      fun hn h => next_congr ((Mach.commandPending_unknown hn).trans (if_pos h)),
      fun r hr hp hc => next_congr (Mach.commandPending_runs hr hp hc)⟩
  · exact (exec_replyInAck ha).trans (next_congr (Mach.replyIn_sends hc ht hp))
  · exact (exec_getCmfInfo ha).trans (next_congr (if_pos hc))
  · exact (exec_notifyIn ha).trans (next_congr (Mach.notifyIn_none hc hn))
  · exact (exec_notifyIn ha).trans (next_congr (Mach.notifyIn_some hc hn))
  · exact next_congr (if_pos hd)
  · exact next_congr (Mach.replyAtOrigin_stale ho hd hn hc)

end Sys2Proof.Machine
end

section
/-! A command packet with a bad CRC-32C, and one that waits for the domain of its block (O52): every row that carries out a command makes
the checks of R390 first, on the machine, behind the crossbar (R16, log 11), at output 55, or on the whole state. -/

namespace Sys2Proof.Machine

/-! ### The checks, wherever they are made (R390) -/

section checks
variable {s : State} {c : Cmd} (hd : s.m.coreDead = false) (hg : s.m.cmd.gone.any (·.same c) = false) (hc : c.crcOk = false)
include hd hg hc

theorem Mach.serveIn_badCrc {d : Nat} (hon : s.m.domOn d = true) (l p : Bool) (f : Mach → Mach) :
    s.m.serveIn d c l p f = s.m.reply c stBadCrc :=
  (if_pos hon).trans (Mach.serve_badCrc l p f hd hg hc)

theorem Mach.serveCore_badCrc (l p : Bool) (f : Mach → Mach) : s.m.serveCore c l p f = s.m.reply c stBadCrc :=
  Mach.serve_badCrc l p _ hd hg hc

/-- A packet with a bad CRC-32C passes no check, so that what its command does to the whole state is not reached. -/
theorem State.serve_badCrc (l p : Bool) (f : State → Host.Outcome State Fault Refusal) :
    s.serve c l p f = .next { s with m := s.m.reply c stBadCrc } := by
  have hs : s.m.serves c l p = false := by rw [Mach.serves, hc]; simp
  exact (if_neg (ne_true_of_eq_false hs)).trans (next_congr (Mach.serve_badCrc l p id hd hg hc))

/-- FW_ACTIVATE resets the chip only for a packet that passed the checks. -/
theorem exec_fwActivate_badCrc : exec (.fwActivate c) s = .next { s with m := s.m.reply c stBadCrc } := by
  have hs : s.m.fwGoes c = false := by rw [Mach.fwGoes, hc]; simp
  simp only [exec, execFwActivate, hs, Bool.false_and]
  exact next_congr (Mach.serveCore_badCrc hd hg hc _ _ _)

/-- Each row by where its command is checked. -/
theorem exec_badCrc {i : Instr} (hi : i.cmd = some c)
    (hb : ∀ d, blockDomain i = some d → s.m.domOn d = true ∧ s.m.domLeaving d = false) :
    exec i s = .next { s with m := s.m.reply c stBadCrc } := by
  cases i <;> cases hi
  case fwActivate => exact exec_fwActivate_badCrc hd hg hc
  case regWr | regRmw | regWrKeyed =>
    simp only [exec, execRegWr, execRegRmw, execRegWrKeyed]
    exact State.serve_badCrc hd hg hc _ _ _
  case regRdBlock =>
    refine next_congr ?_
    simp only [Mach.regRdBlock]
    exact Mach.serve_badCrc _ _ _ hd hg hc
  case nop | echo | moduleList | lockAcquire | lockRelease | cfgCommit | faultRead | faultAck | proofTest | journalRead | fwWrite
      | chainDiscover | timeStatus =>
    exact next_congr (Mach.serveCore_badCrc hd hg hc _ _ _)
  case streamStart =>
    obtain ⟨hon, hl⟩ := hb _ rfl
    exact next_congr ((if_neg (ne_true_of_eq_false hl)).trans (Mach.serveIn_badCrc hd hg hc hon _ _ _))
  case streamDefine | streamArm | streamHalt | streamSwitch | tableWrite | tableFlip | memFill | memCrc | memStreamSet =>
    exact next_congr (Mach.serveIn_badCrc hd hg hc (hb _ rfl).1 _ _ _)
  all_goals exact next_congr (Mach.serve_badCrc _ _ _ hd hg hc)

end checks

/-! ### Commands that wait (R16, R102) -/

theorem Mach.serveIn_waits {m : Mach} {d : Nat} (hoff : m.domOn d = false) (c : Cmd) (l p : Bool) (f : Mach → Mach) :
    m.serveIn d c l p f = m := if_neg (ne_true_of_eq_false hoff)

/-- A stream's start waits for D5 to be ON, and while D5 leaves. -/
theorem Mach.streamStart_off {m : Mach} (hoff : m.domOn 5 = false) (c : Cmd) : m.streamStart c = m := by
  cases hl : m.domLeaving 5 with
  | true => exact Mach.streamStart_waits hl
  | false => exact (if_neg (ne_true_of_eq_false hl)).trans (Mach.serveIn_waits hoff _ _ _ _)

theorem exec_waits {i : Instr} {s : State} {d : Nat} (hb : blockDomain i = some d) (hoff : s.m.domOn d = false) : exec i s = .next s := by
  cases i <;> cases hb
  case streamStart => exact next_congr (Mach.streamStart_off hoff _)
  all_goals exact next_congr (Mach.serveIn_waits hoff _ _ _ _)

/-! ### The obligation -/

/-- Settles O52: the checks come first in every row, and a block that is not ON does not come to them. -/
theorem badCrcIsAnsweredBeforeAnythingElse : Obligations.BadCrcIsAnsweredBeforeAnythingElse :=
  ⟨fun _ _ _ hi hd hg hc hb => exec_badCrc hd hg hc hi hb, fun _ _ _ hb hoff => exec_waits hb hoff⟩

end Sys2Proof.Machine
end

section
/-! The commands that only read, answer, or act on a lock, a Tally block or the fault words (O25). -/

namespace Sys2Proof.Machine
open Reg

/-! ### The first-fault words (R539) -/

/-- The words of the first fault and of those after it are cleared, and the grace timer of its group stops. -/
def Mach.clearFirst (m : Mach) : Mach :=
  (forEach (upTo 4) (fun n m => m.wr (FLT_RAISED n) 0) ((m.wr FLT_FIRST 0).wr FLT_OVF 0)).cancelGrace (m.fg FLT_FIRST FLT_FIRST_group)

theorem Mach.faultAck_valid {m : Mach} {v : Word} (hf : m.fg FLT_FIRST FLT_FIRST_valid = 1) (hw : m.rg FLT_FIRST = v) :
    m.faultAck v = (true, m.clearFirst) := if_pos (by simp [hf, hw])

theorem Mach.faultAck_other {m : Mach} {v : Word} (h : m.fg FLT_FIRST FLT_FIRST_valid = 0 ∨ m.rg FLT_FIRST ≠ v) :
    m.faultAck v = (false, m) := if_neg (by obtain h | h := h <;> simp [h])

section commands
variable {m : Mach} {c : Cmd} (h1 : m.domOn 1 = true) (h3 : m.domOn 3 = true)
include h1 h3

/-! ### Answers alone (R393) -/

section bare
variable (hv : m.serves c (cmdBare c) true = true)
include hv

/-- The offset that node 0 reports is 0 (log 46). -/
theorem Mach.timeStatus_on (h6 : m.domOn 6 = true) : m.timeStatus c = m.reply c 0 0 (leBytes 8 m.ctime ++
    leBytes 4 (m.rg SHF_STAT).toNat ++ leBytes 4 (twos 32 (if m.node = 0 then 0 else sext 16 (m.fg CHN_TIME CHN_TIME_offset)))) :=
  (Mach.serveCore_of_serves _ hv h1 h3).trans (if_pos h6)

/-! ### Tally (R432) -/

theorem Mach.cfgCommit_unknown (h : ∀ i < 64, tallyBase i ≠ c.p 8 3) : m.cfgCommit c = m.reply c 0x13 := by
  have hn : (upTo 64).find? (fun i => tallyBase i == c.p 8 3) = none := by
    simpa [List.find?_eq_none, upTo] using h
  rw [Mach.cfgCommit, Mach.serveCore_of_serves _ hv h1 h3, hn]
  rfl

theorem Mach.cfgCommit_commits {i : Nat} (hi : (upTo 64).find? (fun i => tallyBase i == c.p 8 3) = some i)
    (hon : m.blockOn (tallyBase i) = true) :
    m.cfgCommit c = (m.tallyCommit i).reply c 0 (f12 ((m.tallyCommit i).rg (TLY_REF i)).toNat) := by
  rw [Mach.cfgCommit, Mach.serveCore_of_serves _ hv h1 h3, hi]
  exact if_pos hon

/-! ### FAULT_ACK (R539) -/

theorem Mach.faultAckCmd_valid (hf : m.fg FLT_FIRST FLT_FIRST_valid = 1) (hw : m.rg FLT_FIRST = BitVec.ofNat 32 (c.p 12 4)) :
    m.faultAckCmd c = m.clearFirst.reply c 0 := by
  rw [Mach.faultAckCmd, Mach.serveCore_of_serves _ hv h1 h3, Mach.faultAck_valid hf hw]
  rfl

theorem Mach.faultAckCmd_other (h : m.fg FLT_FIRST FLT_FIRST_valid = 0 ∨ m.rg FLT_FIRST ≠ BitVec.ofNat 32 (c.p 12 4)) :
    m.faultAckCmd c = m.reply c 0x13 := by
  rw [Mach.faultAckCmd, Mach.serveCore_of_serves _ hv h1 h3, Mach.faultAck_other h]
  rfl

end bare

/-! ### MODULE_LIST (R393, log 45) -/

/-- The status and payload by whether every port's domain is ON. -/
theorem Mach.moduleList_serves
    (hv : m.serves c (cmdBare c && decide (1 ≤ c.b 9 ∧ c.b 9 ≤ 32 ∧ (c.b 8 < 48 → c.b 8 + c.b 9 ≤ 48))) (decide (c.b 8 < 48)) = true) :
    m.moduleList c = if ((upTo (c.b 9)).map (c.b 8 + ·)).all (fun p => m.domOn (8 + p / 8)) then
      m.reply c 0 0 ((upTo (c.b 9)).flatMap (fun i => (upTo 8).flatMap (fun d => leBytes 4 (m.rg (PRT_DEV (c.b 8 + i) d)).toNat)))
      else m.reply c 0x07 :=
  Mach.serveCore_of_serves _ hv h1 h3

/-! ### Locks (R426, R427) -/

section locks
variable (hv : m.serves c (cmdBare c) (decide (c.b 8 < 32)) = true)
include hv

/-- Locks 0 to 3 are the processor's. -/
theorem Mach.lockAcquire_reserved (hb : c.b 8 < 4) (hc : c.chan ≠ 2#4) : m.lockAcquire c = m.reply c 0x13 :=
  (Mach.serveCore_of_serves _ hv h1 h3).trans (if_pos ⟨hb, hc⟩)

theorem Mach.lockAcquire_decides {st owner : Nat} {n : Mach} (hb : 4 ≤ c.b 8 ∨ c.chan = 2#4) (ha : m.acquire (c.b 8) c = (st, owner, n)) :
    m.lockAcquire c = n.reply c st (f12 owner) := by
  refine (Mach.serveCore_of_serves _ hv h1 h3).trans ((if_neg fun h => ?_).trans (by rw [ha]))
  exact hb.elim (Nat.not_le_of_lt h.1) h.2

theorem Mach.lockRelease_owner (hh : m.lockHeld (c.b 8) = true) (ho : m.lockOwner (c.b 8) = (c.origin.val, c.chan.toNat)) :
    m.lockRelease c = (m.fs (LCK_LOCK (c.b 8)) LCK_LOCK_state 0).reply c 0 :=
  (Mach.serveCore_of_serves _ hv h1 h3).trans (if_pos (by rw [hh, ho]; simp))

theorem Mach.lockRelease_other (h : m.lockHeld (c.b 8) = false ∨ m.lockOwner (c.b 8) ≠ (c.origin.val, c.chan.toNat)) :
    m.lockRelease c = m.reply c 0x13 :=
  (Mach.serveCore_of_serves _ hv h1 h3).trans (if_neg (by obtain h | h := h <;> simp [h]))

end locks
end commands

/-! ### The obligation -/

/-- Settles O25: each command by the checks that it passes and by what it finds. -/
theorem plainCommandsAnswer : Obligations.PlainCommandsAnswer := by
  refine ⟨fun c s h1 h3 => ⟨fun hv => ⟨?_, ?_, fun h6 => ?_, fun h => ?_, fun i hi hon => ?_, fun hf hw => ?_, fun h => ?_⟩, fun hv => ?_,
    fun hv => ⟨fun h => ?_, fun h => ?_⟩, fun hv => ⟨fun hb hc => ?_, fun st owner n hb ha => ?_, fun hh ho => ?_, fun h => ?_⟩⟩,
    fun n s hd => ?_⟩
  · exact next_congr (Mach.serveCore_of_serves _ hv h1 h3)
  · exact next_congr (Mach.serveCore_of_serves _ hv h1 h3)
  · exact next_congr (Mach.timeStatus_on h1 h3 hv h6)
  · exact next_congr (Mach.cfgCommit_unknown h1 h3 hv h)
  · exact next_congr (Mach.cfgCommit_commits h1 h3 hv hi hon)
  · exact next_congr (Mach.faultAckCmd_valid h1 h3 hv hf hw)
  · exact next_congr (Mach.faultAckCmd_other h1 h3 hv h)
  · exact next_congr (Mach.serveCore_of_serves _ hv h1 h3)
  · exact next_congr ((Mach.moduleList_serves h1 h3 hv).trans (if_pos h))
  · exact next_congr ((Mach.moduleList_serves h1 h3 hv).trans (if_neg (ne_true_of_eq_false h)))
  · exact next_congr (Mach.lockAcquire_reserved h1 h3 hv hb hc)
  · exact next_congr (Mach.lockAcquire_decides h1 h3 hv hb ha)
  · exact next_congr (Mach.lockRelease_owner h1 h3 hv hh ho)
  · exact next_congr (Mach.lockRelease_other h1 h3 hv h)
  · exact next_congr (if_neg (ne_true_of_eq_false hd))

end Sys2Proof.Machine
end

section
/-! Channel 1 and ABORT (O38): what the SMBus slave of Rind does with its five transactions (R405 to R408), and what an ABORT ends
(R398 to R400). What Rind does itself while the core die is down is log 21, the bookkeeping of an ABORT log 43. -/

namespace Sys2Proof.Machine
open Reg

/-! ### Block Write (R405, R406) -/

section write
variable {m : Mach} {bs : List Byte}

/-- A transfer of a wrong size or with a bad PEC is not acknowledged. -/
theorem Mach.smbWrite_bad {ok : Bool} (h : bs = [] ∨ 64 < bs.length ∨ ok = false) : m.smbWrite bs ok = m.emit .smbus [1] :=
  if_pos (by obtain h | h | h := h <;> simp [h])

theorem Mach.rindPump_empty (hr : m.cmd.rind = []) : m.rindPump = m := if_neg (by simp [hr])

theorem Mach.cutSmb_empty (hp : m.cmd.part1 = []) (k : Nat) : m.cutSmb k = m := by
  cases k with
  | zero => rfl
  | succ k => exact if_pos (by simp [hp])

/-- The limit of R406 lets in any transfer below it, and at it the header of an urgent command. -/
theorem Mach.smbMay_iff (hp : m.cmd.part1 = []) :
    m.smbMay bs = true ↔ m.atLimit 1 false = false ∨ (4 ≤ bs.length ∧ bitN (leAt bs 3 1) 4 = true) := by
  simp [Mach.smbMay, hp]

variable (hstop : m.boot.stop = false) (hbs : bs ≠ []) (h64 : bs.length ≤ 64)
include hstop hbs h64

/-- A good transfer is kept by Rind while it has room, or offered to the core die. -/
theorem Mach.smbWrite_good : m.smbWrite bs true =
    if !m.smbLink then
      if m.cmd.rind.length + bs.length ≤ 2048 then
        (Mach.rindTake { m with cmd := { m.cmd with rind := m.cmd.rind ++ bs } } bs).emit .smbus [0]
      else m.emit .smbus [1]
    else
      let n := m.rindPump.cutSmb (m.rindPump.cmd.part1.length + 1)
      if n.smbBlocked || !n.smbMay bs then n.emit .smbus [1] else ((n.rindTake bs).smbCross bs).emit .smbus [0] :=
  if_neg (by simp [hstop, hbs, h64])

theorem Mach.smbWrite_linkDown (hl : m.smbLink = false) : m.smbWrite bs true =
    if m.cmd.rind.length + bs.length ≤ 2048 then
      (Mach.rindTake { m with cmd := { m.cmd with rind := m.cmd.rind ++ bs } } bs).emit .smbus [0]
    else m.emit .smbus [1] :=
  (Mach.smbWrite_good hstop hbs h64).trans (if_pos (by rw [hl]; rfl))

/-- With nothing held in Rind or cut in part, the limits alone decide. -/
theorem Mach.smbWrite_linkUp (hl : m.smbLink = true) (hr : m.cmd.rind = []) (hp : m.cmd.part1 = []) : m.smbWrite bs true =
    if !m.smbMay bs then m.emit .smbus [1] else ((m.rindTake bs).smbCross bs).emit .smbus [0] := by
  have hb : m.smbBlocked = false := by rw [Mach.smbBlocked, hp]; rfl
  rw [Mach.smbWrite_good hstop hbs h64, hl, if_neg (by decide)]
  simp only [Mach.rindPump_empty hr, Mach.cutSmb_empty hp, hb, Bool.false_or]

end write

/-! ### Block Read (R405, R407) -/

section read
variable {m : Mach} {n : Nat}

theorem Mach.smbReadBlock_linkDown (hl : m.smbLink = false) : m.smbReadBlock n =
    Mach.emit { m with cmd := { m.cmd with rindOut := m.cmd.rindOut.drop (min n 64) } } .smbus [2] (m.cmd.rindOut.take (min n 64)) :=
  if_pos (by rw [hl]; rfl)

theorem Mach.smbBytes_zero (k : Nat) : m.smbBytes k 0 = ([], m) := by cases k <;> rfl

theorem Mach.smbBytes_nothing (hr : m.cmd.smbRead = []) (hq : takePacket (m.q 49).words = none) (k n : Nat) : m.smbBytes k n = ([], m) := by
  cases k with
  | zero => rfl
  | succ k => simp [Mach.smbBytes, hr, hq]

/-- A reply that was not read whole answers its next bytes, as many as the read asks for where it has them. -/
theorem Mach.smbBytes_part {k : Nat} (h1 : 1 ≤ n) (hn : n ≤ m.cmd.smbRead.length) :
    m.smbBytes (k + 1) n = (m.cmd.smbRead.take n, { m with cmd := { m.cmd with smbRead := m.cmd.smbRead.drop n } }) := by
  have hr : m.cmd.smbRead ≠ [] := by rintro h; rw [h] at hn; exact absurd (h1.trans hn) (by decide)
  have hlen : n - (m.cmd.smbRead.take n).length = 0 := by rw [List.length_take_of_le hn, Nat.sub_self]
  rw [Mach.smbBytes, if_neg (by omega), if_neg (by simpa using hr)]
  simp only [hlen, Mach.smbBytes_zero, List.append_nil]

variable (hl : m.smbLink = true)
include hl

theorem Mach.smbReadBlock_linkUp {l : List Byte} {n' : Mach} (hb : m.smbBytes 130 (min n 64) = (l, n')) :
    m.smbReadBlock n = (n'.dlSegments .core l).emit .smbus [2] l :=
  (if_neg (by rw [hl]; decide)).trans (by rw [hb])

end read

/-! ### Read Word (R405) -/

theorem Mach.smbWord_linkUp {m : Mach} (hl : m.smbLink = true) : m.smbWord = m.emit .smbus [2] (leBytes 2 (min 255 (m.q 49).packets
    + 256 * min 127 (m.outCount 1 false + m.outCount 1 true) + 2 ^ 15 * b2n (!m.cmd.part1.isEmpty))) := by
  rw [Mach.smbWord, if_pos hl]

theorem Mach.smbWord_linkDown {m : Mach} (hl : m.smbLink = false) :
    m.smbWord = m.emit .smbus [2] (leBytes 2 (b2n (!m.cmd.rindOut.isEmpty) + 2 ^ 15 * b2n (!m.cmd.rind.isEmpty))) := by
  rw [Mach.smbWord, if_neg (ne_true_of_eq_false hl)]

/-! ### ABORT (R398, R399) -/

section abort
variable {m : Mach} {c : Cmd} (hv : m.serves c (cmdBare c) true = true)
include hv

theorem Mach.abortCmd_waiting {d : Cmd} (hd : m.cmd.acc.find? (abortsIt c) = some d) : m.abortCmd c =
    Mach.reply { m.reply d 0x0D with cmd := { (m.reply d 0x0D).cmd with gone := (m.reply d 0x0D).cmd.gone ++ [d] } } c 0 := by
  rw [Mach.abortCmd, Mach.serve_of_serves _ hv, Mach.abortNow, hd]
  rfl

variable (hn : m.cmd.acc.find? (abortsIt c) = none)
include hn

theorem Mach.abortCmd_running {r : Run} (hr : m.cmd.run.find? (fun r => abortsIt c r.cmd && !r.committed) = some r) :
    m.abortCmd c = ((m.withdraw r.cmd).reply r.cmd 0x0D (m.abortFields r.cmd)).reply c 0 := by
  rw [Mach.abortCmd, Mach.serve_of_serves _ hv, Mach.abortNow, hn]
  simp only [hr]
  rfl

theorem Mach.abortCmd_nothing (hr : m.cmd.run.find? (fun r => abortsIt c r.cmd && !r.committed) = none) :
    m.abortCmd c = m.reply c 0x0C := by
  rw [Mach.abortCmd, Mach.serve_of_serves _ hv, Mach.abortNow, hn]
  simp only [hr]
  rfl

end abort

/-! ### The obligation -/

/-- Settles O38: each transaction by its transfer, by whether the core die takes segments and by what is held, ABORT by what it names. -/
theorem channelOneAndAbort : Obligations.ChannelOneAndAbort := by
  refine ⟨fun bs s => ⟨fun h ok => ?_, ?_, fun hs hb h64 hl => ?down, fun hs hb h64 hl hr hp => ?up⟩,
    fun n s => ⟨fun hl => ?_, fun hl hr hq => ?nothing, fun hl h1 h64 hn => ?part⟩,
    fun s => ⟨fun hl => ?_, fun hl => ?_, rfl, fun hd => ?_, fun hd => ?_⟩,
    fun c s hv => ⟨fun d hd => ?_, fun r hn hr => ?_, fun hn hr => ?_⟩⟩
  case down =>
    have hw := Mach.smbWrite_linkDown hs hb h64 hl
    exact ⟨fun h => next_congr (hw.trans (if_pos h)), fun h => next_congr (hw.trans (if_neg (Nat.not_le.mpr h)))⟩
  case up =>
    have hw := Mach.smbWrite_linkUp hs hb h64 hl hr hp
    refine ⟨fun h => ?_, fun ha hu => ?_⟩
    · have hm := (Mach.smbMay_iff hp).mpr h
      exact next_congr (hw.trans (if_neg (by rw [hm]; decide)))
    · have hm : s.m.smbMay bs = false := Bool.eq_false_iff.mpr fun h => by
        obtain h | ⟨-, h⟩ := (Mach.smbMay_iff hp).mp h
        · exact absurd ha (ne_true_of_eq_false h)
        · exact absurd h (ne_true_of_eq_false hu)
      exact next_congr (hw.trans (if_pos (by rw [hm]; rfl)))
  case nothing => exact next_congr (Mach.smbReadBlock_linkUp hl (Mach.smbBytes_nothing hr hq _ _))
  case part =>
    rw [← Nat.min_eq_left h64] at h1 hn
    have hb := Mach.smbReadBlock_linkUp hl (Mach.smbBytes_part h1 hn)
    exact next_congr (hb.trans (by rw [Nat.min_eq_left h64]))
  · exact next_congr (Mach.smbWrite_bad (h.imp_right .inl))
  · exact next_congr (Mach.smbWrite_bad (.inr (.inr rfl)))
  · exact next_congr (Mach.smbReadBlock_linkDown hl)
  · exact next_congr (Mach.smbWord_linkUp hl)
  · exact next_congr (Mach.smbWord_linkDown hl)
  · exact next_congr (if_pos hd)
  · exact next_congr (if_neg (ne_true_of_eq_false hd))
  · exact next_congr (Mach.abortCmd_waiting hv hd)
  · exact next_congr (Mach.abortCmd_running hv hn hr)
  · exact next_congr (Mach.abortCmd_nothing hv hn hr)

end Sys2Proof.Machine
end

section
/-! Discovery by its messages (O45): PROBE, REPORT and the answers to a topology (R467, R468), topologies and ACTIVATE (R467, R400), the
limits, link news (R474) and lost routes (R475). Messages as numbers, the hubs that stay silent and a run that starts again are log 34. -/

namespace Sys2Proof.Machine
open Reg

/-! ### PROBE -/

/-- The first PROBE of a run is noted, passed on, and answered by a REPORT. -/
def Mach.probePass (m : Mach) (k root run : Nat) : Mach :=
  let n := { m with chn := { m.chn with probed := some (root, run, k) } }
  let n := forEach ((upTo 4).filter (fun p => p != k && n.linkUp p)) (fun p n => n.emit .chainTx [p, 7, run]) n
  n.emit .chainTx ([k, 8] ++ repNums n.ownRep)

section probe
variable {m : Mach} {k root run : Nat}

theorem Mach.probeRx_linkDown (hl : m.linkUp k = false) : m.probeRx k root run = m := if_pos (by rw [hl]; rfl)

variable (hl : m.linkUp k = true)
include hl

theorem Mach.probeRx_root (hn : m.node = 0) :
    m.probeRx k root run = if root = Config.serial.toNat then m else (m.discDup 2).discAgain :=
  (if_neg (by rw [hl]; decide)).trans (if_pos hn)

variable (hn : m.node ≠ 0)
include hn

theorem Mach.probeRx_repeat {p : Nat} (hp : m.chn.probed = some (root, run, p)) : m.probeRx k root run = m := by
  rw [Mach.probeRx, if_neg (by rw [hl]; decide), if_neg hn]
  simp [hp]

theorem Mach.probeRx_first (hp : m.chn.probed = none) : m.probeRx k root run = m.probePass k root run := by
  rw [Mach.probeRx, if_neg (by rw [hl]; decide), if_neg hn]
  simp only [hp]
  rfl

end probe

/-! ### REPORT and the answers to a topology -/

/-- Every hub of the new topology but node 0 has answered. -/
def Disc.allAnswered (d : Disc) : Bool := (topoNodes d.reports).all (fun n => n == 0 || d.answered.contains n)

section report
variable {m : Mach}

section other
variable (hn : m.node ≠ 0)
include hn

theorem Mach.reportRx_unprobed (hp : m.chn.probed = none) (x : DiscMsg) : m.reportRx x = m := by
  refine (if_pos hn).trans ?_
  rw [hp]

theorem Mach.reportRx_passes {a b p : Nat} (hp : m.chn.probed = some (a, b, p)) (hl : m.linkUp p = true) (r : NodeRep) :
    m.reportRx (.report r) = m.emit .chainTx ([p, 8] ++ repNums r) := by
  refine (if_pos hn).trans ?_
  rw [hp]
  exact if_pos hl

end other

section root
variable (hn : m.node = 0) {d : Disc} (hd : m.chn.disc = some d)
include hn hd

/-- The first REPORT of a node in this run joins the others. -/
theorem Mach.reportRx_first (hph : d.phase = 3) {r : NodeRep} (hf : d.reports.find? (fun e => e.node == r.node) = none) :
    m.reportRx (.report r) = (m.discCheck { d with reports := d.reports ++ [r] }).discAgain := by
  refine (if_neg (not_not_intro hn)).trans ?_
  simp only [hd, hf]
  exact if_neg (not_not_intro hph)

/-- A second hub that reports the same node is a duplicate (R468). -/
theorem Mach.reportRx_duplicate (hph : d.phase = 3) {r e : NodeRep} (hf : d.reports.find? (fun e => e.node == r.node) = some e)
    (hs : e.serial ≠ r.serial) : m.reportRx (.report r) = (m.discDup 1).discAgain := by
  refine (if_neg (not_not_intro hn)).trans ?_
  simp only [hd, hf]
  exact (if_neg (not_not_intro hph)).trans (if_neg hs)

theorem Mach.reportRx_answer (hph : d.phase = 5) (n : Fin 32) : m.reportRx (.answer n) =
    if Disc.allAnswered { d with answered := d.answered ++ [n.val] } then
      (m.discActivate { d with answered := d.answered ++ [n.val] }).discAgain
    else m.setDisc (some { d with answered := d.answered ++ [n.val] }) := by
  refine (if_neg (not_not_intro hn)).trans ?_
  rw [hd]
  exact if_neg (not_not_intro hph)

end root
end report

/-! ### Topologies and ACTIVATE -/

theorem Mach.topologyRx_answered {m : Mach} {a b p : Nat} (hp : m.chn.probed = some (a, b, p)) (hl : m.linkUp p = true) (t : TopoMsg) :
    m.topologyRx (some t) = Mach.emit { m with chn := { m.chn with pend := some t } } .chainTx [p, 9, m.node] := by
  simp only [Mach.topologyRx, hp]
  exact if_pos hl

theorem Mach.activateRx_none {m : Mach} (hp : m.chn.pend = none) : m.activateRx = m := by rw [Mach.activateRx, hp]

theorem Mach.activateRx_installs {m : Mach} {t : TopoMsg} (hp : m.chn.pend = some t) :
    m.activateRx = (forEach t.children (fun k m => m.emit .chainTx [k.val, 10]) m).install t := by rw [Mach.activateRx, hp]

/-! ### Limits, link news and lost routes -/

section timeout
variable {m : Mach}

theorem Mach.discTimeout_none (hd : m.chn.disc = none) : m.discTimeout = m := by rw [Mach.discTimeout, hd]

variable {d : Disc} (hd : m.chn.disc = some d)
include hd

theorem Mach.discTimeout_ports (hph : d.phase = 1) : m.discTimeout = (m.discProbe d).discAgain := by
  rw [Mach.discTimeout, hd]
  simp only [hph]

theorem Mach.discTimeout_reports (hph : d.phase = 3) : m.discTimeout = (m.discSend { d with silent := true }).discAgain := by
  rw [Mach.discTimeout, hd]
  simp only [hph]

/-- A hub that has not answered its topology is left out of it. -/
theorem Mach.discTimeout_answers (hph : d.phase = 5) : m.discTimeout = (m.discActivate { d with
    silent := true, reports := d.reports.filter (fun r => r.node == 0 || d.answered.contains r.node.val) }).discAgain := by
  rw [Mach.discTimeout, hd]
  simp only [hph]

theorem Mach.linkNews_waiting (hn : m.node = 0) (hph : d.phase = 1) : m.linkNews = m.discWait d := by
  rw [Mach.linkNews, if_neg (by simp [hn]), hd]
  exact if_pos hph

end timeout

theorem Mach.linkNews_other {m : Mach} (hn : m.node ≠ 0) : m.linkNews = m := if_pos (by simp [hn])

theorem Mach.routesLost_kept {m : Mach} (h : m.node = 0 ∨ m.joined = false) : m.routesLost = m :=
  if_pos (by obtain h | h := h <;> simp [h])

theorem Mach.routesLost_clears {m : Mach} (hn : m.node ≠ 0) (hj : m.joined = true) (hr : m.routePort 0 = none) :
    m.routesLost = forEach m.otherNodes (fun n m => (m.wr (CHN_ROUTE n) 0).nodeUnreachable n) m :=
  if_neg (by simp [hn, hj, hr])

/-! ### The obligation -/

/-- Settles O45: each message by the hub that it reaches and by the run that it belongs to. -/
theorem discoveryMessagesInstallTopologies : Obligations.DiscoveryMessagesInstallTopologies := by
  refine ⟨fun k root run s => ⟨fun hl => ?_, fun hl hn => ⟨fun hr => ?_, fun hr => ?_⟩, fun hl hn => ⟨fun p hp => ?_, fun hp => ?_⟩⟩,
    fun r s => ⟨fun hn hp => ?_, fun a b p hn hp hl => ?_, fun d hn hd hph hf => ?_, fun d e hn hd hph hf hs => ?_⟩,
    fun n d s hn hd hph => ?answer,
    fun s => ⟨rfl, fun t a b p hp hl => ?_, fun hp => ?_, fun t hp => ?_⟩,
    fun s => ⟨fun hd => ?_, fun d hd => ⟨fun h => ?_, fun h => ?_, fun h => ?_, fun hn h => ?_⟩,
      fun hn => ?_, fun h => ?_, fun hn hj hr => ?_⟩⟩
  case answer =>
    have ha := Mach.reportRx_answer hn hd hph n
    exact ⟨fun h => next_congr (ha.trans (if_pos h)), fun h => next_congr (ha.trans (if_neg (ne_true_of_eq_false h)))⟩
  · exact next_congr (Mach.probeRx_linkDown hl)
  · exact next_congr ((Mach.probeRx_root hl hn).trans (if_pos (congrArg BitVec.toNat hr)))
  · exact next_congr ((Mach.probeRx_root hl hn).trans (if_neg fun h => hr (BitVec.eq_of_toNat_eq h)))
  · exact next_congr (Mach.probeRx_repeat hl hn hp)
  · exact next_congr (Mach.probeRx_first hl hn hp)
  · exact next_congr (Mach.reportRx_unprobed hn hp _)
  · exact next_congr (Mach.reportRx_passes hn hp hl r)
  · exact next_congr (Mach.reportRx_first hn hd hph hf)
  · exact next_congr (Mach.reportRx_duplicate hn hd hph hf hs)
  · exact next_congr (Mach.topologyRx_answered hp hl t)
  · exact next_congr (Mach.activateRx_none hp)
  · exact next_congr (Mach.activateRx_installs hp)
  · exact next_congr (Mach.discTimeout_none hd)
  · exact next_congr (Mach.discTimeout_ports hd h)
  · exact next_congr (Mach.discTimeout_reports hd h)
  · exact next_congr (Mach.discTimeout_answers hd h)
  · exact next_congr (Mach.linkNews_waiting hd hn h)
  · exact next_congr (Mach.linkNews_other hn)
  · exact next_congr (Mach.routesLost_kept h)
  · exact next_congr (Mach.routesLost_clears hn hj hr)

end Sys2Proof.Machine
end

section
/-! The other resets, the watchdog, boot steps, the journal and the firmware slots (O46). The records of S0 and the wait of S11 are log 29,
what a FW_WRITE programs log 30, a reset that a warm-retain reset keeps out log 28. -/

namespace Sys2Proof.Machine
open Reg

/-! ### Resets (R576, R577, R580, R612) -/

theorem exec_coldReset_short {ns : Nat} (h : ns < 800) (st : BitVec 4) (s : State) : exec (.coldReset st ns) s = .next s := if_pos h

theorem exec_coldReset_long {ns : Nat} (h : 1000 ≤ ns) (st : BitVec 4) (s : State) : exec (.coldReset st ns) s =
    .next { s.chipReset rsCold 0 false with m := (s.chipReset rsCold 0 false).m.sampleStraps st.toNat } :=
  (if_neg (by omega)).trans (if_pos h)

section watchdog
variable {s : State}

theorem exec_watchdog_stopped (hr : s.m.wdogRuns = false) : exec .watchdogExpiry s = .next s := if_pos (by rw [hr]; rfl)

variable (hr : s.m.wdogRuns = true)
include hr

theorem exec_watchdog_first (ho : s.m.boot.wdogOnce = false) : exec .watchdogExpiry s =
    .next { s with m := (s.m.boots (fun b => { b with wdogOnce := true })).raise 0x74 0 } :=
  (if_neg (by rw [hr]; decide)).trans (if_neg (ne_true_of_eq_false ho))

theorem exec_watchdog_second (ho : s.m.boot.wdogOnce = true) : exec .watchdogExpiry s =
    .next (if s.m.boot.retaining then s else s.chipReset rsWatchdog 0 false) :=
  (if_neg (by rw [hr]; decide)).trans (if_pos ho)

end watchdog

/-! ### Boot steps (R582, R583) -/

section boot
variable {m : Mach} {x : BootRes}

theorem Mach.bootStepEnd_none (h : m.boot.step = none) : m.bootStepEnd x = m := by rw [Mach.bootStepEnd, h]

theorem Mach.bootStepEnd_s0 (h : m.boot.step = some 0) : m.bootStepEnd x = m.endS0 x := by
  rw [Mach.bootStepEnd, h]
  rfl

/-- The reset's cause and the start of S0 stand in the journal before its first outcome. -/
def Mach.startedS0 (m : Mach) (x : BootRes) : Mach :=
  (if m.boot.index = 0 then m.causeRecord.journal 0 jStart 1 0 else m).bootTime x.time.toNat

theorem Mach.endS0_fail (hx : x.pass = false) : m.endS0 x = (m.startedS0 x).journal 0 jFail 1 x.detail.toNat :=
  if_pos (by rw [hx]; rfl)

theorem Mach.endS0_pass (hx : x.pass = true) :
    m.endS0 x = if m.pdi.badSupply.isEmpty then (m.startedS0 x).stepPass 0 x else m.bootTime x.time.toNat :=
  if_neg (by rw [hx]; decide)

theorem Mach.bootStepEnd_s1 (h : m.boot.step = some 1) : m.bootStepEnd x =
    if x.pass then (m.bootTime x.time.toNat).collectorStart.stepPass 1 x else (m.bootTime x.time.toNat).bootStop 1 1 x.detail.toNat := by
  rw [Mach.bootStepEnd, h]
  rfl

theorem Mach.bootStepEnd_s7 (h : m.boot.step = some 7) (hx : x.pass = true) :
    m.bootStepEnd x = (m.bootTime x.time.toNat).stepPass 7 x := by
  rw [Mach.bootStepEnd, h]
  exact if_pos hx

theorem Mach.bootStepEnd_s11 (h : m.boot.step = some 11) : m.bootStepEnd x =
    if (m.bootTime x.time.toNat).fg HUB_STAT HUB_STAT_vbus_det == 1 then
      ((m.bootTime x.time.toNat).journal 11 jPass 1 x.detail.toNat).bootComplete
    else m.bootTime x.time.toNat := by
  rw [Mach.bootStepEnd, h]
  rfl

end boot

/-! ### The firmware slots (R396, R588) -/

theorem Mach.fwDone_none {m : Mach} (h : m.boot.fw = []) : m.fwDone = m := by rw [Mach.fwDone, h]

theorem Mach.fwDone_some {m : Mach} {c : Cmd} {l : List Cmd} (h : m.boot.fw = c :: l) : m.fwDone =
    Mach.reply { m with boot := { m.boot with
      fw := l, slots := slotWrite m.boot.slots (fwAddr c) c.payload
      invalid := if c.p 12 4 = 0 then m.boot.invalid.filter (· != fwSlot c) else m.boot.invalid } } c 0 := by
  rw [Mach.fwDone, h]
  rfl

section firmware
variable {m : Mach} {c : Cmd} (h1 : m.domOn 1 = true) (h3 : m.domOn 3 = true)
include h1 h3

section write
variable (hv : m.serves c (decide (4 ≤ c.payload.length ∧ c.payload.length ≤ 1024 ∧ c.p 12 4 + c.payload.length ≤ 2 ^ 22))
  (decide (c.b 8 ≤ 1)) = true)
include hv

/-- The running slot is not written. -/
theorem Mach.fwWrite_serves : m.fwWrite c = if m.boot.slot = some (fwSlot c) then m.reply c 0x13
    else (m.startRun { cmd := c }).boots (fun b => { b with fw := b.fw ++ [c] }) :=
  Mach.serveCore_of_serves _ hv h1 h3

end write

variable (hv : m.serves c (cmdBare c) (decide (c.b 8 ≤ 1)) = true)
include hv

/-- The slot is authenticated, and its result shown. -/
theorem Mach.fwActivate_serves : m.fwActivate c =
    if m.authSlot (c.b 8) = 0 then ((m.fs (JNL_SLOT (c.b 8)) JNL_SLOT_result (m.authSlot (c.b 8))).fwMark (c.b 8)).reply c 0
    else (m.fs (JNL_SLOT (c.b 8)) JNL_SLOT_result (m.authSlot (c.b 8))).reply c 0x13 (m.authSlot (c.b 8)) :=
  Mach.serveCore_of_serves _ hv h1 h3

/-- A FW_ACTIVATE that passes the checks goes through where its slot authenticates. -/
theorem Mach.fwGoes_serves : m.fwGoes c = (m.authSlot (c.b 8) == 0) := by
  simp only [Mach.serves, Mach.coreDead, Bool.and_eq_true] at hv
  obtain ⟨⟨⟨⟨⟨hd, hg⟩, hc⟩, hl⟩, hp⟩, hr⟩ := hv
  rw [Bool.not_or, Bool.and_eq_true] at hd
  obtain ⟨hs, ho⟩ := hd
  rw [Bool.not_and, Bool.not_not] at hr
  simp only [Mach.fwGoes, hs, ho, hg, hc, hl, hp, hr, Mach.portOn, h1, h3, Bool.and_self, Bool.or_true, Bool.true_and]

end firmware

theorem exec_fwActivate {s : State} {c : Cmd} (h1 : s.m.domOn 1 = true) (h3 : s.m.domOn 3 = true)
    (hv : s.m.serves c (cmdBare c) (decide (c.b 8 ≤ 1)) = true) : exec (.fwActivate c) s =
    .next (if (s.m.authSlot (c.b 8) == 0) && !s.m.boot.retaining then State.chipReset { s with m := s.m.fwActivate c } rsFwActivate 0 false
      else { s with m := s.m.fwActivate c }) := by
  simp only [exec, execFwActivate, Mach.fwGoes_serves h1 h3 hv]

/-! ### The obligation -/

/-- Settles O46: each reset by its cause, the watchdog by the expiries before, a boot step by its outcome, the firmware slots by what they
hold. -/
theorem resetsBootAndFirmware : Obligations.ResetsBootAndFirmware := by
  refine ⟨fun st s => ⟨rfl, fun ns h => exec_coldReset_short h st s, fun ns h => exec_coldReset_long h st s⟩,
    fun cause r s b => ⟨State.chipReset_guard .., State.chipReset_pending .., fun h => ?_, ?_⟩,
    fun s => ⟨exec_watchdog_stopped, exec_watchdog_first, fun hr ho => ⟨fun h => ?_, fun h => ?_⟩, rfl⟩, fun x s => ?steps,
    fun s => ⟨fun h => next_congr (Mach.fwDone_none h), fun c l h => next_congr (Mach.fwDone_some h)⟩,
    fun c s h1 h3 => ⟨fun hv => next_congr (Mach.serveCore_of_serves _ hv h1 h3),
      fun hv => ⟨fun h => ?_, fun h => ?_⟩, fun hv => ?activate⟩⟩
  case steps =>
    intro m
    refine ⟨fun h => ?_, fun h => ⟨fun hx => ?_, fun hx hb => ?_, fun hx hb => ?_⟩, fun h hx => ?_, fun h hx => ?_, fun h hx => ?_,
      fun h hd => ?_, fun h hd => ?_⟩
    · exact next_congr (Mach.bootStepEnd_none h)
    · exact next_congr ((Mach.bootStepEnd_s0 h).trans (Mach.endS0_fail hx))
    · exact next_congr ((Mach.bootStepEnd_s0 h).trans ((Mach.endS0_pass hx).trans (if_pos (by rw [hb]; rfl))))
    · exact next_congr ((Mach.bootStepEnd_s0 h).trans ((Mach.endS0_pass hx).trans (if_neg (by simpa using hb))))
    · exact next_congr ((Mach.bootStepEnd_s1 h).trans (if_pos hx))
    · exact next_congr ((Mach.bootStepEnd_s1 h).trans (if_neg (ne_true_of_eq_false hx)))
    · exact next_congr (Mach.bootStepEnd_s7 h hx)
    · exact next_congr ((Mach.bootStepEnd_s11 h).trans (if_pos (beq_iff_eq.mpr hd)))
    · exact next_congr ((Mach.bootStepEnd_s11 h).trans (if_neg (by rw [hd]; decide)))
  case activate =>
    intro m
    have hx := exec_fwActivate h1 h3 hv
    have hm := Mach.fwActivate_serves h1 h3 hv
    refine ⟨fun ha => ?_, fun ha hr => ?_, fun ha hr => ?_⟩
    · rw [hx, if_neg (by simp [ha]), hm, if_neg ha]
    · rw [hx, if_neg (by simp [hr]), hm, if_pos ha]
    · rw [hx, if_pos (by simp [ha, hr]), hm, if_pos ha]
  · exact (State.chipReset_dram ..).trans (if_neg h)
  · exact (State.chipReset_dram ..).trans (if_pos rfl)
  · exact (exec_watchdog_second hr ho).trans (by rw [h]; rfl)
  · exact (exec_watchdog_second hr ho).trans (by rw [h]; rfl)
  · exact next_congr ((Mach.fwWrite_serves h1 h3 hv).trans (if_pos h))
  · exact next_congr ((Mach.fwWrite_serves h1 h3 hv).trans (if_neg h))

end Sys2Proof.Machine
end

section
/-! The lock bits of GLB_GUARD (O47): no row clears one but in a chip reset, whatever its kind, and a write sets those written 1 (R423). -/

namespace Sys2Proof.Machine
open Reg

/-! ### What a step leaves of the lock bits -/

/-- Every lock bit that was set is still set, or the chip was reset. -/
def LocksLast (s t : State) : Prop := (∀ g, s.guard.getLsbD g = true → t.guard.getLsbD g = true) ∨ Restarted t

theorem locksLast_of_eq {s t : State} (h : t.guard = s.guard) : LocksLast s t := .inl fun _ hg => h ▸ hg

theorem locksLast_of_or {s t : State} (k : BitVec 7) (h : t.guard = s.guard ||| k) : LocksLast s t :=
  .inl fun _ hg => by rw [h, BitVec.getLsbD_or, hg, Bool.true_or]

section ends
variable {s t : State} {o : Host.Outcome State Fault Refusal} (ht : o = .next t)
include ht

theorem Quiet.locksLast (h : Quiet s o) : LocksLast s t := by
  obtain ⟨m, rfl⟩ := h
  cases ht
  exact locksLast_of_eq rfl

theorem Resets.locksLast (h : Resets s o) : LocksLast s t := by
  obtain hq | ⟨u, rfl, hr, -⟩ := h
  · exact hq.locksLast ht
  · cases ht
    exact .inr hr

theorem WriteEnds.locksLast (h : WriteEnds s o) : LocksLast s t := by
  obtain ⟨a, rfl⟩ | ⟨m, k, rfl⟩ | ⟨u, rfl, hr, -⟩ := h <;> cases ht
  · exact locksLast_of_or k rfl
  · exact .inr hr

end ends

/-- A command, by its kind: only a register write sets lock bits, and only a reset clears them. -/
theorem exec_locksLast {c : Instr} {s t : State} (ht : exec c s = .next t) : LocksLast s t := by
  cases hw : writesRegister c with
  | true => exact (exec_writes c s hw).locksLast ht
  | false =>
    cases hf : firesCams c with
    | true =>
      obtain ⟨n, hn⟩ | hq := exec_cams c s hf
      · rw [hn] at ht; cases ht
      · exact hq.locksLast ht
    | false =>
      cases hd : writesDram c with
      | true =>
        obtain ⟨m, d, hm, -⟩ := exec_dram c s hd
        rw [hm] at ht
        cases ht
        exact locksLast_of_eq rfl
      | false =>
        cases hr : resetsChip c with
        | true => exact (exec_resets c s hr).locksLast ht
        | false => exact (exec_quiet c s hw hf hd hr).locksLast ht

theorem step_locksLast {s t : State} (ht : step s = .next t) : LocksLast s t := by
  cases hp : s.pending with
  | nil =>
    rw [step_nil hp] at ht
    cases ht
    exact locksLast_of_eq rfl
  | cons c rest =>
    rw [step_cons hp] at ht
    exact exec_locksLast (s := { s with pending := rest }) ht

/-! ### A write of GLB_GUARD -/

theorem info_guard : siteInfo GLB_GUARD = some (.guardLock, false, none) := by decide

/-- The end of an accepted write of GLB_GUARD sets the bits written 1. -/
theorem State.regEnd_guard (s : State) (v : Word) (n : Mach) (f : Mach → Mach) :
    s.regEnd GLB_GUARD v (0, n) f = .next { s with m := f n, guard := s.guard ||| v.setWidth 7 } :=
  (if_neg (show (0 : Nat) ≠ stReserved by decide)).trans (if_neg (by rintro ⟨-, h, -⟩; exact absurd h (by decide)))

theorem put_guard {s : State} {a : Acc} {v : Word} (h : Reaches s a GLB_GUARD true) :
    s.put a GLB_GUARD v 15 = .next { s with m := s.m.answer a 0 0, guard := s.guard ||| v.setWidth 7 } := by
  have ⟨_, _, hgate, _⟩ := h
  rw [put_eq h (guard_of_info info_guard) (Mach.pdiWaits_plain (by decide) _ _ _),
    Mach.regWrite_accepts hgate (by decide) (Mach.siteAt_of_info info_guard (by decide)) (guard_of_info info_guard) rfl rfl,
    Mach.markConfig_plain info_guard]
  exact State.regEnd_guard s v s.m _

/-- Settles O47: `step_locksLast` for every step, and a write of GLB_GUARD by the end of its register-port write. -/
theorem lockBitsLastUntilAChipReset : Obligations.LockBitsLastUntilAChipReset :=
  ⟨fun _ _ => step_locksLast, fun _ _ _ => put_guard⟩

end Sys2Proof.Machine
end

section
/-! Writes of FLT_ACK, FLT_HANDLED, FLT_CTRL and FLT_INJ (O21; R411, R539, R541, R544, R547, R557, R575). -/

namespace Sys2Proof.Machine
open Reg

/-! ### FLT_ACK (R539) -/

theorem Mach.blockRule_fltAck (m : Mach) (own : Bool) (v : Word) :
    m.blockRule own v .fltAck = if (m.faultAck v).1 then none else some 0x13 := rfl

theorem Mach.writeEffect_fltAck (m : Mach) (a be : Nat) (v : Word) : m.writeEffect a v be .fltAck = (0, (m.faultAck v).2) := rfl

/-! ### A release (R547) -/

/-- What a release ends: the escalation, the stop of playout, HOOPS_OFF and the freeze of ALIVE. -/
def Mach.released (m : Mach) : Mach :=
  let m := ((m.fs FLT_PEND FLT_PEND_escalated 0).fs FLT_STAT FLT_STAT_stop_playout 0).fs REN_STAT REN_STAT_stop 0
  let m := (m.fs FLT_STAT FLT_STAT_hoops_off 0).fs FLT_STAT FLT_STAT_alive_frozen 0
  if m.dl.inService = true then m.hoopsOffOut else m

theorem Mach.release_accepted {m : Mach} (hf : m.fg FLT_FIRST FLT_FIRST_valid = 0) (hr : m.fg FLT_PEND FLT_PEND_running = 0)
    (hc : m.classAPersists = false) (hh : m.fg FLT_STAT FLT_STAT_hb_stop = 0) : m.release = (true, m.released) :=
  if_pos (by simp [hf, hr, hc, hh])

theorem Mach.release_refused {m : Mach} (h : m.fg FLT_FIRST FLT_FIRST_valid ≠ 0 ∨ m.fg FLT_PEND FLT_PEND_running ≠ 0 ∨
    m.classAPersists = true ∨ m.fg FLT_STAT FLT_STAT_hb_stop ≠ 0) : m.release = (false, m) :=
  if_neg (by obtain h | h | h | h := h <;> simp [h])

theorem Mach.blockRule_release (m : Mach) (own : Bool) : m.blockRule own 1#32 .fltCtrl = if m.release.1 then none else some 0x13 := by
  cases h : m.release.1 <;> simp [Mach.blockRule, h, stBadState]

theorem Mach.writeEffect_release (m : Mach) (a be : Nat) : m.writeEffect a 1#32 be .fltCtrl = (0, m.release.2) := rfl

/-! ### FLT_INJ (R557, R575) -/

section reserved
variable {m : Mach} {g ch addr be : Nat} {d : Bool} {v : Word}

/-- Off the die link a register-port write that passes checks 1 to 3 comes to checks 4 to 7. -/
theorem Mach.regWrite_plain {k : Option Bool} (h : m.accessGate ch d addr (some be) = none) (hp : isPdi addr = false) :
    m.regWrite g ch d k addr v be = m.writeWord g (d || ch == 2) k addr v be := by
  rw [Mach.regWrite, h]
  simp only [Mach.overLink_plain hp]

/-- A plain write of a reserved address has no effect (R410). -/
theorem Mach.writeWord_reserved {own : Bool} (h : m.siteAt addr = none) : m.writeWord g own none addr v be = (0, m) := by
  simp only [Mach.writeWord, h]
  rfl

end reserved

theorem Mach.siteAt_fltInj_reserved {m : Mach} (h : m.fg FLT_STAT FLT_STAT_factory = 0) : m.siteAt FLT_INJ = none :=
  if_pos ⟨rfl, h⟩

theorem Mach.siteAt_fltInj_factory {m : Mach} (h : m.fg FLT_STAT FLT_STAT_factory = 1) : m.siteAt FLT_INJ = some .fltInj :=
  (if_neg (by simp [h])).trans (siteOf_of_info info_fltInj)

section put
variable {s : State} {a : Acc} {v : Word}

theorem put_reserved {addr : Nat} (h : Reaches s a addr true) (hp : isPdi addr = false) (hs : s.m.siteAt addr = none)
    (hg : (regRow addr).bind (·.guard) = none) (hj : addr ≠ JNL_RESET) (hl : addr ≠ GLB_GUARD) :
    s.put a addr v 15 = .next { s with m := s.m.answer a 0 0 } := by
  have ⟨_, _, hgate, _⟩ := h
  rw [put_eq h hg (Mach.pdiWaits_plain hp _ _ _), Mach.regWrite_plain hgate hp, Mach.writeWord_reserved hs]
  exact State.regEnd_plain (show (0 : Nat) ≠ 0x100 by decide) (.inl hj) (.inl hl)

theorem put_fltInj (h : Reaches s a FLT_INJ true) (hf : s.m.fg FLT_STAT FLT_STAT_factory = 1) :
    s.put a FLT_INJ v 15 = .next { s with m := (s.m.fltInject v).answer a 0 0 } := by
  rw [put_of_reaches h (by decide) (Mach.siteAt_fltInj_factory hf) (guard_of_info info_fltInj) rfl rfl (by decide) (by decide),
    Mach.markConfig_plain info_fltInj]
  rfl

end put

/-! ### The obligation -/

/-- Settles O21: each register's write reaches it, and its block accepts or refuses it as its rule says. -/
theorem faultRegistersFollowTheirRules : Obligations.FaultRegistersFollowTheirRules := by
  refine fun a v s => ⟨fun h => ⟨fun hf hw => ?_, fun hn => ?_⟩, fun h => ?_, fun h => ⟨fun hn => ?_, fun hf hr hc hh => ?_⟩,
    fun h => ⟨fun hf => ?_, put_fltInj h⟩⟩
  · exact put_unmarked h (by decide) info_fltAck (by rw [Mach.blockRule_fltAck, Mach.faultAck_valid hf hw]; rfl)
      (by rw [Mach.writeEffect_fltAck, Mach.faultAck_valid hf hw]; rfl)
  · exact put_badState h (by decide) info_fltAck (by rw [Mach.blockRule_fltAck, Mach.faultAck_other hn]; rfl)
  · exact put_unmarked h (by decide) info_fltHandled rfl rfl
  · exact put_badState h (by decide) info_fltCtrl (by rw [Mach.blockRule_release, Mach.release_refused hn]; rfl)
  · exact put_unmarked h (by decide) info_fltCtrl (by rw [Mach.blockRule_release, Mach.release_accepted hf hr hc hh]; rfl)
      (by rw [Mach.writeEffect_release, Mach.release_accepted hf hr hc hh]; rfl)
  · exact put_reserved h (by decide) (Mach.siteAt_fltInj_reserved hf) (guard_of_info info_fltInj) (by decide) (by decide)

end Sys2Proof.Machine
end

section
/-! Writes of JNL_RESET (O22): its confirmation (R577), the warm reset and the warm-retain reset (R578, R579, R581). That the reset
happens in the step of the write, that warm-retain waits for D4, and that both rows are ignored meanwhile, is log 28. -/

namespace Sys2Proof.Machine
open Reg

/-! ### The word written -/

/-- The confirmation stands above the mode. -/
theorem resetWord_toNat (k : BitVec 8) {d : Nat} (hd : d < 256) : (BitVec.ofNat 32 (k.toNat * 256 + d)).toNat = k.toNat * 256 + d := by
  rw [BitVec.toNat_ofNat]
  exact Nat.mod_eq_of_lt (by have := k.isLt; omega)

theorem resetWord_confirm (k : BitVec 8) {d : Nat} (hd : d < 256) :
    (BitVec.ofNat 32 (k.toNat * 256 + d)).toNat / 256 % 256 = k.toNat := by
  rw [resetWord_toNat k hd]
  have := k.isLt
  omega

theorem resetWord_mode (k : BitVec 8) {d : Nat} (hd : d < 4) : (BitVec.ofNat 32 (k.toNat * 256 + d)).toNat % 4 = d := by
  rw [resetWord_toNat k (by omega)]
  omega

/-! ### What the resets leave -/

theorem State.chipReset_warm (s : State) (r : Nat) (b : Bool) :
    s.chipReset rsWarm r b = { s with m := s.m.chipReset rsWarm r b, dram := [], guard := 0 } := rfl

theorem State.warmRetain_waits {s : State} (b : Bool) (h : s.m.retainStops.retainWaits = true) :
    s.warmRetain b = { s with m := s.m.retainStops.retainEnter } := if_pos h

theorem State.warmRetain_now {s : State} (b : Bool) (h : s.m.retainStops.retainWaits = false) :
    s.warmRetain b = ({ s with m := s.m.retainStops } : State).retainReset b s.m.retainStops.retainRefuser :=
  if_neg (ne_true_of_eq_false h)

/-- Retained or refused, it is a chip reset. -/
theorem State.retainReset_rest (s : State) (b : Bool) (o : Option Nat) :
    (s.retainReset b o).guard = 0 ∧ (s.retainReset b o).pending = s.pending := by
  obtain ⟨m, c, r, -, he⟩ := s.retainReset_eq b o
  rw [he]
  exact ⟨State.chipReset_guard .., State.chipReset_pending ..⟩

/-! ### The write -/

section put
variable {s : State} {a : Acc} {v : Word} (h : Reaches s a JNL_RESET true)
include h

/-- Another confirmation (R577). -/
theorem put_reset_refused (hv : v.toNat / 256 % 256 ≠ 0xC3) : s.put a JNL_RESET v 15 = .next { s with m := s.m.answer a 0x13 0 } :=
  put_refused h (by decide) (Mach.siteAt_of_info info_jnlReset (by decide)) (guard_of_info info_jnlReset)
    (if_neg fun hb => hv hb.1) (by decide) (by decide)

/-- While a warm-retain reset waits, a further one is ignored (R579, log 28). -/
theorem put_reset_ignored (hr : s.m.boot.retaining = true) (hv : v.toNat / 256 % 256 = 0xC3) (hk : v.toNat % 4 = 1 ∨ v.toNat % 4 = 2) :
    s.put a JNL_RESET v 15 = .next { s with m := s.m.answer a 0 0 } := by
  have ⟨_, _, hgate, _⟩ := h
  rw [put_eq h (guard_of_info info_jnlReset) (Mach.pdiWaits_plain (by decide) _ _ _),
    Mach.regWrite_accepts hgate (by decide) (Mach.siteAt_of_info info_jnlReset (by decide)) (guard_of_info info_jnlReset)
      (if_pos ⟨hv, hk⟩) rfl, Mach.markConfig_plain info_jnlReset]
  exact (if_neg (show (0 : Nat) ≠ stReserved by decide)).trans (if_neg (by simp [hr]))

section accepted
variable (hr : s.m.boot.retaining = false) (hv : v.toNat / 256 % 256 = 0xC3)
include hr hv

theorem put_warm (hk : v.toNat % 4 = 1) :
    s.put a JNL_RESET v 15 = .next { s with m := (s.m.answer a 0 0).chipReset rsWarm 0 true, dram := [], guard := 0 } :=
  (put_reset h hr hv (.inl hk)).trans (congrArg _ (if_neg (by rw [hk]; decide)))

theorem put_warmRetain (hk : v.toNat % 4 = 2) :
    s.put a JNL_RESET v 15 = .next (({ s with m := s.m.answer a 0 0 } : State).warmRetain true) :=
  (put_reset h hr hv (.inr hk)).trans (congrArg _ (if_pos hk))

end accepted
end put

/-! ### The obligation -/

/-- Settles O22: by the confirmation, and by whether a warm-retain reset waits already. -/
theorem resetRegisterResets : Obligations.ResetRegisterResets := by
  intro a k s h
  have hm : ∀ d < 4, (BitVec.ofNat 32 (k.toNat * 256 + d)).toNat % 4 = d := fun d hd => resetWord_mode k hd
  have hc : ∀ d < 4, (BitVec.ofNat 32 (k.toNat * 256 + d)).toNat / 256 % 256 = k.toNat := fun d hd => resetWord_confirm k (by omega)
  refine ⟨fun hk hr => ?waiting, ?resets, fun hk => ?refused⟩
  case waiting =>
    have hk' : k.toNat = 0xC3 := congrArg BitVec.toNat hk
    exact ⟨put_reset_ignored h hr ((hc 1 (by decide)).trans hk') (.inl (hm 1 (by decide))),
      put_reset_ignored h hr ((hc 2 (by decide)).trans hk') (.inr (hm 2 (by decide)))⟩
  case resets =>
    intro hk hr n
    have hk' : k.toNat = 0xC3 := congrArg BitVec.toNat hk
    have hretain := put_warmRetain h hr ((hc 2 (by decide)).trans hk') (hm 2 (by decide))
    refine ⟨put_warm h hr ((hc 1 (by decide)).trans hk') (hm 1 (by decide)), fun hw => ?_, fun hw => ⟨_, ?_, rfl, ?_⟩⟩
    · exact hretain.trans (congrArg _ (State.warmRetain_waits (s := { s with m := s.m.answer a 0 0 }) true hw))
    · exact hretain.trans (congrArg _ (State.warmRetain_now (s := { s with m := s.m.answer a 0 0 }) true hw))
    · exact State.retainReset_rest { s with m := n } true n.retainRefuser
  case refused =>
    have hne : k.toNat ≠ 0xC3 := fun he => hk (BitVec.eq_of_toNat_eq he)
    exact ⟨put_reset_refused h (by rwa [hc 1 (by decide)]), put_reset_refused h (by rwa [hc 2 (by decide)])⟩

end Sys2Proof.Machine
end

section
/-! Chain time, alerts and channel resets over the chain (O44): SYNC and the delay exchange (R470, R471), the age of time (R472), ALERT
and its acknowledgement (R473, R555, R568), and channel-reset notices (R427). That the time moves in the step of the SYNC, the units of
a delay and the rounding of its mean are log 35. -/

namespace Sys2Proof.Machine
open Reg

/-! ### SYNC (R470, R472) -/

/-- How far the parent's time is ahead, in units of 0.125 ns. -/
def Mach.syncDiff (m : Mach) (k ts t : Nat) : Int := (8 * ts + m.fg (CHN_P_STAT k) CHN_P_STAT_delay : Nat) - (8 * t : Nat)

/-- The time steps on the first SYNC after joining, or from a new parent that is off by more than 500 ns. -/
def Mach.syncSteps (m : Mach) (d : Int) : Bool := m.chn.fresh || (m.chn.newParent && decide (4000 < d.natAbs))

/-- The most that the time slews by: 100 ppm of the time since the last SYNC. -/
def Mach.syncSlew (m : Mach) (t : Nat) : Int := ((match m.chn.lastSync with | some l => t - l | none => 0) / 10000 : Nat)

/-- What the time moves by. -/
def Mach.syncMove (m : Mach) (d : Int) (t : Nat) : Int :=
  if m.syncSteps d then d / 8 else max (-m.syncSlew t) (min (m.syncSlew t) (d / 8))

/-- The time has moved by `v`, and the offset and the age are shown. -/
def Mach.syncMoved (m : Mach) (off : Nat) (d v : Int) : Mach :=
  let now := ((m.ctime : Int) + v).toNat % 2 ^ 64
  let n : Mach := { m with ctime := now, chn := { m.chn with fresh := false, newParent := false, lastSync := some now } }
  (n.fs CHN_TIME CHN_TIME_offset (twos 16 (sext 16 off - (d / 8 - v)))).fs CHN_TIME CHN_TIME_age 0

/-- The shaft unit's time is locked, and the frame grid finds its phase after a step. -/
def Mach.syncLocked (m : Mach) (stepped : Bool) : Mach :=
  Mach.setTimeLock { m with shf := { m.shf with synced := true, phasing := m.shf.phasing || stepped } } true

theorem pwrStat_ne_chnTime (d : Nat) : pwrStat d ≠ CHN_TIME := by
  unfold pwrStat PWR_D_STAT PWR_P_STAT CHN_TIME
  split <;> omega

/-- Moving the time leaves the domains as they are. -/
theorem Mach.domOn_syncMoved (m : Mach) (off : Nat) (d v : Int) (n : Nat) : (m.syncMoved off d v).domOn n = m.domOn n := by
  simp only [Mach.domOn, Mach.syncMoved, Mach.fg_fs_ne _ _ _ _ (pwrStat_ne_chnTime n), Mach.fg_mk]

theorem Mach.syncSteps_true {m : Mach} {d : Int} (h : m.chn.fresh = true ∨ (m.chn.newParent = true ∧ 4000 < d.natAbs)) :
    m.syncSteps d = true := by
  simpa [Mach.syncSteps] using h

theorem Mach.syncSteps_false {m : Mach} {d : Int} (hf : m.chn.fresh = false) (h : m.chn.newParent = false ∨ d.natAbs ≤ 4000) :
    m.syncSteps d = false := by
  obtain h | h := h <;> simp [Mach.syncSteps, hf, h]

theorem Mach.syncMove_step {m : Mach} {d : Int} (t : Nat) (h : m.syncSteps d = true) : m.syncMove d t = d / 8 := if_pos h

theorem Mach.syncMove_slew {m : Mach} {d : Int} (t : Nat) (h : m.syncSteps d = false) :
    m.syncMove d t = max (-m.syncSlew t) (min (m.syncSlew t) (d / 8)) := if_neg (ne_true_of_eq_false h)

section sync
variable {m : Mach} {k : Nat} (ts off t : Nat)

theorem Mach.syncRx_ignored (h : m.parentLink ≠ some k ∨ m.node = 0) : m.syncRx k ts off t = m := if_pos h

section parent
variable {n : Mach} {d v : Int} (hp : m.parentLink = some k) (hn : m.node ≠ 0)
variable (hat : m.at_ t = n) (hd : n.syncDiff k ts t = d) (hv : n.syncMove d t = v)
include hp hn hat hd hv

/-- A SYNC from the parent moves the time, and where D6 is ON the shaft unit follows. -/
theorem Mach.syncRx_parent : m.syncRx k ts off t =
    if !(n.syncMoved off d v).domOn 6 then n.syncMoved off d v
    else (if n.syncSteps d then (n.syncMoved off d v).rephase v else n.syncMoved off d v).syncLocked (n.syncSteps d) := by
  subst hat hd hv
  exact if_neg (not_or_intro (not_not_intro hp) hn)

theorem Mach.syncRx_shaftOff (h6 : n.domOn 6 = false) : m.syncRx k ts off t = n.syncMoved off d v := by
  rw [Mach.syncRx_parent ts off t hp hn hat hd hv, Mach.domOn_syncMoved, h6, Bool.not_false, if_pos rfl]

variable (h6 : n.domOn 6 = true)
include h6

theorem Mach.syncRx_stepped (hs : n.syncSteps d = true) :
    m.syncRx k ts off t = ((n.syncMoved off d v).rephase v).syncLocked true := by
  rw [Mach.syncRx_parent ts off t hp hn hat hd hv, Mach.domOn_syncMoved, h6, Bool.not_true, if_neg Bool.false_ne_true, hs, if_pos rfl]

theorem Mach.syncRx_slewed (hs : n.syncSteps d = false) :
    m.syncRx k ts off t = (n.syncMoved off d v).syncLocked false := by
  rw [Mach.syncRx_parent ts off t hp hn hat hd hv, Mach.domOn_syncMoved, h6, Bool.not_true, if_neg Bool.false_ne_true, hs,
    if_neg Bool.false_ne_true]

end parent
end sync

/-! ### The delay exchange (R471) -/

theorem Mach.delayReqSend_none {m : Mach} {t : Nat} (h : (m.at_ t).parentLink = none) (half : Bool) : m.delayReqSend t half = m.at_ t := by
  simp only [Mach.delayReqSend, h]

theorem Mach.delayReqSend_parent {m : Mach} {t k : Nat} (h : (m.at_ t).parentLink = some k) (half : Bool) :
    m.delayReqSend t half =
      ((m.at_ t).setChp k { (m.at_ t).chp k with t1 := some (2 * t + b2n half) }).delayOut k (2 * t + b2n half) := by
  simp only [Mach.delayReqSend, h]

section response
variable {m : Mach} {k : Nat}

theorem Mach.delayRespRx_unasked (h : (m.chp k).t1 = none) (t2 t3 t4 : Nat) : m.delayRespRx k t2 t3 t4 = m := by
  simp only [Mach.delayRespRx, h]

theorem Mach.delayRespRx_joins {t1 : Nat} (h : (m.chp k).t1 = some t1) (t2 t3 t4 : Nat) :
    let l := (m.chp k).delays ++ [2 * (t4 - t1 - (t3 - t2))]
    let l := l.drop (l.length - 8)
    m.delayRespRx k t2 t3 t4 = (m.setChp k { m.chp k with t1 := none, delays := l }).fs (CHN_P_STAT k) CHN_P_STAT_delay
      (min 65535 (l.foldl (· + ·) 0 / l.length)) := by
  simp only [Mach.delayRespRx, h]

end response

/-! ### The age of time (R472) -/

section age
variable {m : Mach} {t : Nat}

theorem Mach.syncAged_never (h : (m.at_ t).chn.lastSync = none) : m.syncAged t = m.at_ t := by
  simp only [Mach.syncAged, h]

variable {l : Nat} (h : (m.at_ t).chn.lastSync = some l)
include h

theorem Mach.syncAged_kept (hk : t ≤ l + 10000000 ∨ (m.at_ t).node = 0 ∨ (m.at_ t).joined = false ∨ (m.at_ t).domOn 6 = false) :
    m.syncAged t = m.at_ t := by
  simp only [Mach.syncAged, h]
  refine if_neg ?_
  obtain hk | hk | hk | hk := hk
  · simp [Nat.not_lt.mpr hk]
  all_goals simp [hk]

theorem Mach.syncAged_lost (ht : l + 10000000 < t) (hn : (m.at_ t).node ≠ 0) (hj : (m.at_ t).joined = true)
    (h6 : (m.at_ t).domOn 6 = true) :
    m.syncAged t = Mach.setTimeLock { m.at_ t with shf := { (m.at_ t).shf with synced := false } } false := by
  simp only [Mach.syncAged, h]
  exact if_pos (by simp [ht, hn, hj, h6])

end age

/-! ### ALERT (R473, R555, R568) -/

/-- An ALERT that has been shown, has acted here and has gone on down the tree. -/
def Mach.alertTaken (m : Mach) (k node src : Nat) : Mach :=
  let n := (m.wr FLT_ALERT (BitVec.ofNat 32 (node * 256 + src))).ev FLT_STAT FLT_STAT_alert_ev
  (n.stopPlayout.raise 0x62 (node * 256 + src)).controlTree (some k) 4 0x05 [node, src]

section alert
variable {m : Mach} {k : Nat} (node src : Nat)

theorem Mach.alertRx_linkDown (hl : m.linkUp k = false) : m.alertRx k node src = m := if_pos (by rw [hl]; rfl)

variable {node src} (hl : m.linkUp k = true)
include hl

theorem Mach.alertRx_fault (hs : src ≠ 6) : m.alertRx k node src = m.alertTaken k node src :=
  (if_neg (by rw [hl]; decide)).trans (if_neg hs)

/-- An alert of the proof test is acknowledged to the tester. -/
theorem Mach.alertRx_proof {r : Nat} (hs : src = 6) (hr : (m.alertTaken k node src).routePort node = some r)
    (hu : (m.alertTaken k node src).linkUp r = true) :
    m.alertRx k node src = (m.alertTaken k node src).emit .chainTx [r, 5, node, (m.alertTaken k node src).node] := by
  refine (if_neg (by rw [hl]; decide)).trans ((if_pos hs).trans ?_)
  change (match (m.alertTaken k node src).routePort node with | some r => _ | none => _) = _
  rw [hr]
  exact if_pos hu

end alert

section ack
variable {m : Mach} {node : Nat}

theorem Mach.proofAck_idle (h : m.flt.proof = none) : m.proofAck node = m := by
  simp only [Mach.proofAck, h]

variable {p : Proof} (h : m.flt.proof = some p)
include h

theorem Mach.proofAck_ignored (hk : p.test ≠ 5 ∨ node ∈ p.acks) : m.proofAck node = m := by
  simp only [Mach.proofAck, h]
  exact if_neg (by obtain hk | hk := hk <;> simp [hk])

theorem Mach.proofAck_counted (ht : p.test = 5) (hk : node ∉ p.acks) :
    m.proofAck node = { m with flt := { m.flt with proof := some { p with acks := p.acks ++ [node] } } } := by
  simp only [Mach.proofAck, h]
  exact if_pos ⟨ht, by simpa using hk⟩

end ack

/-! ### The obligation -/

/-- Settles O44: each message by the link that it came over, and chain time by what it says and when. -/
theorem chainTimeAndAlerts : Obligations.ChainTimeAndAlerts := by
  refine ⟨fun t s => rfl, fun k ts t off s => ⟨fun h => next_congr (Mach.syncRx_ignored ts off.toNat t h), fun hp hn => ?sync⟩,
    fun t half s => ⟨fun h => next_congr (Mach.delayReqSend_none h half), fun k h => next_congr (Mach.delayReqSend_parent h half)⟩,
    fun k t2 t3 t4 s => ⟨fun hl => next_congr (if_pos hl), fun hl => next_congr (if_neg (ne_true_of_eq_false hl)),
      fun h => next_congr (Mach.delayRespRx_unasked h t2 t3 t4), fun t1 h => next_congr (Mach.delayRespRx_joins h t2 t3 t4)⟩,
    fun t s => ⟨fun h => next_congr (Mach.syncAged_never h), fun l h => ⟨fun hk => next_congr (Mach.syncAged_kept h hk),
      fun ht hn hj h6 => next_congr (Mach.syncAged_lost h ht hn hj h6)⟩⟩,
    fun k node src s => ⟨fun hl => next_congr (Mach.alertRx_linkDown _ _ hl), fun hl hs => next_congr (Mach.alertRx_fault hl hs),
      fun r hl hs => ?proof⟩,
    fun node s => ⟨fun h => next_congr (Mach.proofAck_idle h), fun p h => ⟨fun hk => next_congr (Mach.proofAck_ignored h hk),
      fun ht hk => next_congr (Mach.proofAck_counted h ht hk)⟩⟩,
    fun k node chan s => ⟨fun hl => next_congr (if_pos (by rw [hl]; rfl)), fun hl => next_congr (if_neg (by rw [hl]; decide))⟩⟩
  case proof =>
    intro m n hr hu
    exact next_congr (Mach.alertRx_proof (node := node.val) hl hs hr hu)
  case sync =>
    intro m d slew moved locked
    refine ⟨fun hs => ?_, fun hf hnp => ?_⟩
    · have hst : m.syncSteps d = true := Mach.syncSteps_true hs
      have hmv := Mach.syncMove_step t hst
      exact ⟨fun h6 => next_congr (Mach.syncRx_stepped ts off.toNat t hp hn rfl rfl hmv h6 hst),
        fun h6 => next_congr (Mach.syncRx_shaftOff ts off.toNat t hp hn rfl rfl hmv h6)⟩
    · have hst : m.syncSteps d = false := Mach.syncSteps_false hf hnp
      have hmv := Mach.syncMove_slew t hst
      exact ⟨fun h6 => next_congr (Mach.syncRx_slewed ts off.toNat t hp hn rfl rfl hmv h6 hst),
        fun h6 => next_congr (Mach.syncRx_shaftOff ts off.toNat t hp hn rfl rfl hmv h6)⟩

end Sys2Proof.Machine
end

section
/-! Tally's sweep and commit timer (R430-R433), PROOF_TEST and its end (R554, R555), and CHAIN_DISCOVER (R467) (O40). The NOT_READY word
of a test that does not start is log 26, and BUSY and DOMAIN_OFF of CHAIN_DISCOVER are log 34. -/

namespace Sys2Proof.Machine
open Reg

/-! ### Tally (R431, R433) -/

/-- A step of a fold that changes nothing at any of its numbers changes nothing. -/
theorem forEach_of_fixed {σ α : Type} {l : List α} {f : α → σ → σ} {s : σ} (h : ∀ a ∈ l, f a s = s) : forEach l f s = s := by
  induction l with
  | nil => rfl
  | cons a l ih =>
    rw [forEach, List.foldl_cons, h a (List.mem_cons_self ..)]
    exact ih fun b hb => h b (List.mem_cons_of_mem a hb)

/-- Tally finds a difference of a block that it has not reported yet. -/
def Mach.tallyDiffers (m : Mach) (i : Nat) : Bool := m.tallyChecked i && m.tallyRef i != m.rg (TLY_REF i) && !m.tlySeen.contains i

/-- A difference is reported. -/
def Mach.tallyReport (m : Mach) (i : Nat) : Mach :=
  ((Mach.ev { m with tlySeen := m.tlySeen ++ [i] } TLY_STAT TLY_STAT_mismatch_ev).fs TLY_STAT TLY_STAT_mis_block i).raise 0x10 i

theorem Mach.tallySweep_eq (m : Mach) : m.tallySweep =
    Mach.inc (forEach (upTo 64) (fun i (m : Mach) => if m.tallyDiffers i = true then m.tallyReport i else m) m) TLY_SWEEP TLY_SWEEP_count :=
  rfl

theorem Mach.tallySweep_same {m : Mach} (h : ∀ i < 64, m.tallyDiffers i = false) : m.tallySweep = m.inc TLY_SWEEP TLY_SWEEP_count := by
  rw [Mach.tallySweep_eq, forEach_of_fixed]
  exact fun i hi => if_neg (ne_true_of_eq_false (h i (List.mem_range.mp hi)))

section tally
variable {s : State} (hd : s.m.coreDead = false)
include hd

theorem exec_tallySweep : exec .tallySweep s = .next { s with m := s.m.tallySweep } :=
  next_congr (if_neg (ne_true_of_eq_false hd))

theorem exec_tallyCommitTimeout (i : Fin 64) : exec (.tallyCommitTimeout i) s = .next { s with m := s.m.commitTimeout i } :=
  next_congr (if_neg (ne_true_of_eq_false hd))

end tally

theorem Mach.commitTimeout_committed {m : Mach} {i : Nat} (h : m.uncommitted i = false) : m.commitTimeout i = m :=
  if_pos (by rw [h]; rfl)

theorem Mach.commitTimeout_uncommitted {m : Mach} {i : Nat} (h : m.uncommitted i = true) :
    m.commitTimeout i = ((m.ev TLY_STAT TLY_STAT_uncommitted_ev).fs TLY_STAT TLY_STAT_unc_block i).raise 0x11 i :=
  if_neg (by rw [h]; decide)

/-! ### PROOF_TEST (R554) -/

/-- A stream runs, an escalation is held, or factory mode is in force. -/
def Mach.proofRefused (m : Mach) : Bool :=
  (upTo 128).any (fun n => m.strState n == stRunning) || m.fg FLT_PEND FLT_PEND_escalated != 0 || m.fg FLT_STAT FLT_STAT_factory == 1

/-- The named hoops that are not ON with power-good. -/
def Mach.proofLate (m : Mach) : List Nat :=
  ((upTo 12).filter (bitN (m.fg FLT_PROOF_CFG FLT_PROOF_CFG_hoops))).filter (fun k => !m.hoopReady k)

section commands
variable {m : Mach} {c : Cmd} (h1 : m.domOn 1 = true) (h3 : m.domOn 3 = true)
include h1 h3

section proof
variable (hv : m.serves c (cmdBare c) (decide (1 ≤ c.b 8 ∧ c.b 8 ≤ 6)) = true)
include hv

/-- A PROOF_TEST that passes the checks, by what it finds. -/
theorem Mach.proofTest_serves : m.proofTest c =
    if m.flt.proof.isSome then m.reply c 0x0A
    else if m.proofRefused then m.reply c 0x13
    else if c.b 8 ≤ 3 ∧ m.proofLate ≠ [] then m.proofDone (some c) (proofWord 4 0 0)
    else
      let n := m.startRun { cmd := c, committed := true }
      Mach.proofStart { n with flt := { n.flt with proof := some { test := c.b 8, cmd := some c } } } (c.b 8) :=
  Mach.serveCore_of_serves _ hv h1 h3

theorem Mach.proofTest_busy (hp : m.flt.proof.isSome = true) : m.proofTest c = m.reply c 0x0A :=
  (Mach.proofTest_serves h1 h3 hv).trans (if_pos hp)

variable (hp : m.flt.proof = none)
include hp

theorem Mach.proofTest_badState (hr : m.proofRefused = true) : m.proofTest c = m.reply c 0x13 := by
  rw [Mach.proofTest_serves h1 h3 hv, hp]
  exact if_pos hr

variable (hr : m.proofRefused = false)
include hr

theorem Mach.proofTest_accepted : m.proofTest c =
    if c.b 8 ≤ 3 ∧ m.proofLate ≠ [] then m.proofDone (some c) (proofWord 4 0 0)
    else
      let n := m.startRun { cmd := c, committed := true }
      Mach.proofStart { n with flt := { n.flt with proof := some { test := c.b 8, cmd := some c } } } (c.b 8) := by
  rw [Mach.proofTest_serves h1 h3 hv, hp]
  exact if_neg (ne_true_of_eq_false hr)

theorem Mach.proofTest_notReady (ht : c.b 8 ≤ 3) (hl : m.proofLate ≠ []) : m.proofTest c = m.proofDone (some c) (4 * 2 ^ 24) :=
  (Mach.proofTest_accepted h1 h3 hv hp hr).trans (if_pos ⟨ht, hl⟩)

theorem Mach.proofTest_runs (h : 3 < c.b 8 ∨ m.proofLate = []) : m.proofTest c =
    let n := m.startRun { cmd := c, committed := true }
    Mach.proofStart { n with flt := { n.flt with proof := some { test := c.b 8, cmd := some c } } } (c.b 8) :=
  (Mach.proofTest_accepted h1 h3 hv hp hr).trans (if_neg fun hn => h.elim (Nat.not_lt.mpr hn.1) hn.2)

end proof

/-! ### CHAIN_DISCOVER (R467) -/

/-- A CHAIN_DISCOVER that passes the checks, by node, domain and run. -/
theorem Mach.chainDiscover_serves (hv : m.serves c (cmdBare c) true = true) : m.chainDiscover c =
    if m.node ≠ 0 then m.reply c 0x13
    else if !m.domOn 7 then m.reply c 0x07
    else if m.chn.disc.isSome then m.reply c 0x0A
    else (m.startRun { cmd := c }).discStart (some c) :=
  Mach.serveCore_of_serves _ hv h1 h3

end commands

/-! ### The end of a proof test (R555) -/

section ends
variable {m : Mach} (o t h : Nat) (es ps : List Nat)

theorem Mach.proofEnd_idle (hp : m.flt.proof = none) : m.proofEnd o t h es ps = m := by
  rw [Mach.proofEnd, hp]

variable {p : Proof} (hp : m.flt.proof = some p)
include hp

/-- The end of the test that runs, by its number. -/
theorem Mach.proofEnd_running : m.proofEnd o t h es ps =
    if p.test ≤ 3 then (if proofMay p.test o then m.proofDone p.cmd (proofWord o t h) else m)
    else if p.test = 4 then m.proofDone p.cmd (proofWord 0 0 0)
    else if p.test = 5 then m.proofDone p.cmd (proofWord
      (if p.acks.length < (m.systemNodes.filter (fun e => e.1 != m.node)).length then 7 else 0) p.acks.length 0)
    else (m.selfTest es ps).1.proofDone p.cmd (proofWord (if (m.selfTest es ps).2 then 6 else 0) 0 0) := by
  rw [Mach.proofEnd, hp]

theorem Mach.proofEnd_measured (ht : p.test ≤ 3) (ho : proofMay p.test o = true) :
    m.proofEnd o t h es ps = m.proofDone p.cmd (proofWord o t h) :=
  (Mach.proofEnd_running o t h es ps hp).trans ((if_pos ht).trans (if_pos ho))

theorem Mach.proofEnd_alive (ht : p.test = 4) : m.proofEnd o t h es ps = m.proofDone p.cmd 0 :=
  (Mach.proofEnd_running o t h es ps hp).trans ((if_neg (by omega)).trans (if_pos ht))

theorem Mach.proofEnd_alerts (ht : p.test = 5) : m.proofEnd o t h es ps = m.proofDone p.cmd (proofWord
    (if p.acks.length < (m.systemNodes.filter (fun e => e.1 != m.node)).length then 7 else 0) p.acks.length 0) :=
  (Mach.proofEnd_running o t h es ps hp).trans ((if_neg (by omega)).trans ((if_neg (by omega)).trans (if_pos ht)))

theorem Mach.proofEnd_selfTest (ht : 6 ≤ p.test) : m.proofEnd o t h es ps =
    (m.selfTest es ps).1.proofDone p.cmd (proofWord (if (m.selfTest es ps).2 then 6 else 0) 0 0) :=
  (Mach.proofEnd_running o t h es ps hp).trans ((if_neg (by omega)).trans ((if_neg (by omega)).trans (if_neg (by omega))))

end ends

/-- The result word without hoops. -/
theorem proofWord_time (o t : Nat) : proofWord o t 0 = o * 2 ^ 24 + t % 4096 * 2 ^ 12 := by
  rw [proofWord, Nat.zero_mod, Nat.add_zero]

theorem proofWord_outcome (o : Nat) : proofWord o 0 0 = o * 2 ^ 24 := by
  rw [proofWord_time, Nat.zero_mod, Nat.zero_mul, Nat.add_zero]

/-! ### The obligation -/

/-- Settles O40: Tally by what it finds, each command by the checks that it passes and its state, a test's end by its number. -/
theorem tallyProofTestsAndDiscovery : Obligations.TallyProofTestsAndDiscovery := by
  refine ⟨fun s hd => ⟨fun h => ?_, exec_tallySweep hd, fun i => ⟨fun h => ?_, fun h => ?_⟩⟩,
    fun c s h1 h3 hv => ?start, fun o t h es ps s => ⟨fun hp => ?_, fun p hp => ?ends⟩, fun c w m => rfl,
    fun c s h1 h3 hv => ⟨fun hn => ?_, fun hn h7 => ?_, fun hn h7 hd => ?_, fun hn h7 hd => ?_⟩⟩
  case start =>
    exact ⟨fun hp => next_congr (Mach.proofTest_busy h1 h3 hv hp), fun hp hr => next_congr (Mach.proofTest_badState h1 h3 hv hp hr),
      fun hp hr ht hl => next_congr (Mach.proofTest_notReady h1 h3 hv hp hr ht hl),
      fun hp hr h => next_congr (Mach.proofTest_runs h1 h3 hv hp hr h)⟩
  case ends =>
    refine ⟨fun ht ho => next_congr (Mach.proofEnd_measured _ _ _ _ _ hp ht ho), fun ht => next_congr (Mach.proofEnd_alive _ _ _ _ _ hp ht),
      fun ht => ⟨fun ha => next_congr ?_, fun ha => next_congr ?_⟩, fun ht => next_congr ((Mach.proofEnd_selfTest _ _ _ _ _ hp ht).trans ?_)⟩
    · exact (Mach.proofEnd_alerts _ _ _ _ _ hp ht).trans (by rw [if_pos ha, proofWord_time])
    · exact (Mach.proofEnd_alerts _ _ _ _ _ hp ht).trans (by rw [if_neg (Nat.not_lt.mpr ha), proofWord_time, Nat.zero_mul, Nat.zero_add])
    · rw [proofWord_outcome, ite_mul, Nat.zero_mul]
  · exact (exec_tallySweep hd).trans (next_congr (Mach.tallySweep_same h))
  · exact (exec_tallyCommitTimeout hd i).trans (next_congr (Mach.commitTimeout_committed h))
  · exact (exec_tallyCommitTimeout hd i).trans (next_congr (Mach.commitTimeout_uncommitted h))
  · exact next_congr (Mach.proofEnd_idle _ _ _ _ _ hp)
  · exact next_congr ((Mach.chainDiscover_serves h1 h3 hv).trans (if_pos hn))
  · exact next_congr ((Mach.chainDiscover_serves h1 h3 hv).trans ((if_neg (not_not_intro hn)).trans (if_pos (by rw [h7]; rfl))))
  · exact next_congr ((Mach.chainDiscover_serves h1 h3 hv).trans
      ((if_neg (not_not_intro hn)).trans ((if_neg (by rw [h7]; decide)).trans (if_pos hd))))
  · exact next_congr ((Mach.chainDiscover_serves h1 h3 hv).trans
      ((if_neg (not_not_intro hn)).trans ((if_neg (by rw [h7]; decide)).trans (if_neg (by rw [hd]; decide)))))

end Sys2Proof.Machine
end

section
/-! Register accesses by address (O24): full-word writes (R411, R416), the two words of a pair (R414), the data register of a queue
(R216, R234, R238), the store that the processor's keyed pair holds (R422) and the end of SERVICE mode (R419). -/

namespace Sys2Proof.Machine
open Reg

/-! ### Pairs (R414) -/

/-- A pair's low word is an ordinary register off the die link. -/
theorem siteOf_pairLow {a : Nat} (h : pairLow a = true) : siteOf a = some .plain ∧ isPdi a = false ∧ a ≠ FLT_INJ ∧ a ≠ GLB_GPIO_IN := by
  simp only [pairLow, Bool.or_eq_true, beq_iff_eq] at h
  obtain (((rfl | rfl) | rfl) | rfl) | rfl := h <;> decide

/-- A read of the low word holds the high word for the channel that reads. -/
theorem Mach.readWord_pairLow {m : Mach} {guard ch a : Nat} (h : pairLow a = true) : m.readWord guard ch a =
    (0, m.view guard a, { m with pair := spSet 0 m.pair (pairKey ch (a + 4)) (m.view guard (a + 4)) }) := by
  obtain ⟨hs, -, hf, hg⟩ := siteOf_pairLow h
  have hsite : m.siteAt a = some .plain := (if_neg fun hn => hf hn.1).trans hs
  simp only [Mach.readWord, hsite, if_neg hg, h, if_true, stOk]

/-! ### Queues (R216) -/

theorem isPdi_queData : ∀ q : Fin 56, isPdi (QUE_Q_DATA q) = false := by decide

theorem queData_ne_fltInj : ∀ q : Fin 56, QUE_Q_DATA q ≠ FLT_INJ := by decide

section queue
variable {m : Mach} (guard ch : Nat) {q : Fin 56}

theorem Mach.readWord_queData : m.readWord guard ch (QUE_Q_DATA q) =
    if m.qForward q then (0x13, 0, m) else (0, (m.queRead q).1, (m.queRead q).2) := by
  simp only [Mach.readWord, Mach.siteAt_of_info (info_queData q) (queData_ne_fltInj q)]
  rfl

theorem Mach.readWord_forwarding (hm : m.fg (QUE_Q_CFG q) QUE_Q_CFG_mode = 1) (hp : (m.q q).part = false) :
    m.readWord guard ch (QUE_Q_DATA q) = (0x13, 0, m) :=
  (Mach.readWord_queData guard ch).trans (if_pos (by simp [Mach.qForward, hm, hp]))

theorem Mach.readWord_taken (h : m.fg (QUE_Q_CFG q) QUE_Q_CFG_mode = 0 ∨ (m.q q).part = true) :
    m.readWord guard ch (QUE_Q_DATA q) = (0, (m.queRead q).1, (m.queRead q).2) :=
  (Mach.readWord_queData guard ch).trans (if_neg (by obtain h | h := h <;> simp [Mach.qForward, h]))

end queue

/-! ### The held store and SERVICE mode (R419, R422) -/

theorem Mach.dropKeyed_none {m : Mach} (h : m.cmd.keyed = none) : m.dropKeyed = m := by rw [Mach.dropKeyed, h]

theorem Mach.dropKeyed_some {m : Mach} {k : Nat × Word} (h : m.cmd.keyed = some k) :
    m.dropKeyed = ({ m with cmd := { m.cmd with keyed := none } } : Mach).sat GLB_KEYERR GLB_KEYERR_key := by rw [Mach.dropKeyed, h]

theorem Mach.service_iff (m : Mach) : m.service = true ↔ m.fg GLB_REGMODE GLB_REGMODE_mode = 1 := beq_iff_eq

/-! ### The obligation -/

/-- Settles O24: an access by the register that it reaches, a held store and SERVICE mode by whether there is one. -/
theorem registerAccessesAreAnswered : Obligations.RegisterAccessesAreAnswered := by
  refine ⟨fun a addr v s site n h hs hg hb hp he hj hl => put_of_reaches h hp hs hg hb he hj hl,
    fun a addr s hlow h => get_of_reaches h (siteOf_pairLow hlow).2.1 (Mach.readWord_pairLow hlow),
    fun a q s h => ⟨fun hm hp => get_of_reaches h (isPdi_queData q) (Mach.readWord_forwarding _ _ hm hp),
      fun hq => get_of_reaches h (isPdi_queData q) (Mach.readWord_taken _ _ hq)⟩,
    fun s => ⟨fun h => next_congr (Mach.dropKeyed_none h), fun k h => next_congr (Mach.dropKeyed_some h),
      next_congr (if_congr (Mach.service_iff s.m) rfl rfl)⟩⟩

end Sys2Proof.Machine
end

section
/-! The register commands (O23): REG_RD, REG_WR, REG_WR_KEYED, REG_RMW and REG_RD_BLOCK off the die link, by checks 1 to 7 of R411 in
their order (R410, R412, R416, R420-R423). -/

namespace Sys2Proof.Machine
open Reg

/-! ### Checks 4 and 5: the guards (R420-R423) -/

theorem bitN_toNat {w : Nat} (x : BitVec w) (i : Nat) : bitN x.toNat i = x.getLsbD i := by
  rw [bitN, BitVec.getLsbD, Nat.testBit_eq_decide_div_mod_eq]
  rfl

section guards
variable {m : Mach} {guard a : Nat}

section unguarded
variable (hg : (regRow a).bind (·.guard) = none)
include hg

theorem Mach.guardCheck_unguarded : m.guardCheck guard a none = none := by
  simp only [Mach.guardCheck, hg]

theorem Mach.guardCheck_unguarded_keyed (ok : Bool) : m.guardCheck guard a (some ok) = some (0x13, m) := by
  simp only [Mach.guardCheck, hg]
  rfl

end unguarded

variable {g : Nat} (hg : (regRow a).bind (·.guard) = some g)
include hg

theorem Mach.guardCheck_locked (h : bitN guard g = true) (keyed : Option Bool) :
    m.guardCheck guard a keyed = some (0x08, m.sat GLB_KEYERR GLB_KEYERR_locked) := by
  simp only [Mach.guardCheck, hg]
  exact if_pos h

variable (h : bitN guard g = false)
include h

theorem Mach.guardCheck_rightKey : m.guardCheck guard a (some true) = none := by
  simp only [Mach.guardCheck, hg, h, Bool.false_eq_true, if_false, if_true]

theorem Mach.guardCheck_wrongKey : m.guardCheck guard a (some false) = some (0x09, m.sat GLB_KEYERR GLB_KEYERR_key) := by
  simp only [Mach.guardCheck, hg, h, Bool.false_eq_true, if_false]
  rfl

/-- Only a joined hub takes a plain write to a guarded register (R424). -/
theorem Mach.guardCheck_noKey (hj : m.joined = false) : m.guardCheck guard a none = some (0x09, m.sat GLB_KEYERR GLB_KEYERR_key) := by
  simp only [Mach.guardCheck, hg, h, hj, Bool.false_eq_true, if_false]
  rfl

end guards

/-! ### Checks 4 to 7 -/

section word
variable {m : Mach} {guard a be : Nat} {own : Bool} {keyed : Option Bool} {v : Word} {site : RegSite} (hs : m.siteAt a = some site)
include hs

theorem Mach.writeWord_guarded {r : Nat × Mach} (hr : m.guardCheck guard a keyed = some r) : m.writeWord guard own keyed a v be = r := by
  simp only [Mach.writeWord, hs, hr]

variable (hr : m.guardCheck guard a keyed = none)
include hr

theorem Mach.writeWord_refused {st : Nat} (hb : m.blockRule own v site = some st) : m.writeWord guard own keyed a v be = (st, m) := by
  simp only [Mach.writeWord, hs, hr, hb]

theorem Mach.writeWord_accepted {n : Mach} (hb : m.blockRule own v site = none) (he : m.writeEffect a v be site = (0, n)) :
    m.writeWord guard own keyed a v be = (0, n.markConfig a) := by
  simp only [Mach.writeWord, hs, hr, hb, he, stOk, if_true]

end word

theorem Mach.siteAt_reset (m : Mach) : m.siteAt JNL_RESET = some .jnlReset := Mach.siteAt_of_info info_jnlReset (by decide)

theorem Mach.siteAt_guard (m : Mach) : m.siteAt GLB_GUARD = some .guardLock := Mach.siteAt_of_info info_guard (by decide)

/-- A reserved address is not one of the two whose writes act beyond the machine. -/
theorem Mach.ne_of_reserved {m : Mach} {a : Nat} (h : m.siteAt a = none) : a ≠ JNL_RESET ∧ a ≠ GLB_GUARD := by
  constructor <;> rintro rfl
  · rw [Mach.siteAt_reset] at h; cases h
  · rw [Mach.siteAt_guard] at h; cases h

/-- The end of an accepted write that does not reset the chip: a write of GLB_GUARD sets the bits written 1 (R423). -/
theorem State.regEnd_stored {s : State} {a : Nat} {v : Word} {n : Mach} {f : Mach → Mach} (hj : a ≠ JNL_RESET) :
    s.regEnd a v (0, n) f = .next { s with m := f n, guard := if a = GLB_GUARD then s.guard ||| v.setWidth 7 else s.guard } := by
  by_cases hl : a = GLB_GUARD
  · subst hl
    rw [State.regEnd_guard, if_pos rfl]
  · rw [if_neg hl]
    exact State.regEnd_plain (show (0 : Nat) ≠ 0x100 by decide) (.inl hj) (.inl hl)

/-! ### Reads (R410, R411) -/

theorem Mach.regRead_plain {m : Mach} {ch a : Nat} {d : Bool} (guard : Nat) (hg : m.accessGate ch d a none = none)
    (hp : isPdi a = false) : m.regRead guard ch d a = m.readWord guard ch a := by
  simp only [Mach.regRead, hg, Mach.overLink_plain hp]

theorem Mach.regRead_refused {m : Mach} {ch a : Nat} {d : Bool} (guard : Nat) {st : Nat} {n : Mach}
    (hg : m.accessGate ch d a none = some (st, n)) : m.regRead guard ch d a = (st, 0, n) := by
  simp only [Mach.regRead, hg]

section regRd
variable {m : Mach} {c : Cmd} (guard : Nat) (hv : m.serves c (cmdBare c) true = true)
include hv

theorem Mach.regRd_plain {st : Nat} {v : Word} {n : Mach} (hp : isPdi (c.p 8 3) = false)
    (hg : m.accessGate c.arrival.val false (c.p 8 3) none = none) (hr : m.readWord guard c.arrival.val (c.p 8 3) = (st, v, n)) :
    m.regRd guard c = n.reply c st (f12 v.toNat) := by
  rw [Mach.regRd, Mach.serve_of_serves _ hv, Mach.pdiWaits_plain hp, Mach.regRead_plain guard hg hp, hr]
  rfl

theorem Mach.regRd_refused {st : Nat} {n : Mach} (hg : m.accessGate c.arrival.val false (c.p 8 3) none = some (st, n)) :
    m.regRd guard c = n.reply c st 0 := by
  rw [Mach.regRd, Mach.serve_of_serves _ hv, Mach.pdiWaits_refused hg, Mach.regRead_refused guard hg]
  rfl

end regRd

/-- A block read that is not of a queue and need not wait answers its words (R412). -/
theorem Mach.regRdBlock_words {m n : Mach} {c : Cmd} {guard st : Nat} {l : List Byte}
    (hv : m.serves c (cmdBare c && decide (4 ≤ c.p 12 2 ∧ c.p 12 2 ≤ 1024 ∧ c.p 12 2 % 4 = 0)) true = true)
    (hw : m.pdiWaits c.arrival.val false (c.p 8 3) none = false) (hq : ∀ q, siteOf (c.p 8 3) ≠ some (.queData q))
    (hb : m.wordBlock (c.p 12 2 / 4) guard c.arrival.val (c.p 8 3) = (st, l, n)) : m.regRdBlock guard c = n.reply c st 0 l := by
  rw [Mach.regRdBlock, Mach.serve_of_serves _ hv]
  dsimp only
  split
  · rename_i q h
    exact absurd h (hq q)
  · rw [hw, hb]
    rfl

/-! ### Writes -/

section write
variable {s : State} {c : Cmd} {be : Nat} {keyed : Option Bool} {v : Word} {st : Nat} {n : Mach}
variable (hp : isPdi (c.p 8 3) = false) (hg : s.m.accessGate c.arrival.val false (c.p 8 3) (some be) = none)
include hp hg

/-- A write by a command that passes checks 1 to 3 ends as checks 4 to 7 say. -/
theorem State.regWriteCmd_plain
    (hw : s.m.writeWord s.guard.toNat (false || c.arrival.val == 2) keyed (c.p 8 3) v be = (st, n)) :
    s.regWriteCmd c keyed v be = s.regEnd (c.p 8 3) v (st, n) (fun m => m.reply c st) := by
  simp only [State.regWriteCmd, Mach.pdiWaits_plain hp, Bool.false_eq_true, if_false, Mach.regWrite_plain hg hp, hw]

/-- A status other than OK is all that a refused write answers. -/
theorem State.regWriteCmd_status
    (hw : s.m.writeWord s.guard.toNat (false || c.arrival.val == 2) keyed (c.p 8 3) v be = (st, n)) (h0 : st ≠ 0) (hr : st < 0x100) :
    s.regWriteCmd c keyed v be = .next { s with m := n.reply c st } :=
  (State.regWriteCmd_plain hp hg hw).trans (State.regEnd_plain (by omega) (.inr h0) (.inr h0))

theorem State.regWriteCmd_stored
    (hw : s.m.writeWord s.guard.toNat (false || c.arrival.val == 2) keyed (c.p 8 3) v be = (0, n)) (hj : c.p 8 3 ≠ JNL_RESET) :
    s.regWriteCmd c keyed v be =
      .next { s with m := n.reply c 0, guard := if c.p 8 3 = GLB_GUARD then s.guard ||| v.setWidth 7 else s.guard } :=
  (State.regWriteCmd_plain hp hg hw).trans (State.regEnd_stored hj)

end write

theorem exec_regWr_serves {s : State} {c : Cmd} (hv : s.m.serves c (cmdBare c) true = true) :
    exec (.regWr c) s = s.regWriteCmd c none (BitVec.ofNat 32 (c.p 12 4)) (c.b 11 % 16) :=
  (exec_regWr c s).trans (State.serve_of_serves _ hv)

/-- The write of a REG_WR_KEYED: its key is right where the payload is the complement of the word (R421). -/
def State.keyedWriteCmd (s : State) (c : Cmd) : Host.Outcome State Fault Refusal :=
  s.regWriteCmd c (some (decide (leNat c.payload = (~~~BitVec.ofNat 32 (c.p 12 4)).toNat))) (BitVec.ofNat 32 (c.p 12 4)) 15

section payload
variable {s : State} {c : Cmd} (hv : s.m.serves c (decide (c.payload.length = 4)) true = true)
include hv

theorem exec_regWrKeyed_serves : exec (.regWrKeyed c) s = s.keyedWriteCmd c :=
  State.serve_of_serves (fun s => s.keyedWriteCmd c) hv

theorem exec_regRmw_serves : exec (.regRmw c) s = s.regRmwCmd c := State.serve_of_serves (fun s => s.regRmwCmd c) hv

end payload

/-- The word that a read-modify-write stores (R412). -/
def rmwWord (c : Cmd) (old : Word) : Word :=
  (old &&& ~~~BitVec.ofNat 32 (c.p 12 4)) ||| (BitVec.ofNat 32 (leNat c.payload) &&& BitVec.ofNat 32 (c.p 12 4))

/-- A read-modify-write whose read and write are both accepted. -/
theorem State.regRmwCmd_stored {s : State} {c : Cmd} {old : Word} {m n : Mach} (hp : isPdi (c.p 8 3) = false)
    (hg : s.m.accessGate c.arrival.val false (c.p 8 3) none = none)
    (hr : s.m.readWord s.guard.toNat c.arrival.val (c.p 8 3) = (0, old, m))
    (hg' : m.accessGate c.arrival.val false (c.p 8 3) (some 15) = none)
    (hw : m.writeWord s.guard.toNat (false || c.arrival.val == 2) none (c.p 8 3) (rmwWord c old) 15 = (0, n))
    (hj : c.p 8 3 ≠ JNL_RESET) (hl : c.p 8 3 ≠ GLB_GUARD) :
    s.regRmwCmd c = .next { s with m := n.reply c 0 (f12 old.toNat) } := by
  have hwrite := (Mach.regWrite_plain (g := s.guard.toNat) hg' hp).trans hw
  rw [rmwWord] at hwrite
  simp only [State.regRmwCmd, Mach.regRead_plain _ hg hp, hr, Mach.pdiWaits_plain hp, Bool.false_eq_true, if_false, hwrite, stOk,
    ne_eq, not_true_eq_false, if_true]
  exact State.regEnd_plain (show (0 : Nat) ≠ 0x100 by decide) (.inl hj) (.inl hl)

/-! ### The obligation -/

/-- Settles O23: each command by the check of R411 that ends it. -/
theorem registerCommandsPassTheChecks : Obligations.RegisterCommandsPassTheChecks := by
  intro c s a ch w
  refine ⟨fun hv => ⟨fun st v n hp hg hr => ?_, fun st n hg => ?_, fun hp hg => ?write⟩, fun hv hp hg => ?payload,
    fun st l m hv hw hq hb => ?_⟩
  case write =>
    rw [exec_regWr_serves hv]
    refine ⟨fun hs => ?_, fun site n hs hu hb he hj => ?_, fun site st hs hu hb h0 hr => ?_, fun site g hs hu => ⟨fun hl => ?_, fun hl hj => ?_⟩⟩
    · obtain ⟨hj, hl⟩ := Mach.ne_of_reserved hs
      rw [State.regWriteCmd_stored hp hg (Mach.writeWord_reserved hs) hj, if_neg hl]
    · exact State.regWriteCmd_stored hp hg (Mach.writeWord_accepted hs (Mach.guardCheck_unguarded hu) hb he) hj
    · exact State.regWriteCmd_status hp hg (Mach.writeWord_refused hs (Mach.guardCheck_unguarded hu) hb) h0 hr
    · exact State.regWriteCmd_status hp hg (Mach.writeWord_guarded hs (Mach.guardCheck_locked hu ((bitN_toNat _ _).trans hl) none))
        (by decide) (by decide)
    · exact State.regWriteCmd_status hp hg (Mach.writeWord_guarded hs (Mach.guardCheck_noKey hu ((bitN_toNat _ _).trans hl) hj))
        (by decide) (by decide)
  case payload =>
    rw [exec_regWrKeyed_serves hv, exec_regRmw_serves hv]
    refine ⟨fun site g n hs hu hl => ⟨fun hk hb he hj hn => ?_, fun hk => ?_⟩, fun site hs hu => ?_,
      fun old m site n hg' hr => ?rmw⟩
    · rw [State.keyedWriteCmd, decide_eq_true hk, State.regWriteCmd_stored hp hg
        (Mach.writeWord_accepted hs (Mach.guardCheck_rightKey hu ((bitN_toNat _ _).trans hl)) hb he) hj, if_neg hn]
    · rw [State.keyedWriteCmd, decide_eq_false hk]
      exact State.regWriteCmd_status hp hg (Mach.writeWord_guarded hs (Mach.guardCheck_wrongKey hu ((bitN_toNat _ _).trans hl)))
        (by decide) (by decide)
    · exact State.regWriteCmd_status hp hg (Mach.writeWord_guarded hs (Mach.guardCheck_unguarded_keyed hu _)) (by decide) (by decide)
    case rmw =>
      intro v hgw hs hu hb he hj hl
      exact State.regRmwCmd_stored hp hg' hr hgw (Mach.writeWord_accepted hs (Mach.guardCheck_unguarded hu) hb he) hj hl
  · exact next_congr (Mach.regRd_plain _ hv hp hg hr)
  · exact next_congr (Mach.regRd_refused _ hv hg)
  · exact next_congr (Mach.regRdBlock_words hv hw hq hb)

end Sys2Proof.Machine
end

section
/-! The state after reset (O49): no register has been written, so each reads its reset value (R423, R427, R430, R435, R496, R534, R576, R581). -/

namespace Sys2Proof.Machine
open Reg

/-! ### Registers that nothing has written -/

theorem rg_reset (a : Nat) : State.reset.m.rg a = regReset a := rfl

theorem fg_reset (a : Nat) (f : Fd) : State.reset.m.fg a f = getF (regReset a) f := rfl

/-! ### Reset values -/

/-- Every lock is free, and marked broken with the cause of a reset (R427). -/
theorem regReset_lock : ∀ n : Fin 32, getF (regReset (LCK_LOCK n)) LCK_LOCK_state = 0 ∧
    getF (regReset (LCK_LOCK n)) LCK_LOCK_broken = 1 ∧ getF (regReset (LCK_LOCK n)) LCK_LOCK_cause = 5 := by decide

/-- A holdoff of 250 ms and no permit (R496). -/
theorem regReset_hoopCfg : ∀ k : Fin 12, getF (regReset (PDI_HOOP_CFG k)) PDI_HOOP_CFG_holdoff = 25 ∧
    getF (regReset (PDI_HOOP_CFG k)) PDI_HOOP_CFG_permit = 0 := by decide

/-- Every hoop is off. -/
theorem regReset_hoopStat : ∀ k : Fin 12, getF (regReset (swStat (.hoop k))) PDI_HOOP_STAT_state = 0 := by decide

/-- Every domain is ON (R534). -/
theorem regReset_domain : ∀ d : Fin 19, getF (regReset (pwrStat d)) PWR_D_STAT_state = 0 := by decide

/-! ### The obligation -/

/-- Settles O49: the reset values of the registers named, and the model's own empty queue and DRAM (assumptions 1 and 2). -/
theorem resetStateMeetsItsInvariants : Obligations.ResetStateMeetsItsInvariants := by
  refine ⟨rfl, rfl, rfl, ?_, fun n => ?_, ?_, fun k => ?_, fun d => ?_⟩
  · rw [rg_reset]
    decide
  · obtain ⟨hfree, hbroken, hcause⟩ := regReset_lock n
    exact ⟨by rw [Mach.lockHeld, fg_reset, hfree]; rfl, hbroken, hcause⟩
  · rw [fg_reset]
    decide
  · obtain ⟨hholdoff, hpermit⟩ := regReset_hoopCfg k
    exact ⟨hholdoff, hpermit, regReset_hoopStat k⟩
  · rw [Mach.domOn, fg_reset, regReset_domain]
    rfl

end Sys2Proof.Machine
end

section
/-! A step (O1): the command at the front of the queue, or one idle cycle of chain time (log 3). -/

namespace Sys2Proof.Machine

/-- Settles O1: by the queue's two forms. -/
theorem stepRunsFrontCommand : Obligations.StepRunsFrontCommand := ⟨fun _ _ _ => step_cons rfl, fun _ => step_nil⟩

end Sys2Proof.Machine
end

section
/-! The fault collector (O39): what a raise does by the class of its source (R537, R538, R543-R545), the latch of the first source (R538),
the grace timers (R544), the mismatch of the two collectors (R549), ALIVE (R550, R554, R557) and the factory token (R557). That a mismatch
stops the heartbeat before group 0 acts is log 54, and that the token needs a cold reset is log 27. -/

namespace Sys2Proof.Machine
open Reg

/-! ### A raise, by class (R537, R538, R543-R545) -/

/-- The grace timer of a group starts for a source (R544). -/
def Mach.startGrace (m : Mach) (g src : Nat) : Mach :=
  let n := m.fs FLT_PEND FLT_PEND_running (setBitN (m.fg FLT_PEND FLT_PEND_running) g true)
  { n with flt := { n.flt with graceSrc := spSet 0 n.flt.graceSrc g src } }

section raise
variable {m : Mach} {src detail : Nat}

theorem Mach.raise_reserved (h : faultClass src = 0) : m.raise src detail = m := if_pos h

/-- A raise before the collector runs is kept for its start. -/
theorem Mach.raise_early (h : faultClass src ≠ 0) (ho : m.flt.on = false) :
    m.raise src detail = { m with flt := { m.flt with early := m.flt.early ++ [(src, detail)] } } :=
  (if_neg h).trans (if_pos (by rw [ho]; rfl))

variable (ho : m.flt.on = true)
include ho

theorem Mach.raise_classC (hc : faultClass src = 0xC) : m.raise src detail = m.latchFault src detail := by
  simp [Mach.raise, Mach.raiseWith, ho, hc]

theorem Mach.raise_classA (hc : faultClass src = 0xA) :
    m.raise src detail = ((m.latchFault src detail).cancelGrace (src / 16)).escalate (src / 16) src false := by
  simp [Mach.raise, Mach.raiseWith, ho, hc]

theorem Mach.raise_classB (hc : faultClass src = 0xB) {n : Mach} (hn : m.latchFault src detail = n) :
    m.raise src detail = if bitN (n.fg FLT_PEND FLT_PEND_running) (src / 16) then n
      else if n.fg (FLT_GRP_CFG (src / 16)) FLT_GRP_CFG_grace = 0 then n.escalate (src / 16) src false
      else n.startGrace (src / 16) src := by
  simp [Mach.raise, Mach.raiseWith, Mach.startGrace, ho, hc, hn]

end raise

/-! ### The latch (R538) -/

/-- The RAISED bit of a source sets. -/
def Mach.markRaised (m : Mach) (src : Nat) : Mach :=
  m.wr (FLT_RAISED (src / 32)) (BitVec.ofNat 32 (setBitN (m.rg (FLT_RAISED (src / 32))).toNat (src % 32) true))

/-- A source is the first: its words and the chain time are shown, and the event sets. -/
def Mach.latchFirst (m : Mach) (src detail : Nat) : Mach :=
  let word := 2 ^ 31 + src / 16 % 8 * 2 ^ 28 + faultClass src * 2 ^ 24 + src * 2 ^ 16 + detail % 2 ^ 16
  (((m.wr FLT_FIRST (BitVec.ofNat 32 word)).wr FLT_TIME_LO (BitVec.ofNat 32 m.ctime)).wr FLT_TIME_HI
    (BitVec.ofNat 32 (m.ctime / 2 ^ 32))).ev FLT_STAT FLT_STAT_first_ev

theorem fltFirst_ne_fltRaised (n : Nat) : FLT_FIRST ≠ FLT_RAISED n := by
  unfold FLT_FIRST FLT_RAISED
  omega

section latch
variable (m : Mach) (src detail : Nat)

theorem Mach.markRaised_first : (m.markRaised src).rg FLT_FIRST = m.rg FLT_FIRST := Mach.rg_wr_ne _ _ (fltFirst_ne_fltRaised _)

theorem Mach.markRaised_valid : (m.markRaised src).fg FLT_FIRST FLT_FIRST_valid = m.fg FLT_FIRST FLT_FIRST_valid := by
  rw [Mach.fg_eq, Mach.markRaised_first, ← Mach.fg_eq]

variable {m}

theorem Mach.latchFault_later (hv : m.fg FLT_FIRST FLT_FIRST_valid = 1) : m.latchFault src detail =
    (((m.markRaised src).fs FLT_OVF FLT_OVF_ovf 1).fs FLT_OVF FLT_OVF_last src).sat FLT_OVF FLT_OVF_count := by
  have h := (m.markRaised_valid src).trans hv
  rw [Mach.markRaised] at h ⊢
  rw [Mach.latchFault, h]
  rfl

theorem Mach.latchFault_first (hv : m.fg FLT_FIRST FLT_FIRST_valid = 0) : m.latchFault src detail =
    if ((m.markRaised src).latchFirst src detail).flt.hbOn then ((m.markRaised src).latchFirst src detail).faultEvent
    else (m.markRaised src).latchFirst src detail := by
  have h := (m.markRaised_valid src).trans hv
  rw [Mach.markRaised] at h ⊢
  rw [Mach.latchFirst, Mach.latchFault, h, if_neg (by decide)]
  simp only [Mach.wr_ctime]

/-- The FAULT event writes the status of queue 51 or a drop counter. -/
theorem Mach.faultEvent_rg (m : Mach) {a : Nat} (hq : a ≠ QUE_Q_STAT 51) (hd : noDrop a) : m.faultEvent.rg a = m.rg a :=
  Mach.event_rg _ _ _ _ _ hq hd

theorem Mach.latchFault_first_rg (hv : m.fg FLT_FIRST FLT_FIRST_valid = 0) {a : Nat} (hq : a ≠ QUE_Q_STAT 51) (hd : noDrop a) :
    (m.latchFault src detail).rg a = ((m.markRaised src).latchFirst src detail).rg a := by
  rw [Mach.latchFault_first src detail hv]
  split
  · exact Mach.faultEvent_rg _ hq hd
  · rfl

/-- A later source leaves FLT_FIRST as it is. -/
theorem Mach.latchFault_later_first (hv : m.fg FLT_FIRST FLT_FIRST_valid = 1) :
    (m.latchFault src detail).rg FLT_FIRST = m.rg FLT_FIRST := by
  have ho : FLT_FIRST ≠ FLT_OVF := by decide
  rw [Mach.latchFault_later src detail hv, Mach.sat_eq, Mach.rg_fs, if_neg ho, Mach.rg_fs, if_neg ho, Mach.rg_fs, if_neg ho,
    Mach.markRaised_first]

end latch

section first
variable (m : Mach) (src detail : Nat)

theorem Mach.latchFirst_first : (m.latchFirst src detail).rg FLT_FIRST =
    BitVec.ofNat 32 (2 ^ 31 + src / 16 % 8 * 2 ^ 28 + faultClass src * 2 ^ 24 + src * 2 ^ 16 + detail % 2 ^ 16) := by
  rw [Mach.latchFirst, Mach.rg_ev_ne _ _ (by decide), Mach.rg_wr_ne _ _ (by decide), Mach.rg_wr_ne _ _ (by decide), Mach.rg_wr_same]

theorem Mach.latchFirst_timeLo : (m.latchFirst src detail).rg FLT_TIME_LO = BitVec.ofNat 32 m.ctime := by
  rw [Mach.latchFirst, Mach.rg_ev_ne _ _ (by decide), Mach.rg_wr_ne _ _ (by decide), Mach.rg_wr_same]

theorem Mach.latchFirst_timeHi : (m.latchFirst src detail).rg FLT_TIME_HI = BitVec.ofNat 32 (m.ctime / 2 ^ 32) := by
  rw [Mach.latchFirst, Mach.rg_ev_ne _ _ (by decide), Mach.rg_wr_same]

end first

theorem noDrop_fltWords : noDrop FLT_FIRST ∧ noDrop FLT_TIME_LO ∧ noDrop FLT_TIME_HI := by
  refine ⟨fun k => ?_, fun k => ?_, fun k => ?_⟩ <;> simp only [FLT_FIRST, FLT_TIME_LO, FLT_TIME_HI, CHN_P_DROP] <;> omega

/-! ### Grace timers, mismatch and ALIVE (R544, R549, R550, R554, R557) -/

section alive
variable {m : Mach}

theorem Mach.aliveToggle_toggles (ho : m.flt.hbOn = true) (he : m.fg FLT_HB_CFG FLT_HB_CFG_alive_en = 1)
    (hf : m.fg FLT_STAT FLT_STAT_alive_frozen = 0) (hs : m.fg FLT_STAT FLT_STAT_hb_stop = 0) (hm : m.fg FLT_STAT FLT_STAT_factory = 0)
    (hp : m.flt.proof = none) :
    m.aliveToggle = Mach.emit { m with flt := { m.flt with alive := !m.flt.alive } } .alive [b2n (!m.flt.alive)] :=
  if_pos (by rw [ho, he, hf, hs, hm, hp]; rfl)

theorem Mach.aliveToggle_still (h : m.flt.hbOn = false ∨ m.fg FLT_HB_CFG FLT_HB_CFG_alive_en = 0 ∨
    m.fg FLT_STAT FLT_STAT_alive_frozen = 1 ∨ m.fg FLT_STAT FLT_STAT_hb_stop = 1 ∨ m.fg FLT_STAT FLT_STAT_factory = 1) :
    m.aliveToggle = m :=
  if_neg (by obtain h | h | h | h | h := h <;> simp [h])

/-! ### The factory token (R557) -/

theorem Mach.factoryToken_admits {tok : List Byte} (hs : m.flt.strapFactory = true) (hc : m.boot.cause = rsCold)
    (hd : m.coreDead = false) (ht : Config.tokenOk Config.serial tok = true) :
    m.factoryToken tok true = let m := m.fs FLT_STAT FLT_STAT_factory 1
      if m.flt.alive then Mach.emit { m with flt := { m.flt with alive := false } } .alive [0] else m :=
  if_pos (by simp [hs, hc, hd, ht])

theorem Mach.factoryToken_refused {tok : List Byte} {inTime : Bool} (h : m.flt.strapFactory = false ∨ inTime = false ∨
    m.boot.cause ≠ rsCold ∨ Config.tokenOk Config.serial tok = false) : m.factoryToken tok inTime = m :=
  if_neg (by obtain h | h | h | h := h <;> simp [h])

end alive

/-! ### The obligation -/

/-- Settles O39: a raise by the class of its source, the latch by whether it is held, and the other rows by their conditions. -/
theorem faultSourcesLatchAndEscalate : Obligations.FaultSourcesLatchAndEscalate := by
  refine ⟨fun src d s => ?raise, ?latch,
    fun g s => ⟨fun h => next_congr (if_neg (ne_true_of_eq_false h)), fun h => next_congr (if_pos h)⟩,
    fun s => ⟨fun ho => next_congr (if_pos ho), fun ho he hf hs hm hp => ?_, fun h => ?_, fun tok hs hc hd ht => ?_, fun tok inTime h => ?_⟩⟩
  case raise =>
    intro g m
    refine ⟨fun h => next_congr (Mach.raise_reserved h), fun h ho => next_congr (Mach.raise_early h ho), fun ho => ⟨fun hc => ?_,
      fun hc => ?_, fun hc => ?classB⟩⟩
    · exact next_congr (Mach.raise_classC ho hc)
    · exact next_congr (Mach.raise_classA ho hc)
    case classB =>
      have hb := Mach.raise_classB (n := m) ho hc rfl
      refine ⟨fun hr => next_congr (hb.trans (if_pos hr)), fun hr hg => ?_, fun hr hg => ?_⟩
      · exact next_congr (hb.trans ((if_neg (ne_true_of_eq_false hr)).trans (if_pos hg)))
      · exact next_congr (hb.trans ((if_neg (ne_true_of_eq_false hr)).trans (if_neg hg)))
  case latch =>
    intro src d m r _
    refine ⟨fun hv => ⟨Mach.latchFault_later src d hv, Mach.latchFault_later_first src d hv⟩, fun hv => ?_⟩
    obtain ⟨hfirst, hlo, hhi⟩ := noDrop_fltWords
    refine ⟨?_, ?_, ?_⟩
    · rw [Mach.latchFault_first_rg src d hv (by decide) hfirst, Mach.latchFirst_first]
    · rw [Mach.latchFault_first_rg src d hv (by decide) hlo, Mach.latchFirst_timeLo]; rfl
    · rw [Mach.latchFault_first_rg src d hv (by decide) hhi, Mach.latchFirst_timeHi]; rfl
  · exact next_congr (Mach.aliveToggle_toggles ho he hf hs hm hp)
  · exact next_congr (Mach.aliveToggle_still h)
  · exact next_congr (Mach.factoryToken_admits hs hc hd ht)
  · exact next_congr (Mach.factoryToken_refused h)

end Sys2Proof.Machine
end

section
/-! The switches of the power die (O42): inrush and power-good of a hoop (R492, R495), limits and fault timers (R494), trips (R490, R493,
R496), supplies (R496, R604), holdoffs (R496, R497) and the end of SAFE_STOP_N (R496, R552). -/

namespace Sys2Proof.Machine
open Reg

/-! ### Hoops and limits (R492, R494, R495) -/

section switch
variable {m : Mach} {k : Fin 12} {w : Switch}

theorem Mach.hoopPowerGood_rises (hs : m.swState (.hoop k) = swOn) (hw : (m.sw (.hoop k)).window = true) :
    m.hoopPowerGood k = (m.swGood (.hoop k)).setSw (.hoop k) { m.sw (.hoop k) with window := false } :=
  if_pos (by rw [hs, hw]; rfl)

theorem Mach.hoopPowerGood_ignored (h : m.swState (.hoop k) ≠ swOn ∨ (m.sw (.hoop k)).window = false) : m.hoopPowerGood k = m :=
  if_neg (by obtain h | h := h <;> simp [h])

theorem Mach.faultTimerExpiry_trips (hl : m.swLive w = true) (ht : (m.sw w).timing = true) : m.faultTimerExpiry w = m.trip w 1 :=
  if_pos (by rw [hl, ht]; rfl)

theorem Mach.faultTimerExpiry_ignored (h : m.swLive w = false ∨ (m.sw w).timing = false) : m.faultTimerExpiry w = m :=
  if_neg (by obtain h | h := h <;> simp [h])

/-! ### Trips (R496) -/

theorem Mach.tripSw_idle (h : m.swLive w = false) (cause : Nat) : m.tripSw w cause = m := if_pos (by rw [h]; rfl)

/-! ### Holdoffs (R496, R497) -/

/-- A holdoff has run out: the switch is LATCHED, and an EVENT says so. -/
def Mach.switchLatched (m : Mach) (w : Switch) : Mach :=
  ((m.fs (swStat w) PDI_HOOP_STAT_state swLatched).setSw w {}).pdEvent (.holdoffEnd w)

section holdoff
variable (hs : m.swState w = swHoldoff) (hh : (m.sw w).holdoff = true)
include hs hh

theorem Mach.holdoffEnd_hoop (hw : w = .hoop k) : m.holdoffEnd w = m.switchLatched w := by
  subst hw
  exact if_pos (by rw [hs, hh]; rfl)

theorem Mach.holdoffEnd_vbus {p : Fin 48} (hw : w = .vbus p) : m.holdoffEnd w = (m.switchLatched w).overCurrentOff p := by
  subst hw
  exact if_pos (by rw [hs, hh]; rfl)

end holdoff

theorem Mach.holdoffEnd_ignored (h : m.swState w ≠ swHoldoff ∨ (m.sw w).holdoff = false) : m.holdoffEnd w = m :=
  if_neg (by obtain h | h := h <;> simp [h])

end switch

/-! ### Supplies (R490, R493, R496, R604) -/

section supply
variable {m : Mach} {n : Fin 16} {high : Bool}

/-- A supply is outside its window, and an EVENT says so. -/
def Mach.supplyLost (m : Mach) (n : Fin 16) (high : Bool) : Mach :=
  Mach.pdEvent { m with pdi := { m.pdi with badSupply := m.pdi.badSupply ++ [2 * n.val + b2n high] } } (.supply n high)

theorem Mach.supplyFault_ignored (h : 8 < n.val ∨ m.supplyBad n high = true) : m.supplyFault n high = m := if_pos h

theorem Mach.supplyFault_new (hn : n.val ≤ 8) (hb : m.supplyBad n high = false) : m.supplyFault n high =
    if n.val = 7 then forEach allVbus (fun w m => m.trip w 9) (m.supplyLost n high)
    else if n.val = 8 ∧ high = false then (m.supplyLost n high).tripHoops 9
    else m.supplyLost n high :=
  if_neg (not_or_intro (Nat.not_lt.mpr hn) (ne_true_of_eq_false hb))

/-- A supply is back in its window, and an EVENT says so. -/
def Mach.supplyBack (m : Mach) (n : Fin 16) : Mach :=
  Mach.pdEvent { m with pdi := { m.pdi with badSupply := m.pdi.badSupply.filter (fun e => e / 2 != n.val) } } (.supplyRecovered n)

theorem Mach.supplyRecover_ignored (hl : m.supplyBad n false = false) (hh : m.supplyBad n true = false) : m.supplyRecover n = m :=
  if_pos (by rw [hl, hh]; rfl)

theorem Mach.supplyRecover_bad (h : m.supplyBad n false = true ∨ m.supplyBad n true = true) : m.supplyRecover n =
    if n.val = 7 then (m.supplyBack n).causeEnds allVbus 9
    else if n.val = 8 then (m.supplyBack n).causeEnds allHoops 9
    else m.supplyBack n :=
  if_neg (by obtain h | h := h <;> simp [h])

end supply

/-! ### The obligation -/

/-- Settles O42: each event by the state of the switch, or of the supply, that it finds. -/
theorem switchesTripRecoverAndLatch : Obligations.SwitchesTripRecoverAndLatch := by
  refine ⟨fun k s => ⟨fun h => ⟨?_, ?_⟩, fun h => ⟨?_, ?_⟩, fun h => ?_, fun hs hw => ?_, rfl⟩,
    fun w s => ⟨fun hl => ⟨?_, ?_, fun ht => ?_⟩, fun hl => ⟨?_, ?_, ?_⟩, fun ht => ?_⟩, fun p s => rfl,
    fun w c m => ⟨fun hl => Mach.tripSw_idle hl c, fun hl => ?_⟩,
    fun n h s => ⟨fun hi => ?_, fun hn hb => ?fault, fun hl hh => ?_, fun hb => ?recover⟩,
    fun s => ⟨fun w hs hh => ⟨fun k hw => ?_, fun p hw => ?_⟩, fun w h => ?_, fun h => ?_, fun h => ?_⟩⟩
  · exact next_congr (if_pos (beq_iff_eq.mpr h))
  · exact next_congr (if_pos (beq_iff_eq.mpr h))
  · exact next_congr (if_neg (mt beq_iff_eq.mp h))
  · exact next_congr (if_neg (mt beq_iff_eq.mp h))
  · exact next_congr (Mach.hoopPowerGood_ignored h)
  · exact next_congr (Mach.hoopPowerGood_rises hs hw)
  · exact next_congr (if_pos hl)
  · exact next_congr (if_pos hl)
  · exact next_congr (Mach.faultTimerExpiry_trips hl ht)
  · exact next_congr (if_neg (ne_true_of_eq_false hl))
  · exact next_congr (if_neg (ne_true_of_eq_false hl))
  · exact next_congr (Mach.faultTimerExpiry_ignored (.inl hl))
  · exact next_congr (Mach.faultTimerExpiry_ignored (.inr ht))
  · obtain ⟨hstate, hcause, hgood, -, -⟩ := Mach.tripSw_state m w c hl
    exact ⟨hstate, hcause, hgood⟩
  · exact next_congr (Mach.supplyFault_ignored hi)
  case fault =>
    have hf := Mach.supplyFault_new hn hb
    refine ⟨fun h7 => next_congr (hf.trans (if_pos h7)), fun h8 hlow => ?_, fun h7 h8 => ?_⟩
    · exact next_congr (hf.trans ((if_neg (by omega)).trans (if_pos ⟨h8, hlow⟩)))
    · exact next_congr (hf.trans ((if_neg h7).trans (if_neg fun hc => absurd (h8 hc.1) (ne_true_of_eq_false hc.2))))
  · exact next_congr (Mach.supplyRecover_ignored hl hh)
  case recover =>
    have hr := Mach.supplyRecover_bad hb
    refine ⟨fun h7 => next_congr (hr.trans (if_pos h7)), fun h8 => ?_, fun h7 h8 => ?_⟩
    · exact next_congr (hr.trans ((if_neg (by omega)).trans (if_pos h8)))
    · exact next_congr (hr.trans ((if_neg h7).trans (if_neg h8)))
  · exact next_congr (Mach.holdoffEnd_hoop hs hh hw)
  · exact next_congr (Mach.holdoffEnd_vbus hs hh hw)
  · exact next_congr (Mach.holdoffEnd_ignored h)
  · exact next_congr (if_pos (beq_iff_eq.mpr h))
  · exact next_congr (if_neg (by rw [h]; decide))

end Sys2Proof.Machine
end

section
/-! Chain links (O43): a port trains, loses its link and keeps quiet (R456, R457), flits and what answers them (R458, R459, R461), and the
packets rebuilt from them (R23, R461, R464, R465, R476). What is counted at a lost link, an unknown flit and a packet's buffer are log 33. -/

namespace Sys2Proof.Machine
open Reg

/-! ### Links (R456, R457) -/

section link
variable {m : Mach} {k : Nat}

theorem Mach.linkTrained_ignored (h : m.domOn 7 = false ∨ m.fg (CHN_P_STAT k) CHN_P_STAT_state ≠ 2) (n p : Nat) :
    m.linkTrained k n p = m :=
  if_pos (by obtain h | h := h <;> simp [h])

theorem Mach.linkTrained_active (hd : m.domOn 7 = true) (hs : m.fg (CHN_P_STAT k) CHN_P_STAT_state = 2) (n p : Nat) :
    m.linkTrained k n p =
      let m := m.setChp k { rx := (m.chp k).rx, credit := (upTo 6).foldl (fun c i => spSet 0 c i (poolFlits i)) [] }
      let m := ((m.fs (CHN_P_STAT k) CHN_P_STAT_state 3).fs (CHN_P_STAT k) CHN_P_STAT_nbr_node n).fs (CHN_P_STAT k) CHN_P_STAT_nbr_port p
      (m.ev CHN_STAT CHN_STAT_up_ev).linkNotice k true :=
  if_neg (by rw [hd, hs]; decide)

theorem Mach.quietEnd_idle (h : (m.chp k).quiet = false) : m.quietEnd k = m := if_pos (by rw [h]; rfl)

theorem Mach.quietEnd_trains (h : (m.chp k).quiet = true) (hd : m.domOn 7 = true) (he : m.chnEnabled k = true) :
    m.quietEnd k = m.linkTrain k :=
  (if_neg (by rw [h]; decide)).trans (if_pos (by rw [hd, he]; rfl))

end link

/-! ### Flits (R458, R459) -/

section flit
variable {m : Mach} {k t : Nat} {f : Flit}

theorem Mach.flitRx_linkDown (hl : m.linkUp k = false) : m.flitRx k f t = m := if_pos (by rw [hl]; rfl)

variable (hl : m.linkUp k = true)
include hl

theorem Mach.flitRx_badCrc (hc : f.crcOk = false) :
    m.flitRx k f t = let m := (m.at_ t).badFlit k t; if flitSequenced f then m.sendNak k else m :=
  (if_neg (by rw [hl]; decide)).trans (if_pos (by rw [hc]; rfl))

section intact
variable (hc : f.crcOk = true) {n : Mach} (hn : (m.at_ t).flitFields k f = n)
include hc hn

/-- An intact flit on a link in service: its ack and credit fields act first. -/
theorem Mach.flitRx_intact : m.flitRx k f t =
    if !flitKnown f then n.inc (CHN_P_CRC k) CHN_P_CRC_count
    else if !flitSequenced f then n
    else if f.seq.toNat ≠ (n.chp k).rxExp then n.sendNak k
    else
      let n := n.setChp k { n.chp k with rxExp := ((n.chp k).rxExp + 1) % 256, nak := false }
      if f.kind = 1#2 then n.flitData k f else n := by
  subst hn
  exact (if_neg (by rw [hl]; decide)).trans (if_neg (by rw [hc]; decide))

theorem Mach.flitRx_unknown (hk : flitKnown f = false) : m.flitRx k f t = n.inc (CHN_P_CRC k) CHN_P_CRC_count :=
  (Mach.flitRx_intact hl hc hn).trans (if_pos (by rw [hk]; rfl))

variable (hk : flitKnown f = true)
include hk

theorem Mach.flitRx_unsequenced (hs : flitSequenced f = false) : m.flitRx k f t = n :=
  (Mach.flitRx_intact hl hc hn).trans ((if_neg (by rw [hk]; decide)).trans (if_pos (by rw [hs]; rfl)))

theorem Mach.flitRx_sequenced (hs : flitSequenced f = true) : m.flitRx k f t =
    if f.seq.toNat ≠ (n.chp k).rxExp then n.sendNak k
    else
      let n := n.setChp k { n.chp k with rxExp := ((n.chp k).rxExp + 1) % 256, nak := false }
      if f.kind = 1#2 then n.flitData k f else n :=
  (Mach.flitRx_intact hl hc hn).trans ((if_neg (by rw [hk]; decide)).trans (if_neg (by rw [hs]; decide)))

end intact

/-! ### NAK (R457, R459) -/

section nak
variable {seq : Nat} {held : List TxFlit} (hh : (m.chp k).held.dropWhile (fun f => f.seq != seq) = held)
include hh

theorem Mach.flitNak_unknown (he : held = []) (hs : seq ≠ (m.chp k).txSeq) : m.flitNak k seq = m := by
  subst hh
  exact (if_neg (by rw [hl]; decide)).trans ((if_pos (by rw [he]; rfl)).trans (if_neg hs))

/-- A NAK of a flit that is held: it is sent again with those behind it, or the link is lost. -/
theorem Mach.flitNak_held (he : held ≠ []) : m.flitNak k seq =
    if (m.chp k).replaySeq = some seq ∧ 4 ≤ (m.chp k).replays then m.linkLost k
    else
      let n := if (m.chp k).replaySeq = some seq then (m.chp k).replays + 1 else 1
      let w := (m.setChp k { m.chp k with held := held, replaySeq := some seq, replays := n }).inc (CHN_P_REPLAY k) CHN_P_REPLAY_count
      (forEach held (fun f m => m.flitOut k f) w).chnPump (m.chp k).wait.length k := by
  subst hh
  exact (if_neg (by rw [hl]; decide)).trans (if_neg (mt List.isEmpty_iff.mp he))

theorem Mach.flitNak_lost (he : held ≠ []) (hs : (m.chp k).replaySeq = some seq) (hr : 4 ≤ (m.chp k).replays) :
    m.flitNak k seq = m.linkLost k :=
  (Mach.flitNak_held hl hh he).trans (if_pos ⟨hs, hr⟩)

/-- The first replay of a flit. -/
theorem Mach.flitNak_replays (he : held ≠ []) (hs : (m.chp k).replaySeq ≠ some seq) : m.flitNak k seq =
    let w := (m.setChp k { m.chp k with held := held, replaySeq := some seq, replays := 1 }).inc (CHN_P_REPLAY k) CHN_P_REPLAY_count
    (forEach held (fun f m => m.flitOut k f) w).chnPump (m.chp k).wait.length k := by
  rw [Mach.flitNak_held hl hh he, if_neg fun hc => hs hc.1, if_neg hs]

end nak
end flit

/-! ### Packets (R23, R461, R464, R465, R476) -/

/-- This hub has room for a packet (R208, R213). -/
def Mach.chainRoom (m : Mach) (k : Nat) (h : RouteHdr) : Prop :=
  if forReports h then m.qMayBegin 51 = true else m.feed (49 + k) h.cls = []

/-- The oldest packet of a port leaves it, and its credits return (R461). -/
def Mach.packetTaken (m : Mach) (k pool n : Nat) (rest : List (Nat × Nat × List Byte)) : Mach :=
  let m := m.setChp k { m.chp k with rx := rest }
  if m.linkUp k then m.creditBack k pool n else m

section packet
variable {m : Mach} {k : Nat} {ok : Bool}

theorem Mach.chainPacketRx_none (h : (m.chp k).rx = []) : m.chainPacketRx k ok = m := by rw [Mach.chainPacketRx, h]

theorem Mach.chainRoom_iff {h : RouteHdr} :
    m.chainRoom k h ↔ (if forReports h then !m.qMayBegin 51 else !(m.feed (49 + k) h.cls).isEmpty) = false := by
  unfold Mach.chainRoom
  split <;> simp

variable {pool n : Nat} {bs : List Byte} {rest : List (Nat × Nat × List Byte)} {h : RouteHdr}
variable (hx : (m.chp k).rx = (pool, n, bs) :: rest) (hh : routeHdr bs = h)
include hx hh

theorem Mach.chainPacketRx_waits (hd : h.linkLocal = true ∨ h.dst = m.node) (hr : ¬ m.chainRoom k h) : m.chainPacketRx k ok = m := by
  have hfull := eq_true_of_ne_false (mt Mach.chainRoom_iff.mpr hr)
  subst hh
  rw [Mach.chainPacketRx, hx]
  refine if_pos ?_
  rw [hfull, Bool.and_true]
  obtain hd | hd := hd <;> simp [hd]

section taken
variable (hr : m.chainRoom k h)
include hr

theorem Mach.chainPacketRx_badParity : m.chainPacketRx k false = (m.packetTaken k pool n rest).raise 0x52 (49 + k) := by
  have hroom := Mach.chainRoom_iff.mp hr
  subst hh
  rw [Mach.chainPacketRx, hx]
  exact (if_neg (by rw [hroom, Bool.and_false]; decide)).trans (if_pos rfl)

theorem Mach.chainPacketRx_linkLocal (hl : h.linkLocal = true) :
    m.chainPacketRx k true = (m.packetTaken k pool n rest).chainLocal k h (slice bs 16 h.length) := by
  have hroom := Mach.chainRoom_iff.mp hr
  subst hh
  simp only [Mach.chainPacketRx, hx, hroom, hl, Bool.and_false, Bool.true_or, Bool.not_true, Bool.false_and, Bool.false_eq_true, if_false,
    if_true]
  rfl

theorem Mach.chainPacketRx_badJoin (hl : h.linkLocal = false)
    (hj : (m.packetTaken k pool n rest).fg (CHN_ROUTE h.src) CHN_ROUTE_join ≠ h.join) :
    m.chainPacketRx k true = (m.packetTaken k pool n rest).inc (CHN_P_DROP k) CHN_P_DROP_count := by
  have hroom := Mach.chainRoom_iff.mp hr
  subst hh
  rw [Mach.chainPacketRx, hx]
  exact (if_neg (by rw [hroom, Bool.and_false]; decide)).trans ((if_neg (by decide)).trans
    (if_pos (by rw [hl, Bool.not_false, Bool.true_and]; exact bne_iff_ne.mpr hj)))

end taken
end packet

/-! ### The obligation -/

/-- Settles O43: each event by the state of its port, a flit and a NAK by what the port expects and holds, a packet by the room for it. -/
theorem chainLinksCarryFlits : Obligations.ChainLinksCarryFlits := by
  refine ⟨fun n j s h p => ?_, fun k p n s hd hs => ?_, fun k s => ⟨fun hl => ?_, fun hl => ?_, fun hq => ?_, fun hq hd he => ?_⟩,
    fun k f t s => ⟨fun hl => ?_, fun hl => ⟨fun hc => ?_, fun hc => ?intact⟩⟩, fun k q s => ?nak,
    fun k ok s => ⟨fun h => ?_, fun pool n bs rest hx => ?packet⟩⟩
  · exact next_congr (Mach.linkTrained_ignored h n p)
  · exact next_congr (Mach.linkTrained_active hd hs n p)
  · exact next_congr (if_pos (by rw [hl]; rfl))
  · exact next_congr (if_neg (by rw [hl]; decide))
  · exact next_congr (Mach.quietEnd_idle hq)
  · exact next_congr (Mach.quietEnd_trains hq hd he)
  · exact next_congr (Mach.flitRx_linkDown hl)
  · exact next_congr (Mach.flitRx_badCrc hl hc)
  case intact =>
    refine ⟨fun hk => ?_, fun hk hs => ?_, fun hk hs he => ?_, fun hk hs he => ?_⟩
    · exact next_congr (Mach.flitRx_unknown hl hc rfl hk)
    · exact next_congr (Mach.flitRx_unsequenced hl hc rfl hk hs)
    · exact next_congr ((Mach.flitRx_sequenced hl hc rfl hk hs).trans (if_pos he))
    · exact next_congr ((Mach.flitRx_sequenced hl hc rfl hk hs).trans (if_neg (not_not_intro he)))
  case nak =>
    intro x held hl
    refine ⟨fun he hs => ?_, fun he hs hr => ?_, fun he hs => ?_⟩
    · exact next_congr (Mach.flitNak_unknown hl rfl he hs)
    · exact next_congr (Mach.flitNak_lost hl rfl he hs hr)
    · exact next_congr (Mach.flitNak_replays hl rfl he hs)
  · exact next_congr (Mach.chainPacketRx_none h)
  case packet =>
    intro h data m₁ m room
    refine ⟨fun hr hok => ?_, fun hd hr => ?_, fun hl hr hok => ?_, fun hl hr hok hj => ?_⟩
    · subst hok
      exact next_congr (Mach.chainPacketRx_badParity hx rfl hr)
    · exact next_congr (Mach.chainPacketRx_waits hx rfl hd hr)
    · subst hok
      exact next_congr (Mach.chainPacketRx_linkLocal hx rfl hr hl)
    · subst hok
      exact next_congr (Mach.chainPacketRx_badJoin hx rfl hr hl hj)

end Sys2Proof.Machine
end

section
/-! The power domains (O41): DOMAIN_SET and DOMAIN_STATUS (R511, R512, R517, R521, R527), the ends of an entry and of an exit (R518, R519),
wake sources (R525), islands and the assist (R514, R515), and core wake (R528). BUSY where another waits for the domain, the order of core
off and failed exits are log 32; that a warm-retain reset waits for D4 is log 28. -/

namespace Sys2Proof.Machine
open Reg

/-! ### DOMAIN_SET (R511, R512, R517, R521) -/

section domainSet
variable {m : Mach} {c : Cmd} {d : Nat} (wake : Nat) (hd : domOfCode (c.b 8) = some d)
variable (hv : m.serves c (cmdBare c) ((domOfCode (c.b 8)).isSome && decide (c.b 9 ≤ 2)) = true)
include hd hv

theorem Mach.domainSet_moving (hm : (m.domMove d).isSome = true) : m.domainSet c wake = m.reply c 0x0A := by
  rw [Mach.domainSet, Mach.serve_of_serves _ hv, hd]
  exact if_pos (by rw [Option.getD_some, hm, Bool.true_or])

variable (hm : m.domMove d = none) (ho : m.pwr.coreOff = none)
include hm ho

/-- A domain at rest, while no core off runs. -/
theorem Mach.domainSet_rest {n : Mach} (hn : m.startRun { cmd := c } = n) : m.domainSet c wake =
    if m.domState d = c.b 9 then m.reply c 0
    else if c.b 9 = 0 then
      if (m.domNeeds d).any (fun e => (m.domMove e).isSome) then m.reply c 0x0A else n.domTurnOn d (some c)
    else if d = 0 && c.b 9 == 2 then
      if m.coreMoving || m.coreWanted then m.reply c 0x0A
      else if wake ≠ 0 then (m.countRefuser d (c.b 9) c.arrival.val 1 false).reply c 0x12 1
      else if c.arrival.val ≠ 1 then (m.countRefuser d (c.b 9) c.arrival.val 0x0C false).reply c 0x12 0x0C
      else Mach.coreOffNext { n with pwr := { n.pwr with coreOff := some c } }
    else if m.domWanted d then m.reply c 0x0A
    else match m.refuser d (c.b 9) c.arrival.val (m.wakeOf d wake != 0) true with
      | some code => (m.countRefuser d (c.b 9) c.arrival.val code false).reply c 0x12 code
      | none => if m.domState d = 2 then m.reply c 0x13 else n.domEnter d (c.b 9) (some c) c.arrival.val := by
  subst hn
  rw [Mach.domainSet, Mach.serve_of_serves _ hv, hd]
  exact if_neg (by simp [hm, ho])

theorem Mach.domainSet_there (hs : m.domState d = c.b 9) : m.domainSet c wake = m.reply c 0 :=
  (Mach.domainSet_rest wake hd hv hm ho rfl).trans (if_pos hs)

variable (hs : m.domState d ≠ c.b 9)
include hs

theorem Mach.domainSet_on (ht : c.b 9 = 0) (hn : (m.domNeeds d).any (fun e => (m.domMove e).isSome) = false) :
    m.domainSet c wake = (m.startRun { cmd := c }).domTurnOn d (some c) := by
  rw [Mach.domainSet_rest wake hd hv hm ho rfl, if_neg hs, if_pos ht, if_neg (ne_true_of_eq_false hn)]

section entry
variable (ht : c.b 9 ≠ 0) (h0 : d = 0 → c.b 9 ≠ 2)
include ht h0

theorem Mach.domainSet_wanted (hw : m.domWanted d = true) : m.domainSet c wake = m.reply c 0x0A := by
  rw [Mach.domainSet_rest wake hd hv hm ho rfl, if_neg hs, if_neg ht, if_neg (by simpa using h0), if_pos hw]

variable (hw : m.domWanted d = false)
include hw

theorem Mach.domainSet_refused {code : Nat}
    (hr : m.refuser d (c.b 9) c.arrival.val (m.wakeOf d wake != 0) true = some code) :
    m.domainSet c wake = (m.countRefuser d (c.b 9) c.arrival.val code false).reply c 0x12 code := by
  rw [Mach.domainSet_rest wake hd hv hm ho rfl, if_neg hs, if_neg ht, if_neg (by simpa using h0), if_neg (ne_true_of_eq_false hw), hr]

theorem Mach.domainSet_enters (hr : m.refuser d (c.b 9) c.arrival.val (m.wakeOf d wake != 0) true = none) (h2 : m.domState d ≠ 2) :
    m.domainSet c wake = (m.startRun { cmd := c }).domEnter d (c.b 9) (some c) c.arrival.val := by
  rw [Mach.domainSet_rest wake hd hv hm ho rfl, if_neg hs, if_neg ht, if_neg (by simpa using h0), if_neg (ne_true_of_eq_false hw), hr]
  exact if_neg h2

end entry

/-- Core off begins (R527). -/
theorem Mach.domainSet_coreOff (h0 : d = 0) (ht : c.b 9 = 2) (hcm : m.coreMoving = false) (hcw : m.coreWanted = false)
    (hw : wake = 0) (hch : c.arrival.val = 1) : m.domainSet c wake =
      Mach.coreOffNext { m.startRun { cmd := c } with pwr := { (m.startRun { cmd := c }).pwr with coreOff := some c } } := by
  rw [Mach.domainSet_rest wake hd hv hm ho rfl, if_neg hs, if_neg (by omega), if_pos (by rw [h0, ht]; rfl),
    if_neg (by rw [hcm, hcw]; decide), if_neg (not_not_intro hw), if_neg (not_not_intro hch)]

end domainSet

theorem Mach.domainStatus_answers {m : Mach} {c : Cmd} {d : Nat} (hd : domOfCode (c.b 8) = some d)
    (hv : m.serves c (cmdBare c) (domOfCode (c.b 8)).isSome = true) :
    m.domainStatus c = m.reply c 0 (f12 (m.rg (pwrStat d)).toNat) := by
  rw [Mach.domainStatus, Mach.serve_of_serves _ hv, hd]
  rfl

/-! ### The end of an entry (R518, R521) -/

section drain
variable {m : Mach} {d : Nat} (ok : Bool)

theorem Mach.domainDrainDone_rest (h : m.domMove d = none) : m.domainDrainDone d ok = m := by
  rw [Mach.domainDrainDone, h]

theorem Mach.domAbort_rest (h : m.domMove d = none) (code : Nat) : m.domAbort d code = m := by
  rw [Mach.domAbort, h]

variable {ok} {x : DomMove} (h : m.domMove d = some x) (he : x.entering = true)
include h he

theorem Mach.domainDrainDone_enters (h0 : d ≠ 0) (h3 : d ≠ 3) (h4 : d ≠ 4) (h5 : d ≠ 5) (h14 : d ≠ 14) :
    m.domainDrainDone d ok = (m.domEntered d x).domPump.coreOffNext := by
  simp only [Mach.domainDrainDone, h, he, h0, h3, h4, h5, h14, Bool.not_true, Bool.false_eq_true, decide_false, Bool.false_and, Bool.or_self,
    if_false]

theorem Mach.domainDrainDone_dram (h4 : d = 4) (hs : m.dmc.slots = []) : m.domainDrainDone d ok =
    if x.target = 1 ∧ (m.initDone = false ∨ ok = false) then m.domAbort d 0x04 else (m.domEntered d x).domPump.coreOffNext := by
  subst h4
  simp only [Mach.domainDrainDone, h, he, hs]
  simp [dsRet]

theorem Mach.domainDrainDone_core {c : Cmd} (h0 : d = 0) (hc : m.pwr.coreOff = some c) (hb : m.dieBusy = false) :
    m.domainDrainDone d ok = m.corePowerDown c := by
  subst h0
  simp only [Mach.domainDrainDone, h, he, hc, hb]
  rfl

end drain

/-! ### The end of an exit (R512, R519) -/

section exit
variable {m : Mach} {g d : Nat} {t : Int}

theorem Mach.domainExitDone_rest (h : m.domMove d = none) : m.domainExitDone g d t = m := by
  rw [Mach.domainExitDone, h]

variable {x : DomMove} (h : m.domMove d = some x) (he : x.entering = false)
include h he

theorem Mach.domainExitDone_dram (h4 : d = 4) (hb : x.begun = false) : m.domainExitDone g d t = m.dramExit x t := by
  subst h4
  rw [Mach.domainExitDone, h]
  exact (if_neg (ne_true_of_eq_false he)).trans (if_pos (by rw [hb]; rfl))

theorem Mach.domainExitDone_other (h4 : d ≠ 4) : m.domainExitDone g d t =
    if m.domState d == 2 && m.exitFails d then ((m.setMove d none).domFailed d 0x13).coreOffNext
    else (m.domArrives g d).domPump.coreOffNext := by
  simp only [Mach.domainExitDone, h, he, h4, decide_false, Bool.false_and, Bool.false_eq_true, if_false]
  rfl

end exit

/-! ### Wake sources and islands (R514, R518, R525) -/

section wake
variable {m : Mach} {d src : Nat}

theorem Mach.domainWakeSource_disabled (h : m.wakeOf d (2 ^ src) = 0) : m.domainWakeSource d src = m := if_pos h

variable (hw : m.wakeOf d (2 ^ src) ≠ 0)
include hw

theorem Mach.domainWakeSource_aborts {x : DomMove} (hm : m.domMove d = some x) : m.domainWakeSource d src = m.domAbort d 1 := by
  rw [Mach.domainWakeSource, if_neg hw, hm]

variable (hm : m.domMove d = none)
include hm

theorem Mach.domainWakeSource_awake (ho : m.domOn d = true ∨ m.pwr.turnOn.any (·.1.contains d) = true) : m.domainWakeSource d src = m := by
  rw [Mach.domainWakeSource, if_neg hw, hm]
  exact if_pos (by obtain ho | ho := ho <;> simp only [ho, Bool.true_or, Bool.or_true])

theorem Mach.domainWakeSource_turnsOn (ho : m.domOn d = false) (ht : m.pwr.turnOn.any (·.1.contains d) = false) :
    m.domainWakeSource d src = (m.ev (pwrStat d) PWR_D_STAT_wake_ev).domTurnOn d none := by
  rw [Mach.domainWakeSource, if_neg hw, hm]
  exact if_neg (by rw [ho, ht]; decide)

end wake

section island
variable {m : Mach} {d i : Nat}

theorem Mach.islandSleep_sleeps (hd : m.domOn d = true) (hi : m.isl d i = 1) (hc : m.fg (PWR_D_CFG d) PWR_D_CFG_sleep_idle ≠ 0)
    (hb : m.sleepBarred d = false) : m.islandSleep d i = m.setIsl d i 2 :=
  if_pos (by simp [hd, hi, hc, hb])

theorem Mach.islandSleep_ignored (h : m.domOn d = false ∨ m.isl d i ≠ 1 ∨ m.fg (PWR_D_CFG d) PWR_D_CFG_sleep_idle = 0 ∨
    m.sleepBarred d = true) : m.islandSleep d i = m :=
  if_neg (by obtain h | h | h | h := h <;> simp [h])

end island

/-! ### Core wake (R528) -/

section coreWake
variable {s : State} {b : Bool} (h : getF s.m.wakeWord (if b then PWR_CORE_WAKE_waken else PWR_CORE_WAKE_smbus) ≠ 0)
include h

theorem exec_coreWakeEvent_down (ho : s.m.pwr.off = true) : exec (.coreWakeEvent b) s = .next (s.chipReset rsCoreWake 0 false) :=
  (if_neg h).trans (if_pos ho)

theorem exec_coreWakeEvent_up (ho : s.m.pwr.off = false) : exec (.coreWakeEvent b) s = .next { s with m := s.m.coreWoken } :=
  (if_neg h).trans (if_neg (ne_true_of_eq_false ho))

end coreWake

/-! ### The obligation -/

/-- An entry's end is followed by the warm-retain reset that waits for D4 (R578). -/
theorem next_retainEnd_congr {s : State} {m n : Mach} (h : m = n) :
    (.next (State.retainEnd { s with m := m }) : Host.Outcome State Fault Refusal) = .next (State.retainEnd { s with m := n }) := by rw [h]

/-- Settles O41: each command and event by the transition that the domain is in and by the state it has. -/
theorem domainsEnterLeaveAndIdle : Obligations.DomainsEnterLeaveAndIdle := by
  refine ⟨fun c w s d hd hv => ?set, fun c s d hd hv => ?_, fun d s => ⟨fun h => ⟨fun ok => ?_, fun t => ?_, ?_⟩, fun x h => ?moving,
    fun src => ⟨fun hw => ?_, fun hw => ⟨fun x hm => ?_, fun hm ho => ?_, fun hm ho ht => ?_⟩⟩⟩,
    fun d i s => ⟨fun hd => ⟨?_, fun hi => ?_, fun hi hc hb => ?_, fun h => ?_⟩, fun hd => ⟨?_, ?_, ?_⟩⟩, fun mv s => ?assist,
    fun b s => ⟨fun h => if_pos h, exec_coreWakeEvent_down, exec_coreWakeEvent_up⟩⟩
  case set =>
    intro t ch
    refine ⟨fun hm => ?_, fun hm ho => ⟨fun hs => ?_, fun hs ht hn => ?_, fun hs ht h0 hw => ?_,
      fun hs ht h0 hw => ⟨fun code hr => ?_, fun hr h2 => ?_⟩, fun h0 ht hs hcm hcw hw hch => ?coreOff⟩⟩
    · exact next_congr (Mach.domainSet_moving w.toNat hd hv hm)
    · exact next_congr (Mach.domainSet_there w.toNat hd hv hm ho hs)
    · exact next_congr (Mach.domainSet_on w.toNat hd hv hm ho hs ht hn)
    · exact next_congr (Mach.domainSet_wanted w.toNat hd hv hm ho hs ht h0 hw)
    · exact next_congr (Mach.domainSet_refused w.toNat hd hv hm ho hs ht h0 hw hr)
    · exact next_congr (Mach.domainSet_enters w.toNat hd hv hm ho hs ht h0 hw hr h2)
    case coreOff =>
      have hs' : s.m.domState d ≠ c.b 9 := by rw [h0]; exact fun e => hs (e.trans ht)
      exact next_congr (Mach.domainSet_coreOff w.toNat hd hv hm ho hs' h0 ht hcm hcw (by rw [hw]; rfl) hch)
  · exact next_congr (Mach.domainStatus_answers hd hv)
  · exact next_retainEnd_congr (Mach.domainDrainDone_rest ok h)
  · exact next_congr (Mach.domainExitDone_rest h)
  · exact next_retainEnd_congr (Mach.domAbort_rest h _)
  case moving =>
    refine ⟨fun he h0 h3 h4 h5 h14 ok => ?_, fun he h4 hs ok => ?_, fun c he h0 hc hb ok => ?_, rfl,
      fun t he h4 => ⟨fun hs hf => ?_, fun hs => ?_⟩, fun t he h4 hb => ?_⟩
    · exact next_retainEnd_congr (Mach.domainDrainDone_enters h he h0 h3 h4 h5 h14)
    · exact next_retainEnd_congr (Mach.domainDrainDone_dram h he h4 hs)
    · exact next_retainEnd_congr (Mach.domainDrainDone_core h he h0 hc hb)
    · exact next_congr ((Mach.domainExitDone_other h he h4).trans (if_pos (by rw [hs, hf]; rfl)))
    · exact next_congr ((Mach.domainExitDone_other h he h4).trans (if_neg (by obtain hs | hs := hs <;> simp [hs])))
    · exact next_congr (Mach.domainExitDone_dram h he h4 hb)
  · exact next_congr (Mach.domainWakeSource_disabled hw)
  · exact next_congr (Mach.domainWakeSource_aborts hw hm)
  · exact next_congr (Mach.domainWakeSource_awake hw hm ho)
  · exact next_congr (Mach.domainWakeSource_turnsOn hw hm ho ht)
  · exact next_congr (if_pos hd)
  · exact next_congr (if_pos (by rw [hd, hi]; rfl))
  · exact next_congr (Mach.islandSleep_sleeps hd hi hc hb)
  · exact next_congr (Mach.islandSleep_ignored (.inr h))
  · exact next_congr (if_neg (ne_true_of_eq_false hd))
  · exact next_congr (if_neg (by rw [hd, Bool.false_and]; decide))
  · exact next_congr (Mach.islandSleep_ignored (.inl hd))
  case assist =>
    refine ⟨fun h => next_congr (if_pos h), fun hlo hhi => ?_, fun h => ?_⟩
    · exact next_congr ((if_neg (Nat.not_lt.mpr hlo)).trans (if_neg (Nat.not_lt.mpr hhi)))
    · exact next_congr ((if_neg (by omega)).trans (if_pos h))

end Sys2Proof.Machine
end
